-- ==== Sys2Proof/Word.lean ====
section
/-! DEFINITION. The word types of the HUP-7740: the 32-bit word, the octet, the 4-bit tag (R268) and the tagged word. -/

namespace Sys2Proof

/-- A 32-bit data word (R5). -/
abbrev Word := BitVec 32

/-- An octet. -/
abbrev Byte := BitVec 8

/-- The 4-bit type carried with every data word (R268). -/
inductive Tag where
  | raw | int | nat | fix | dptr | cptr | time | ctx | key | bytes | bool | user1 | user2 | user3 | poison | void
  deriving DecidableEq, Repr

/-- The tag code of R268. -/
def Tag.code : Tag → Nat
  | .raw => 0x0 | .int => 0x1 | .nat => 0x2 | .fix => 0x3 | .dptr => 0x4 | .cptr => 0x5 | .time => 0x6 | .ctx => 0x7
  | .key => 0x8 | .bytes => 0x9 | .bool => 0xA | .user1 => 0xB | .user2 => 0xC | .user3 => 0xD | .poison => 0xE
  | .void => 0xF

/-- The tag of a 4-bit code (R268): only the low four bits of `n` count. -/
def Tag.ofCode (n : Nat) : Tag :=
  match n % 16 with
  | 0 => .raw | 1 => .int | 2 => .nat | 3 => .fix | 4 => .dptr | 5 => .cptr | 6 => .time | 7 => .ctx
  | 8 => .key | 9 => .bytes | 10 => .bool | 11 => .user1 | 12 => .user2 | 13 => .user3 | 14 => .poison | _ => .void

/-- A data word with its tag. -/
structure TWord where
  data : Word
  tag : Tag
  deriving DecidableEq, Repr

/-- The word of a natural number, modulo 2^32. -/
abbrev Word.ofNat (n : Nat) : Word := BitVec.ofNat 32 n

/-- A word that must not be used, or that nothing has written (R231, R268). -/
def Tag.bad : Tag → Bool
  | .poison => true
  | .void => true
  | _ => false

end Sys2Proof
end

