-- ==== Sys2Proof/Syntax.lean ====
section
/-! DEFINITION. The commands of the HUP-7740 modelled as a block: one constructor of `Instr` per row of the spec's opcode table, with the
row's operands.  An operand that names a unit has exactly the unit's range (`Fin 72` for a lane); an operand that the physical world
supplies (a stamp, a power, received octets) is carried as the command's operand. -/

namespace Sys2Proof

/-- The masters of R34: a Spindle slot, a Bowl slot, or the Spout engine acting for a transport (R333: 0 UART, 1 QSP slave, 2 Aqueduct,
3 over the air). -/
inductive Master where
  | spindle (slot : Fin 8)
  | bowl (slot : Fin 4)
  | spout (transport : Fin 4)
  deriving DecidableEq, Repr

/-- A time stamp of R18: the 48-bit TICK and the 10-bit fraction. -/
structure Stamp where
  tick : BitVec 48
  frac : BitVec 10
  deriving DecidableEq, Repr

/-- One event of link training on a cable port (R200, R201): an initiator starts the wake tone; a responder has seen line activity for
WAKE_US; the initiator detects the reply; the two EXCHANGE copies received; the end of a FULL period with the slicer inputs of its last 4 ms
(in 1/256 of R197's unit) and the 64 flag symbols received (1 positive, bit 0 first); the peer stops answering; and, with the link UP, the
end of a span of 1,024 symbols with its slicer inputs (R210). -/
inductive TrainEvent where
  | wakeTone
  | activity
  | reply
  | exchange (w1 w2 : BitVec 64)
  | full (y : List Int) (flag : BitVec 64)
  | peerGone
  | span (y : List Int)
  deriving DecidableEq, Repr

/-- The resets that can arrive while an F reset waits (R352). -/
inductive ResetKind where
  | brownOut | pin | spout
  deriving DecidableEq, Repr

/-- Where an FL instruction takes its Flume number from (R256): X[9:4], or register b. -/
inductive FlumeSel where
  | imm (n : Fin 64)
  | reg (b : Fin 16)
  deriving DecidableEq, Repr


/-- How a whole Spout packet completes (R369): its octets on SPOUT_RX, or as the next packet of the over-the-air Flume. -/
inductive Arrival where
  | uart (octets : List Byte)
  | ota
  deriving DecidableEq, Repr

/-- A report of a port's power-amplifier supply (R133): at fraction `f` the VPA of `port` stands at `mv` mV. -/
structure VpaReport where
  port : Fin 2
  mv : BitVec 13
  f : BitVec 10
  deriving DecidableEq, Repr

/-- What a sleep did to memory (R272, R276): the SRAM word indexes with the physical bits that changed, and the keys of program memory,
decode-table and microcode words with theirs. -/
structure SleepUpsets where
  sram : List (BitVec 21 × BitVec 43)
  code : List (BitVec 22 × BitVec 55)
  deriving DecidableEq, Repr

/-- On-off keying of a carrier (R152): the bit rate in bits a second, and the chips in order, true where the carrier is on. -/
structure Keying where
  rate : Nat
  chips : List Bool
  deriving DecidableEq, Repr

/-- What the activity path of Ripple receiver `r` sees (R306): the envelope's peaks in dBm in the 1 ms slots up to the one that ends, latest
first, and whether these slots carry a call that satisfies the address path. -/
structure EnvelopeSlots where
  r : Fin 2
  peaks : List Int
  call : Bool
  deriving DecidableEq, Repr

/-- A load from the direct map (R5, R377): the master and the offset in the map. -/
structure MapAccess where
  m : Master
  a : BitVec 24
  deriving DecidableEq, Repr


/-- The commands, one per row of the opcode table: those with operands in its order, then those without. -/
inductive Instr where
  /-- REGISTER_WRITE (R8): a master writes the register at addr -/
  | registerWrite (m : Master) (addr : BitVec 32) (whole : Bool) (value : Word)
  /-- TAG_ALIAS_WRITE (R32): a master writes the tag-alias word of the SRAM address offset -/
  | tagAliasWrite (m : Master) (offset : BitVec 32) (value : Word)
  /-- PORT_EN (R38): BASIN.CTRL.PORT_EN of port p is written -/
  | portEn (p : Fin 2) (on : Bool)
  /-- AGC_STEP (R40): the automatic gain control of port p steps its index up or down by one -/
  | agcStep (p : Fin 2) (up : Bool)
  /-- PREAMBLE_DECLARATION (R44): detector d evaluates at sample index sample the window that began at start: z are its discriminator samples in Hz, one a symbol, latest first -/
  | preambleDeclaration (d : Fin 128) (start : Stamp) (sample : Nat) (z : List Int) (power : Nat)
  /-- SYNC_MATCH (R53): at fraction f it is known that the discriminator samples z (Hz, one a symbol, in order), which end at tick and frac, lie where lane n looks for its sync word -/
  | syncMatch (n : Fin 72) (tick : BitVec 48) (frac : BitVec 10) (z : List Int) (energy : Nat) (count : BitVec 16) (f : BitVec 10)
  /-- SYNC_TIMEOUT (R48): lane n has found no sync word up to the air instant at_ -/
  | syncTimeout (n : Fin 72) (at_ : Stamp)
  /-- PHR_END (R146): lane n has decoded the header phr (bit i of phr is the i-th bit of the field on the air -/
  | phrEnd (n : Fin 72) (phr : BitVec 16) (z : List Int) (power : Nat)
  /-- LAST_OCTET (R48): the PSDU of lane n is complete: its octets as received on the air (after any FEC decoding, before any dewhitening) and the discriminator samples of its symbols (Hz) -/
  | lastOctet (n : Fin 72) (octets : List Byte) (z : List Int)
  /-- FADE (R48): the power of lane n's group stayed below ED_FLOOR for FADE_SYM symbols after these octets, given as LAST_OCTET gives them -/
  | fade (n : Fin 72) (octets : List Byte) (z : List Int)
  /-- LANE_DRAIN_END (R60): A lane in DRAIN writes or drops its eight-word record and returns to IDLE, PIN_WAIT or a waiting request. -/
  | laneDrainEnd (n : Fin 72)
  /-- LANE_ABORT (R67): LANE_ABORT.GO ends the named lane with ABORTED. -/
  | laneAbort (n : Fin 72)
  /-- LANE_ABORT_ALL (R67): LANE_ABORT.ALL_A or ALL_B ends every lane of the port in SEARCH or DEMOD with ABORTED. -/
  | laneAbortAll (p : Fin 2)
  /-- BLANK_END (R61): 20 µs after relock at fc the port is unblanked and gain control restarts. -/
  | blankEnd (p : Fin 2)
  /-- LANE_TEST_END (R66): the live test of lane n ends -/
  | laneTestEnd (n : Fin 72) (pass : Bool)
  /-- ARM (R75): LATHE.CMD is written with OP ARM at fraction f -/
  | arm (slot : BitVec 13) (f : BitVec 10)
  /-- ARM_RESYNC (R75): LATHE.CMD is written with OP ARM_RESYNC at fraction f -/
  | armResync (slot : BitVec 13) (f : BitVec 10)
  /-- DISARM (R75): LATHE.CMD is written with OP DISARM at fraction f -/
  | disarm (slot : BitVec 13) (f : BitVec 10)
  /-- REBUILD (R75): LATHE.CMD is written with OP REBUILD -/
  | rebuild (slot : BitVec 13)
  /-- EVENT_DUE (R87): the heap head's due instant has come, at fraction f -/
  | eventDue (f : BitVec 10)
  /-- LISTEN_END (R92): A window reaches its listen end and, if never hit, Lathe writes an EMPTY notice. -/
  | listenEnd (f : BitVec 10)
  /-- COMMIT_HEARD (R100): A HEARD commit clears MISSES, advances COUNTER and reschedules from the new anchor. -/
  | commitHeard (slot : BitVec 13) (ctr : BitVec 8) (f : BitVec 10)
  /-- COMMIT_MISSED (R100): A MISSED commit adds a miss, advances COUNTER and reschedules. -/
  | commitMissed (slot : BitVec 13) (ctr : BitVec 8) (f : BitVec 10)
  /-- COMMIT_SENT (R100): A SENT commit advances COUNTER and ANCHOR of a LEAD context. -/
  | commitSent (slot : BitVec 13) (ctr : BitVec 8) (f : BitVec 10)
  /-- COMMIT_NOT_SENT (R100): A NOT_SENT commit advances a LEAD context as SENT does. -/
  | commitNotSent (slot : BitVec 13) (ctr : BitVec 8) (f : BitVec 10)
  /-- COMMIT_LOSE (R100): A LOSE commit advances COUNTER and sends the context to LOST. -/
  | commitLose (slot : BitVec 13) (ctr : BitVec 8) (f : BitVec 10)
  /-- COMMIT_RELEASE (R100): A RELEASE commit frees the context slot. -/
  | commitRelease (slot : BitVec 13) (ctr : BitVec 8) (f : BitVec 10)
  /-- SYN_EN (R103): SYN_CTRL.EN of port p is written, the junction temperature being temp (°C) -/
  | synEn (p : Fin 2) (on : Bool) (temp : Int)
  /-- FC_WRITE (R104): RFx.FC of port p is written, the junction temperature being temp (°C) -/
  | fcWrite (p : Fin 2) (hz : BitVec 30) (temp : Int)
  /-- CALIBRATION_DONE (R106): the calibration of port p ends at junction temperature temp (°C) -/
  | calibrationDone (p : Fin 2) (temp : Int)
  /-- LOCK_ACHIEVED (R103): The synthesiser achieves lock at fc or at the transmit frequency. -/
  | lockAchieved (p : Fin 2)
  /-- LOCK_FAILURE (R105): A lock attempt passes 110 µs without lock and is reported, retried or failed. -/
  | lockFailure (p : Fin 2)
  /-- CAL_GO (R107): RFx.CAL.GO requests a calibration of a segment, held until allowed. -/
  | calGo (p : Fin 2) (hz : BitVec 30)
  /-- CAL_FLUSH (R107): RFx.CAL.FLUSH empties the calibration cache. -/
  | calFlush (p : Fin 2)
  /-- CAL_HELD_START (R107): A held calibration request starts once nothing holds it. -/
  | calHeldStart (p : Fin 2)
  /-- SCHEDULED_DESCRIPTOR (R109): The chain reads a whole scheduled descriptor, matches it and copies the frame. -/
  | scheduledDescriptor (p : Fin 2)
  /-- FREE_DESCRIPTOR (R109): the chain of port p reads a free descriptor at fraction f -/
  | freeDescriptor (p : Fin 2) (f : BitVec 10)
  /-- CLAIM (R111): a claim instant of port p has come at fraction f and junction temperature temp -/
  | claim (p : Fin 2) (f : BitVec 10) (temp : Int)
  /-- CLEARANCE (R128): C of a request of port p has come at fraction f -/
  | clearance (p : Fin 2) (f : BitVec 10)
  /-- RAMP_START (R111): E of the granted transmission of port p has come at fraction f -/
  | rampStart (p : Fin 2) (f : BitVec 10)
  /-- LAST_SYMBOL_END (R111): the last symbol of port p's transmission ends at fraction f -/
  | lastSymbolEnd (p : Fin 2) (f : BitVec 10)
  /-- PA_OFF (R131): the power amplifier of port p is off at fraction f -/
  | paOff (p : Fin 2) (f : BitVec 10)
  /-- TX_ABORT_NOW (R117): TX_ABORT.NOW ends the present transmission with ABORTED. -/
  | txAbortNow (p : Fin 2)
  /-- TX_ABORT_FREE (R117): TX_ABORT.FREE withdraws unclaimed free transmissions. -/
  | txAbortFree (p : Fin 2)
  /-- TX_ABORT_ALL (R117): TX_ABORT.ALL ends every held request and the present transmission. -/
  | txAbortAll (p : Fin 2)
  /-- DWELL_CUT (R134): the PA-on time of port p reaches MAXTX_MS of a covering record at fraction f -/
  | dwellCut (p : Fin 2) (f : BitVec 10)
  /-- WEIR_SELF_CHECK_FAIL (R134): the check with code 0x11 + code of R415 fails -/
  | weirSelfCheckFail (code : Fin 3)
  /-- SUPPLY_RULE_RELEASE (R133): VMAIN and the reported VPA have stood at least 50 mV above their levels for 1 ms -/
  | supplyRuleRelease (v : VpaReport)
  /-- VPA_LOW (R133): the VPA of a port falls to the reported level -/
  | vpaLow (v : VpaReport)
  /-- JOB_DISPATCH (R156): physical core c is free and the scheduler dispatches to it -/
  | jobDispatch (c : Fin 9)
  /-- JOB_COMPLETE (R161): the job of physical core c ends -/
  | jobComplete (c : Fin 9)
  /-- KEY_WRITE (R162): KCTRL.WRITE commits KDATA and SIZE to the selected key entry. -/
  | keyWrite (size : BitVec 2)
  /-- ACQUIRE (R170): LOCK ACQUIRE takes the Chisel lease if none is held. -/
  | acquire (token : BitVec 16)
  /-- RENEW (R170): LOCK RENEW resets the holder's lease expiry. -/
  | renew (token : BitVec 16)
  /-- RELEASE (R170): LOCK RELEASE ends the holder's lease. -/
  | release (token : BitVec 16)
  /-- BREAK (R170): LOCK BREAK ends the lease whatever the token. -/
  | lockBreak (token : BitVec 16)
  /-- FLUME_ENABLE (R179): FLUME.CFG[n] is written with EN = 1 -/
  | flumeEnable (n : Fin 64) (base : BitVec 10) (size : BitVec 11) (nolimit : Bool)
  /-- FLUME_DISABLE (R180): FLUME.CFG[n] is written with EN = 0 -/
  | flumeDisable (n : Fin 64) (base : BitVec 10) (size : BitVec 11) (nolimit : Bool)
  /-- FLUME_PUSH (R194): A write of FLUME.PUSH writes one word with PUSH_ATTR. -/
  | flumePush (n : Fin 64) (data : Word)
  /-- FLUME_POP (R194): A read of FLUME.POP removes the head entry and captures its attributes. -/
  | flumePop (n : Fin 64)
  /-- STALLED_READ_DONE (R185): An entry arrives and a core stalled on the Flume takes it. -/
  | stalledReadDone (n : Fin 64)
  /-- STALL_TRAP (R187): A stalled read reaches the stall limit and traps FLUME with cause STALL. -/
  | stallTrap (n : Fin 64)
  /-- LINK_TRAINING (R200): one event of the training of port p -/
  | linkTraining (p : Fin 2) (ev : TrainEvent)
  /-- NOREPLY (R202): No reply tone arrives within WAKE_MS and the initiator returns to QUIET. -/
  | noreply (p : Fin 2)
  /-- BACKOFF_END (R202): The retry back-off ends and the initiator tries again. -/
  | backoffEnd (p : Fin 2)
  /-- LOSS_OF_SIGNAL (R199): In UP the SNR or decoding fails for LOS_MS and the link goes to QUIET. -/
  | lossOfSignal (p : Fin 2)
  /-- AQ_RX_HEADER (R206): port p decodes the header hdr (octet 0 in bits 7:0) after a sync stamped stamp -/
  | aqRxHeader (p : Fin 2) (hdr : BitVec 48) (stamp : Stamp)
  /-- AQ_RX_FRAME_END (R208): at fraction f the payload and CRC of port p's frame have been received -/
  | aqRxFrameEnd (p : Fin 2) (octets : List Byte) (crc : BitVec 32) (y : List Int) (clkoff : Int) (f : BitVec 10)
  /-- AQ_TX_DESCRIPTOR (R211): port p's transmitter reads a descriptor -/
  | aqTxDescriptor (p : Fin 2) (stamp : Stamp)
  /-- AQ_FRAME_BOUNDARY (R215): port p's transmitter reaches a frame boundary -/
  | aqFrameBoundary (p : Fin 2) (stamp : Stamp)
  /-- AQ_TX_DONE (R212): A transmitted frame ends and its report is written. -/
  | aqTxDone (p : Fin 2)
  /-- AQ_PORT_EN (R221): AQUA.PCTRL[p].EN and ROLE are written -/
  | aqPortEn (p : Fin 2) (on : Bool) (role : Bool)
  /-- RETRAIN (R221): PCTRL.RETRAIN ends the link and starts or awaits training. -/
  | retrain (p : Fin 2)
  /-- DROP (R221): PCTRL.DROP ends the link and stays QUIET. -/
  | drop (p : Fin 2)
  /-- AQ_PORT_FAULT (R220): A port fails its self-check and is fenced. -/
  | aqPortFault (p : Fin 2)
  /-- AQ_LINE_ACTIVITY (R218): The line activity detector sees signal above LEVEL for WAKE_US and raises a wake. -/
  | aqLineActivity (p : Fin 2)
  /-- MOV (R252): slot k: a takes b with its tag -/
  | mov (k : Fin 12) (a b : Fin 16)
  /-- ADD (R252): slot k: a takes a + b -/
  | add (k : Fin 12) (a b : Fin 16)
  /-- SUB (R252): slot k: a takes a - b -/
  | sub (k : Fin 12) (a b : Fin 16)
  /-- MUL (R252): slot k: a takes a x b -/
  | mul (k : Fin 12) (a b : Fin 16)
  /-- DIV (R252): slot k: a takes a / b, rounded toward zero -/
  | div (k : Fin 12) (a b : Fin 16)
  /-- AND (R252): slot k: a takes a AND b -/
  | and (k : Fin 12) (a b : Fin 16)
  /-- OR (R252): slot k: a takes a OR b -/
  | or (k : Fin 12) (a b : Fin 16)
  /-- XOR (R252): slot k: a takes a XOR b -/
  | xor (k : Fin 12) (a b : Fin 16)
  /-- SHL (R252): slot k: a is shifted left by b -/
  | shl (k : Fin 12) (a b : Fin 16)
  /-- SHR (R252): slot k: a is shifted right by b with zero fill -/
  | shr (k : Fin 12) (a b : Fin 16)
  /-- SAR (R252): slot k: a is shifted right by b with sign fill -/
  | sar (k : Fin 12) (a b : Fin 16)
  /-- ROL (R252): slot k: a is rotated left by b -/
  | rol (k : Fin 12) (a b : Fin 16)
  /-- EQ (R252): slot k: a takes BOOL of a = b -/
  | eq (k : Fin 12) (a b : Fin 16)
  /-- LT (R252): slot k: a takes BOOL of a < b -/
  | lt (k : Fin 12) (a b : Fin 16)
  /-- LE (R252): slot k: a takes BOOL of a at most b -/
  | le (k : Fin 12) (a b : Fin 16)
  /-- NEG (R253): slot k: a is negated -/
  | neg (k : Fin 12) (a : Fin 16)
  /-- NOT (R253): slot k: a is inverted -/
  | not (k : Fin 12) (a : Fin 16)
  /-- ISZ (R253): slot k: a takes BOOL of a = 0 -/
  | isz (k : Fin 12) (a : Fin 16)
  /-- ISNEG (R253): slot k: a takes BOOL of a < 0 -/
  | isneg (k : Fin 12) (a : Fin 16)
  /-- PAR (R253): slot k: a takes the parity of its bits -/
  | par (k : Fin 12) (a : Fin 16)
  /-- BREV (R253): slot k: the bits of a are reversed -/
  | brev (k : Fin 12) (a : Fin 16)
  /-- BREVB (R253): slot k: the bits of each octet of a are reversed -/
  | brevb (k : Fin 12) (a : Fin 16)
  /-- HDPTR (R253): slot k: the context handle in a becomes a DPTR -/
  | hdptr (k : Fin 12) (a : Fin 16)
  /-- TAGOF (R252): slot k: a takes the code of the tag of b -/
  | tagof (k : Fin 12) (a b : Fin 16)
  /-- RETAG (R254): slot k: a takes the data of b with the tag in x -/
  | retag (k : Fin 12) (a b : Fin 16) (x : BitVec 14)
  /-- LD (R254): slot k: a takes the word at b + 4x -/
  | ld (k : Fin 12) (a b : Fin 16) (x : BitVec 14)
  /-- ST (R254): slot k: the word at b + 4x takes a -/
  | st (k : Fin 12) (a b : Fin 16) (x : BitVec 14)
  /-- LIT (R254): slot k: a takes the literal w with a tag -/
  | lit (k : Fin 12) (a : Fin 16) (tag : BitVec 4) (w : Word)
  /-- IMM (R254): slot k: a takes x with the tag that sel selects -/
  | imm (k : Fin 12) (a : Fin 16) (sel : Fin 8) (x : BitVec 14)
  /-- ADDI (R255): slot k: a takes a + x -/
  | addi (k : Fin 12) (a : Fin 16) (x : BitVec 14)
  /-- ANDI (R255): slot k: a takes a AND x -/
  | andi (k : Fin 12) (a : Fin 16) (x : BitVec 14)
  /-- ORI (R255): slot k: a takes a OR x -/
  | ori (k : Fin 12) (a : Fin 16) (x : BitVec 14)
  /-- XORI (R255): slot k: a takes a XOR x -/
  | xori (k : Fin 12) (a : Fin 16) (x : BitVec 14)
  /-- SHLI (R255): slot k: a is shifted left by x[4:0] -/
  | shli (k : Fin 12) (a : Fin 16) (x : BitVec 14)
  /-- SHRI (R255): slot k: a is shifted right by x[4:0] -/
  | shri (k : Fin 12) (a : Fin 16) (x : BitVec 14)
  /-- EQI (R255): slot k: a takes BOOL of a = x -/
  | eqi (k : Fin 12) (a : Fin 16) (x : BitVec 14)
  /-- LTI (R255): slot k: a takes BOOL of a < x -/
  | lti (k : Fin 12) (a : Fin 16) (x : BitVec 14)
  /-- EXTB (R260): slot k: a takes octet n of b -/
  | extb (k : Fin 12) (a b : Fin 16) (n : Fin 4)
  /-- INSB (R260): slot k: octet n of a takes b[7:0] -/
  | insb (k : Fin 12) (a b : Fin 16) (n : Fin 4)
  /-- CRCR (R261): slot k: the reflected step of a over octet b[7:0], polynomial register p -/
  | crcr (k : Fin 12) (a b : Fin 16) (p : Fin 16)
  /-- CRCRW (R261): slot k: the reflected step of a over the four octets of b, polynomial register p -/
  | crcrw (k : Fin 12) (a b : Fin 16) (p : Fin 16)
  /-- CRCL (R261): slot k: the left-aligned step of a over octet b[7:0], polynomial register p -/
  | crcl (k : Fin 12) (a b : Fin 16) (p : Fin 16)
  /-- CRCLW (R261): slot k: the left-aligned step of a over the four octets of b, polynomial register p -/
  | crclw (k : Fin 12) (a b : Fin 16) (p : Fin 16)
  /-- GET (R256): slot k: a stalling read of Flume f into a -/
  | get (k : Fin 12) (a : Fin 16) (f : FlumeSel)
  /-- GETN (R256): slot k: a non-stalling read of Flume f into a -/
  | getn (k : Fin 12) (a : Fin 16) (f : FlumeSel)
  /-- PUT (R256): slot k: a goes to Flume f with END 0 -/
  | put (k : Fin 12) (a : Fin 16) (f : FlumeSel)
  /-- PUTE (R256): slot k: a goes to Flume f with END 1 -/
  | pute (k : Fin 12) (a : Fin 16) (f : FlumeSel)
  /-- FREE (R256): slot k: a takes FREE of Flume f -/
  | free (k : Fin 12) (a : Fin 16) (f : FlumeSel)
  /-- PKTS (R256): slot k: a takes PKTS of Flume f -/
  | pkts (k : Fin 12) (a : Fin 16) (f : FlumeSel)
  /-- LDP (R257): slot k: a takes the word at b, and b advances -/
  | ldp (k : Fin 12) (a b : Fin 16)
  /-- STP (R257): slot k: the word at b takes a, and b advances -/
  | stp (k : Fin 12) (a b : Fin 16)
  /-- ADDM (R257): slot k: a takes a + the word at b, and b advances -/
  | addm (k : Fin 12) (a b : Fin 16)
  /-- CRCRM (R257): slot k: the reflected step of a over the word at b, polynomial register p, and b advances -/
  | crcrm (k : Fin 12) (a b : Fin 16) (p : Fin 16)
  /-- CRCLM (R257): slot k: the left-aligned step of a over the word at b, polynomial register p, and b advances -/
  | crclm (k : Fin 12) (a b : Fin 16) (p : Fin 16)
  /-- TLI (R262): slot k: a is looked up in the table at b -/
  | tli (k : Fin 12) (a b : Fin 16)
  /-- BT (R258): slot k branches by x if a is BOOL 1 -/
  | bt (k : Fin 12) (a : Fin 16) (x : BitVec 14)
  /-- BF (R258): slot k branches by x if a is BOOL 0 -/
  | bf (k : Fin 12) (a : Fin 16) (x : BitVec 14)
  /-- BFS (R258): slot k branches by x if the FLAGS bit is 1 -/
  | bfs (k : Fin 12) (bit : Fin 16) (x : BitVec 14)
  /-- BFC (R258): slot k branches by x if the FLAGS bit is 0 -/
  | bfc (k : Fin 12) (bit : Fin 16) (x : BitVec 14)
  /-- JMP (R258): slot k jumps by x -/
  | jmp (k : Fin 12) (x : BitVec 14)
  /-- CALL (R258): slot k calls by x -/
  | call (k : Fin 12) (x : BitVec 14)
  /-- TRAP (R258): slot k takes a SOFT trap with TINFO x -/
  | trap (k : Fin 12) (x : BitVec 14)
  /-- JR (R259): slot k jumps to the CPTR in a -/
  | jr (k : Fin 12) (a : Fin 16)
  /-- CALLR (R259): slot k calls the CPTR in a -/
  | callr (k : Fin 12) (a : Fin 16)
  /-- RET (R236): slot k returns from a call -/
  | ret (k : Fin 12)
  /-- TRET (R235): slot k returns from a trap, by retry or by skip -/
  | tret (k : Fin 12) (skip : Bool)
  /-- WAIT (R241): slot k parks -/
  | wait (k : Fin 12)
  /-- NOP (R259): slot k does nothing -/
  | nop (k : Fin 12)
  /-- REPR (R237): slot k repeats the next instruction under REP by the count in a -/
  | repr (k : Fin 12) (a : Fin 16)
  /-- REPIR (R237): slot k repeats the next instruction under REPI by the count in a -/
  | repir (k : Fin 12) (a : Fin 16)
  /-- CRD (R259): slot k: a takes control register n -/
  | crd (k : Fin 12) (a : Fin 16) (n : Fin 8)
  /-- CWR (R259): slot k: control register n takes a -/
  | cwr (k : Fin 12) (a : Fin 16) (n : Fin 8)
  /-- REPK (R259): slot k repeats the next instruction under REP or REPI by an immediate count -/
  | repk (k : Fin 12) (isRepI : Bool) (count : Fin 128)
  /-- FEAT (R238): slot k: a takes FEAT.n -/
  | feat (k : Fin 12) (a : Fin 16) (n : Fin 8)
  /-- CUSTOM_INSTRUCTION (R265): Bowl slot LB.k runs page-1 opcode 0x20 + e on registers a and b, with extension word x where its entry takes one -/
  | customInstruction (k : Fin 4) (e : Fin 32) (a b : Fin 16) (x : BitVec 14)
  /-- WAIT_RESUME (R241): A parked slot resumes on a wake-Flume packet, a KICK or a wake. -/
  | waitResume (k : Fin 12)
  /-- START (R242): CTRL.START runs a halted slot. -/
  | start (k : Fin 12)
  /-- HALT (R243): CTRL.HALT halts a slot, abandoning a stall or WAIT. -/
  | halt (k : Fin 12)
  /-- STEP (R242): CTRL.STEP runs one instruction of a halted slot. -/
  | step (k : Fin 12)
  /-- RESET (R243): a core reset of slot s, with START in the same access or not -/
  | reset (k : Fin 12) (start : Bool)
  /-- KICK (R241): CTRL.KICK resumes a parked slot or sets KICKED. -/
  | kick (k : Fin 12)
  /-- PL_DATA_WRITE (R244): A PL_DATA write commits a program, decode or microcode word and advances PL_ADDR. -/
  | plDataWrite (v : Word)
  /-- DBG_SEL_WRITE (R246): A DBG_SEL write loads DBG_DATA and DBG_TAG from the selected item. -/
  | dbgSelWrite (v : Word)
  /-- DBG_DATA_WRITE (R246): A DBG_DATA write stores the item of a halted slot. -/
  | dbgDataWrite (v : Word)
  /-- ROW_COPY_DONE (R273): the copy of a row of physical bank completes -/
  | rowCopyDone (bank : Fin 102) (row : BitVec 8)
  /-- PROGRAM (R282): a master makes the stores of a PROGRAM sequence for line n of the array (word i in bits 32i + 31:32i) -/
  | program (n : BitVec 20) (line : BitVec 256)
  /-- ERASE (R283): a master makes the stores of an ERASE sequence for block b -/
  | erase (b : Fin 512)
  /-- PROGRAM_DONE (R282): the line program ends -/
  | programDone (pass : Bool)
  /-- ERASE_DONE (R283): the erase ends -/
  | eraseDone (left : List (BitVec 11))
  /-- LOCK_CELL_DONE (R293): lock cell b (0 to 10 of the lock word, 11 TEST_CLOSED) finishes programming -/
  | lockCellDone (b : Fin 12)
  /-- MODE_WRITE (R301): WELL.MODE is written with v -/
  | modeWrite (v : Word)
  /-- ENTRY_COMPLETE (R298): the entry completes -/
  | entryComplete (windowed : BitVec 16)
  /-- WAKE (R303): the wake completes -/
  | wake (upsets : SleepUpsets)
  /-- RIPPLE_CALL (R306): a carrier at hz, keyed as line says, reaches receiver r -/
  | rippleCall (r : Fin 2) (hz : BitVec 30) (line : Keying)
  /-- RIPPLE_ACTIVITY (R306): a 1 ms slot of the envelope ends -/
  | rippleActivity (x : EnvelopeSlots)
  /-- V_START_HOLD_END (R310): VMAIN has stood at V_START for 1 ms -/
  | vStartHoldEnd (testmode : Bool)
  /-- VWELL_LOW (R310): VWELL falls below 1.80 V and a Wellspring reset (W) is applied. -/
  | vwellLow (testmode : Bool)
  /-- VWELL_POWER_ON (R310): VWELL rises through 1.00 V and a cold start (C) begins. -/
  | vwellPowerOn (testmode : Bool)
  /-- SOURCE_SWITCH (R308): VWELL is taken from VBAK or from VMAIN -/
  | sourceSwitch (bak : Bool)
  /-- RESET_N_PULSE (R311): RESET_N is low for ns nanoseconds -/
  | resetNPulse (ns : Nat) (testmode : Bool)
  /-- UNIT_RESET (R313): the unit with block number u of R33 is reset -/
  | unitReset (u : Fin 19)
  /-- TICK_VOTE (R317): the three TICK copies stand at a, b and c at an edge -/
  | tickVote (a : BitVec 48) (b : BitVec 48) (c : BitVec 48)
  /-- TIMER_WRAP (R321): A timer counter wraps to 0 after PERIOD or a run-on. -/
  | timerWrap (n : Fin 16)
  /-- TIMER_MATCH (R322): A timer counter reaches CMP; CMP advances and a wake may be asserted. -/
  | timerMatch (n : Fin 16)
  /-- CMP_WRITE (R323): A CMP write goes to the live comparator, possibly behind or catching up. -/
  | cmpWrite (n : Fin 16) (v : Word)
  /-- TIMER_ARM (R323): A TIM.ARM write sets CMP relative to COUNT. -/
  | timerArm (n : Fin 16) (delta : Word)
  /-- DMON_ARM (R324): master m writes CLEP.DMON[n] -/
  | dmonArm (m : Master) (n : Fin 64) (deadline : Word)
  /-- DMON_DISARM (R324): DMON_DISARM_LO or, with hi, _HI is written -/
  | dmonDisarm (hi : Bool) (mask : Word)
  /-- DEADLINE_EXPIRY (R325): An armed monitor's deadline is reached and a CONTAINED fault is recorded. -/
  | deadlineExpiry (m : Fin 64)
  /-- TIME_WRITE (R327): A checked CAL.TIME write sets the time and restarts the second. -/
  | timeWrite (v : Word)
  /-- DATE_WRITE (R327): A checked CAL.DATE write sets the date. -/
  | dateWrite (v : Word)
  /-- WEEKDAY_WRITE (R327): A checked CAL.WEEKDAY write sets the weekday. -/
  | weekdayWrite (v : Word)
  /-- MAINS_EDGE (R330): MAINS_REF rises at fraction f -/
  | mainsEdge (f : BitVec 10)
  /-- NET_MARK (R330): LOC_RX is written with loc -/
  | netMark (loc : Word)
  /-- TRIM_WRITE (R330): A TRIM write sets the trim and aborts a running measurement. -/
  | trimWrite (v : Word)
  /-- LOG_RETIRE (R335): LOG_RETIRE is written with count -/
  | logRetire (count : BitVec 7)
  /-- CORE_CHECK_FAIL (R338): check code check + 1 of R415 fails on physical unit u -/
  | coreCheckFail (bowl : Bool) (u : Fin 9) (check : Fin 3) (retryFails : Bool) (copyFails : Bool)
  /-- LANE_SELF_CHECK_FAIL (R339): A lane fails its self-check, ends FAULT and is fenced on a second failure. -/
  | laneSelfCheckFail (n : Fin 72)
  /-- ROTATION_STEP (R346): a step falls due: lanes (0), Spindle, Bowl, Chisel, bank groups 0 to 5 (4 to 9) -/
  | rotationStep (k : Fin 10)
  /-- LIVE_TEST_DONE (R346): the live test of schedule k, numbered as for ROTATION_STEP, ends -/
  | liveTestDone (k : Fin 10) (pass : Bool) (step : Word)
  /-- TEST_NOW (R349): REPAIR.CMD TEST_NOW takes the kind's next step at once. -/
  | testNow (kind : BitVec 5) (inst : BitVec 7)
  /-- FENCE (R349): master m writes REPAIR.CMD with OP FENCE -/
  | fence (m : Master) (kind : BitVec 5) (inst : BitVec 7)
  /-- RETEST (R345): REPAIR.CMD RETEST live-tests a fenced unit and unfences it on a pass. -/
  | retest (kind : BitVec 5) (inst : BitVec 7)
  /-- FATAL_FAULT (R352): essential unit kind fails with check code check, or a FATAL fault already waits -/
  | fatalFault (kind : BitVec 5) (check : BitVec 8) (cut : Option ResetKind)
  /-- HB_FEED (R355): master m writes HB_FEED -/
  | hbFeed (m : Master)
  /-- INJ_CTRL_WRITE (R357): A nonzero INJ_CTRL.TYPE arms a one-time fault injection in factory mode. -/
  | injCtrlWrite (v : Word)
  /-- PACKET_COMPLETE (R369): a whole Spout packet arrives on the UART, or stands on the over-the-air Flume -/
  | packetComplete (arr : Arrival)
  /-- UART_GAP (R369): more than 32 ticks pass between octets -/
  | uartGap (pending : Bool)
  /-- CMD_FIFO_WRITE (R373): A slave write of CMD_FIFO appends four octets. -/
  | cmdFifoWrite (w : Word)
  /-- SELECT_RISE (R372): QSPS_CS_N rises: 0 after a whole transaction, 1 inside the command octet, 2 inside a written word, 3 inside a read word -/
  | selectRise (cut : Fin 4)
  /-- QSP_GO (R376): GO starts an indirect QSP frame or is refused. -/
  | qspGo (n : Fin 2)
  /-- QSP_ABORT (R376): GO.ABORT ends the frame at the next octet boundary. -/
  | qspAbort (n : Fin 2)
  /-- QSP_FRAME_DONE (R376): the running frame of master n ends: count data octets of an aborted frame, data the octets a read frame received -/
  | qspFrameDone (n : Fin 2) (count : BitVec 13) (data : List Byte)
  /-- MAP_LOAD (R377): a master loads from the direct map -/
  | mapLoad (x : MapAccess) (data : List Byte)
  /-- AM_HEADER (R385): An AM_HEADER write checks an image header and opens reception or refuses it. -/
  | amHeader (a : Word)
  /-- AM_CHUNK (R387): An AM_CHUNK write submits a transfer unit for checking. -/
  | amChunk (a : Word)
  /-- CHUNK_STORED (R387): the chunk in progress is verified and programmed -/
  | chunkStored (bad : Option (Fin 16))
  /-- CHISEL_RESULT_TIMEOUT (R384): an engine job result is lost in a gap marker, or is late -/
  | chiselResultTimeout (lost : Bool)
  /-- ACTIVATE (R391): AM_ACT is written with GO = 1 and TYPES -/
  | activate (types : BitVec 6)
  /-- HEALTH_CONFIRM (R393): The confirm value during a trial programs CONFIRMED lines. -/
  | healthConfirm (v : Word)
  /-- CHISEL_CORE_FAILURE (R174): A Chisel AES core fails its self-check, is fenced, its job ends FAULT and the spare takes its place. -/
  | chiselCoreFailure (c : Fin 9)
  /-- CONTINUOUS_SELF_CHECK_FAIL (R28): the unit (kind, inst) of R337 fails its continuous self-check -/
  | continuousSelfCheckFail (kind : BitVec 5) (inst : BitVec 7)
  /-- GPWAKE_PIN (R302): the board gives the GPIO ball of pin a level -/
  | gpwakePin (pin : Fin 24) (level : Bool)
  /-- UART_OVERSIZE_HEADER (R369): a UART header with LEN above 1,024 arrives -/
  | uartOversizeHeader (opcode seq : Byte) (len : BitVec 16)
  /-- LANE_CONVERSION (R392): During a BASIN_UCODE activation an IDLE lane is taken, loaded with the new microcode within 1 ms and returned to the pool. -/
  | laneConversion (n : Fin 72)
  /-- REBUILD_DONE (R76): REBUILD finishes its scan of 8,192 slots, CMD_STATUS.BUSY returns to 0 and commands and commits are accepted again. -/
  | rebuildDone (f : BitVec 10)
  /-- ALLOCATION_WINDOW (R45): the allocation window of the earliest declarations not yet decided closes -/
  | allocationWindow
  /-- LATHE_WAKE_REQUEST (R90): The heap head's due instant minus WAKE_LEAD is reached and Lathe requests a wake. -/
  | latheWakeRequest
  /-- LEDGER_BUCKET_BOUNDARY (R130): At a 60 s boundary the oldest bucket leaves each ledger window. -/
  | ledgerBucketBoundary
  /-- KEY_READ (R162): KCTRL.READ loads the selected key entry into KDATA. -/
  | keyRead
  /-- LEASE_EXPIRY (R170): The lease expires; waiting chained jobs end EXPIRED and the state is zeroed. -/
  | leaseExpiry
  /-- WSEQ_LO_READ (R167): A read of WSEQ_LO captures WSEQ[63:32] into WSEQ_HI. -/
  | wseqLoRead
  /-- PL_DATA_READ (R244): A PL_DATA read returns the loaded word and advances PL_ADDR. -/
  | plDataRead
  /-- PL_COPY_DONE (R244): A write to ALL has reached every unit and BUSY returns to 0. -/
  | plCopyDone
  /-- PL_CHECK (R244): PL_CHECK is written with GO = 1 -/
  | plCheck
  /-- PL_CHECK_DONE (R244): The comparison ends with PL_CRC and MATCH set. -/
  | plCheckDone
  /-- BOOT_LOAD_DONE (R245): The boot load ends and LB.0 starts at 0x0000. -/
  | bootLoadDone
  /-- SCRUB (R270): The scrubber reads and checks one word of each bank per TICK. -/
  | scrub
  /-- BANK_COPY_DONE (R274): The bank copy completes and the switch takes effect. -/
  | bankCopyDone
  /-- OPT_WRITE (R292): A complete OPT_WRITE sequence checks the image and starts replacing the inactive copy. -/
  | optWrite
  /-- LOCK (R293): A complete LOCK sequence starts setting the lock cells in LOCK_MASK. -/
  | lock
  /-- SUSPEND (R286): SUSPEND requests suspension of a running erase, held until the minimum run. -/
  | suspend
  /-- RESUME (R286): RESUME restarts a suspended erase. -/
  | resume
  /-- CANCEL (R281): CANCEL discards a partial command sequence. -/
  | cancel
  /-- SEQUENCE_TIMEOUT (R281): A sequence step fails to arrive within 32 ticks and the sequence is discarded. -/
  | sequenceTimeout
  /-- SUSPEND_TAKES_EFFECT (R286): A held or new SUSPEND takes effect after the minimum run. -/
  | suspendTakesEffect
  /-- OPT_WRITE_DONE (R292): OPT_WRITE commits the new copy as active. -/
  | optWriteDone
  /-- SUPPLY_HOLD_END (R287): 1 ms after recovery halted pulses and the auto-suspended erase resume. -/
  | supplyHoldEnd
  /-- ENTRY_ACCEPT (R296): At Q every other slot is parked and Wellspring accepts or declines the state request. -/
  | entryAccept
  /-- ENTRY_LIMIT_EXPIRY (R296): ENTRY_LIMIT ticks pass while the request waits and it is DECLINED. -/
  | entryLimitExpiry
  /-- VMAIN_WARN (R310): VMAIN falls below V_WARN; transmission is cut and refused. -/
  | vmainWarn
  /-- VMAIN_RECOVERY (R310): VMAIN stands above V_WARN + 50 mV for 1 ms. -/
  | vmainRecovery
  /-- BROWN_OUT (R310): VMAIN falls below V_BOR and the core domain goes off (B). -/
  | brownOut
  /-- VBAK_LOW (R310): VBAK falls below BAK_LOW. -/
  | vbakLow
  /-- TRIM_CORRECTION (R318): The trim accumulator reaches its limit and a tick is inserted or swallowed. -/
  | trimCorrection
  /-- TICK_LO_READ (R319): A read of TICK_LO captures TICK_HI_SNAP. -/
  | tickLoRead
  /-- SECOND_BOUNDARY (R326): SUBSEC wraps and the calendar fields carry. -/
  | secondBoundary
  /-- SUBSEC_READ (R328): A SUBSEC read captures TIME and DATE snapshots. -/
  | subsecRead
  /-- MEAS_GO (R330): MEAS_CTRL.GO starts or restarts a trim measurement. -/
  | measGo
  /-- NOREF (R330): No mains edge arrives for two nominal periods and the measurement fails. -/
  | noref
  /-- APPROVE (R331): MEAS_CTRL.APPROVE copies PROPOSAL into TRIM. -/
  | approve
  /-- F_RESET_AGES_OUT (R353): A counted F reset leaves the sliding FATAL_WINDOW. -/
  | fResetAgesOut
  /-- FATAL_ACK (R354): A FATAL_ACK write clears the FATAL latch. -/
  | fatalAck
  /-- HEARTBEAT_TICK (R355): At each TICK multiple of 2,048 HEARTBEAT toggles or is held low. -/
  | heartbeatTick
  /-- ENGINE_TAKE (R363): The engine takes the next held packet and checks its CRC and opcode. -/
  | engineTake
  /-- PING (R364): Returns SYS.ID, protocol version, transport and boot state. -/
  | ping
  /-- INFO (R364): Returns the serial number and status words. -/
  | info
  /-- READ (R365): Reads n words from consecutive addresses. -/
  | read
  /-- READ_FIX (R365): Reads one address n times. -/
  | readFix
  /-- READ_TAG (R364): Reads n words with their tags. -/
  | readTag
  /-- WRITE (R365): Writes n tagged words to consecutive addresses. -/
  | write
  /-- WRITE_FIX (R365): Writes n tagged words to one address. -/
  | writeFix
  /-- MODIFY (R365): Reads, masks and writes back one word. -/
  | modify
  /-- FILL (R365): Fills n words with one tagged word. -/
  | fill
  /-- CIST_PROG (R366): Runs a Cistern PROGRAM sequence and waits for the line. -/
  | cistProg
  /-- CIST_ERASE (R366): Runs a Cistern ERASE sequence and replies at acceptance. -/
  | cistErase
  /-- SPOUT_OPT_WRITE (R366): Spout OPT_WRITE runs the option-area rewrite sequence. -/
  | spoutOptWrite
  /-- OPT_LOCK (R366): Runs a Cistern LOCK sequence with the given mask. -/
  | optLock
  /-- POWER (R367): Writes WELL.MODE.TARGET. -/
  | power
  /-- RESET_CORE (R367): With the right guard, replies and then applies an S reset. -/
  | resetCore
  /-- FACTORY (R367): With the right guard and conditions, sets factory test mode. -/
  | factory
  /-- ECHO (R364): Returns its parameters. -/
  | echo
  /-- SOFT_FORWARD (R368): A soft opcode is forwarded to firmware on SOFT_FLUME or refused. -/
  | softForward
  /-- SOFT_ANSWER (R368): The engine reads a whole answer from SOFT_REPLY and completes the pending command. -/
  | softAnswer
  /-- SOFT_TIMEOUT (R368): SOFT_TMO passes without an answer and the engine replies TIMEOUT. -/
  | softTimeout
  /-- REPLY_FIFO_READ (R372): A slave read of REPLY_FIFO removes four reply octets at its last edge. -/
  | replyFifoRead
  /-- SCTRL_GO (R373): SCTRL.GO submits the buffered octets as one packet. -/
  | sctrlGo
  /-- SCTRL_ACK (R373): SCTRL.ACK releases the reply and READY returns to 1. -/
  | sctrlAck
  /-- SCTRL_FLUSH (R373): SCTRL.FLUSH discards the buffered octets. -/
  | sctrlFlush
  /-- MAP_EN_CLEAR (R377): Clearing MAP.EN in continuous mode sends the exit frame. -/
  | mapEnClear
  /-- RECEPTION_OPEN (R386): the HDRMAC result arrives, and then the erased target slot opens -/
  | receptionOpen
  /-- SLOT_CONVERSION (R392): A quiescent slot is rotated onto the spare loaded with the new image. -/
  | slotConversion
  /-- QUIET_EXPIRY (R394): A slot fails to become quiescent within QUIET and fallback begins. -/
  | quietExpiry
  /-- TRIAL_EXPIRY (R394): The trial ends without confirmation and fallback begins. -/
  | trialExpiry
  /-- REVERT (R394): AM_ACT.REVERT starts fallback during an activation or trial. -/
  | revert
  /-- TICK_EDGE (R318): At each crystal period TICK advances by one and every TICK-sourced timer takes its unit step. -/
  | tickEdge
  /-- FINE_EDGE (R320): A 1 MHz FINE edge gives one unit step to every FINE-sourced timer while a port is active. -/
  | fineEdge
  /-- VBAK_RECOVERY (R309): VBAK rises back above BAK_LOW plus its 50 mV hysteresis and STATUS.VBAK_LOW clears. -/
  | vbakRecovery
  /-- UART_FRAMING_ERROR (R369): A UART octet arrives with a stop-bit error, discarding the partial packet and counting in FRAMING. -/
  | uartFramingError
  /-- UART_REPLY_SENT (R369): The last octet of a reply leaves SPOUT_TX, freeing the UART transport and, for RESET_CORE, marking R_end of the S reset. -/
  | uartReplySent
  deriving DecidableEq, Repr

end Sys2Proof
end

