-- ==== Sys2Proof/Decode.lean ====
section
/-! DEFINITION. The commands that a word spells by the opcode table's bits.  The table gives bits to none of its rows: a command reaches the
part as a register access, a pin, a packet or an event of the air, and not as a word (log entry 2). -/

namespace Sys2Proof

/-- The command that the low `nbits` bits of `w` spell: no row of the table gives bits, so no word spells one. -/
def decodeTableWord (_nbits _w : Nat) : Option Instr := none

end Sys2Proof
end

