-- ==== Sys2Proof/Config.lean ====
section
/-! DEFINITION. What the spec leaves open and the world supplies: constants without a body, which nothing in Lean can evaluate.
A free value is one of these applied to a counter that the drawing step advances. -/

namespace Sys2Proof

/-- A free 32-bit value: the `n`-th value drawn where the spec states none (log entry 3). DESIGN CHOICE, safe. -/
opaque Config.freeWord : Nat → Word

/-- A free truth value: the `n`-th choice drawn where the spec leaves either outcome open (log entry 3). DESIGN CHOICE, safe. -/
opaque Config.freeBool : Nat → Bool

/-- The PSDU octets a lane had demodulated when an event outside it cut its frame: the air supplies them, and no command carries
them (log entry 4). DESIGN CHOICE, safe. -/
opaque Config.airOctets : Nat → List Byte

/-- A measured quality value of a frame that an event outside its lane cut (log entry 4), or another number within bounds that the spec
gives (log entries 110 and 111). DESIGN CHOICE, safe. -/
opaque Config.airQuality : Nat → Nat

/-- Words 0 and 1 of the part's serial number (R290): each part has its own (log entry 5). DESIGN CHOICE, safe. -/
opaque Config.serialWord : Nat → Word

/-- What the TEST_CLOSED lock cell word reads as once the lock is set, but for the cell's own bit (R290, R293): the spec gives only its open
value (log entry 5). DESIGN CHOICE, safe. -/
opaque Config.testClosedWord : Word

/-- Which bit of that word is the cell's own, which reads 0 once it is set (log entry 5). DESIGN CHOICE, safe. -/
opaque Config.testClosedBit : Nat

/-- The words of the golden images a part is shipped with that the spec leaves to the maker, by index (R381; log entry 5).
DESIGN CHOICE, safe. -/
opaque Config.goldenWord : Nat → Word

/-- Code bit `i` of a SUN-FSK header and PSDU with FEC (R145): the RSC code, tail, pad and interleaving are those of the standard, which
the spec does not give (log entry 104). DESIGN CHOICE, safe. -/
opaque Config.sunCode : List Bool → Nat → Bool

end Sys2Proof
end

