-- ==== Sys2Proof/Machine/Store.lean ====
section
/-! DEFINITION. A sparse map from numbers to plain data: a list of (key, value) pairs in one canonical form, keys strictly
rising and no entry equal to what an unlisted key reads as.  Every array of the machine (registers, SRAM words, lanes,
Flumes, Cistern lines, keys, program words) is held in this form, so that equal arrays are equal data. -/

namespace Sys2Proof.Machine

/-- A sparse array. What an unlisted key reads as is the default its reader names. -/
abbrev Store (α : Type) := List (Nat × α)

/-- The value at key `k`, or `d` where the key is not listed. -/
def Store.get {α : Type} (d : α) : Store α → Nat → α
  | [], _ => d
  | (j, v) :: r, k => if k = j then v else Store.get d r k

/-- Removes key `k`. -/
def Store.erase {α : Type} : Store α → Nat → Store α
  | [], _ => []
  | (j, v) :: r, k => if k = j then Store.erase r k else (j, v) :: Store.erase r k

/-- Lists value `v` at key `k`, which is not listed yet, at its place in the order. -/
def Store.insert {α : Type} : Store α → Nat → α → Store α
  | [], k, v => [(k, v)]
  | (j, w) :: r, k, v => if k < j then (k, v) :: (j, w) :: r else (j, w) :: Store.insert r k v

/-- Writes `v` at key `k`, where `d` is what key `k` reads as when unlisted. -/
def Store.put {α : Type} [DecidableEq α] (d : α) (s : Store α) (k : Nat) (v : α) : Store α :=
  if v = d then s.erase k else (s.erase k).insert k v

/-- Every listed key is above `b`, keys rise strictly, and no entry equals its key's default. -/
def Store.wfFrom {α : Type} [DecidableEq α] (d : Nat → α) : Nat → Store α → Bool
  | _, [] => true
  | b, (j, v) :: r => decide (b ≤ j) && decide (v ≠ d j) && Store.wfFrom d (j + 1) r

/-- The canonical form: `d k` is what key `k` reads as when unlisted. -/
def Store.wf {α : Type} [DecidableEq α] (d : Nat → α) (s : Store α) : Bool := Store.wfFrom d 0 s

/-- The listed keys that satisfy `p`, in rising order. -/
def Store.keysWhere {α : Type} (p : Nat → α → Bool) : Store α → List Nat
  | [] => []
  | (j, v) :: r => if p j v then j :: Store.keysWhere p r else Store.keysWhere p r

/-- Keeps the entries that satisfy `p`. -/
def Store.keep {α : Type} (p : Nat → α → Bool) (s : Store α) : Store α := s.filter fun e => p e.1 e.2

end Sys2Proof.Machine
end

