-- ==== Sys2Proof/Machine/RegMap.lean ====
section
/-! DEFINITION. The register tables of the spec as data: for every register its offset in its block, and for every field its bits, its access
code (R8), its reset value (R9) and the events it survives (R10).  Reserved bits have no row: they read 0 and ignore writes (R6).
Written from the tables of rules R4, R65, R66, R101, R119, R135, R175, R195, R221, R294, R315, R316, R332, R358, R359, R378, R379, R397 and R411. -/

namespace Sys2Proof.Machine

/-- The access codes of R8. -/
inductive Acc where
  | rw | ro | wo | w1c | rc | rwl | snap
  deriving DecidableEq, Repr

/-- One field of a register table: low bit, width, access code, reset value, and the kept-by events as a mask (bit `i` is the
`i`-th event of R10 in the order C W B P S F U K N H L). -/
structure FldRow where
  lo : Nat
  width : Nat
  acc : Acc
  reset : Nat
  keep : Nat
  deriving DecidableEq, Repr

/-- One register, or a run of `count` registers `stride` octets apart that share a table, at offset `off` of its block. -/
structure RegRow where
  off : Nat
  count : Nat
  stride : Nat
  fields : List FldRow
  deriving DecidableEq, Repr

/-- Sys registers (R4, R397): SYS.ID, SYS.AM_CFG, SYS.AM_WORK, SYS.AM_HEADER, SYS.AM_CHUNK, SYS.AM_ACT, SYS.HEALTH_CONFIRM, SYS.AM_STATUS, SYS.AM_RESULT, SYS.AM_PROGRESS, SYS.AM_TRIAL_END, SYS.AM_EVENTS. -/
def regRowsSys1 : List RegRow := [
  ⟨0x0, 1, 4, [⟨8, 4, .ro, 0, 0x7ff⟩, ⟨16, 16, .ro, 0x7740, 0x7ff⟩]⟩,
  ⟨0x100, 1, 4, [⟨0, 2, .rw, 3, 0x180⟩, ⟨8, 6, .rw, 0, 0x180⟩, ⟨14, 1, .rw, 0, 0x180⟩, ⟨16, 16, .rw, 3277, 0x180⟩]⟩,
  ⟨0x104, 1, 4, [⟨0, 32, .rw, 0, 0x180⟩]⟩,
  ⟨0x108, 1, 4, [⟨0, 32, .wo, 0, 0x0⟩]⟩,
  ⟨0x10C, 1, 4, [⟨0, 32, .wo, 0, 0x0⟩]⟩,
  ⟨0x110, 1, 4, [⟨0, 1, .wo, 0, 0x0⟩, ⟨1, 6, .wo, 0, 0x0⟩, ⟨7, 1, .wo, 0, 0x0⟩]⟩,
  ⟨0x114, 1, 4, [⟨0, 32, .wo, 0, 0x0⟩]⟩,
  ⟨0x118, 1, 4, [⟨0, 3, .ro, 0, 0x180⟩, ⟨4, 3, .ro, 0, 0x180⟩, ⟨7, 1, .ro, 0, 0x0⟩, ⟨8, 6, .ro, 0, 0x180⟩]⟩,
  ⟨0x11C, 1, 4, [⟨0, 6, .ro, 0, 0x180⟩, ⟨6, 3, .ro, 0, 0x180⟩, ⟨16, 10, .ro, 0, 0x180⟩]⟩,
  ⟨0x120, 1, 4, [⟨0, 10, .ro, 0, 0x180⟩, ⟨16, 10, .ro, 0, 0x180⟩]⟩,
  ⟨0x124, 1, 4, [⟨0, 32, .ro, 0, 0x180⟩]⟩,
  ⟨0x128, 1, 4, [⟨0, 1, .w1c, 0, 0x80⟩, ⟨1, 1, .w1c, 0, 0x80⟩, ⟨2, 1, .w1c, 0, 0x80⟩, ⟨3, 1, .w1c, 0, 0x80⟩]⟩]

/-- Sys registers (R397): SYS.AM_SLOTS, SYS.AM_VER, SYS.AM_IF. -/
def regRowsSys2 : List RegRow := [
  ⟨0x12C, 1, 4, [⟨0, 2, .ro, 0, 0x180⟩, ⟨2, 1, .ro, 0, 0x180⟩, ⟨4, 2, .ro, 0, 0x180⟩, ⟨6, 1, .ro, 0, 0x180⟩, ⟨8, 2, .ro, 0, 0x180⟩, ⟨10, 1, .ro, 0, 0x180⟩, ⟨12, 2, .ro, 0, 0x180⟩, ⟨14, 1, .ro, 0, 0x180⟩, ⟨16, 2, .ro, 0, 0x180⟩, ⟨18, 1, .ro, 0, 0x180⟩, ⟨20, 2, .ro, 0, 0x180⟩, ⟨22, 1, .ro, 0, 0x180⟩]⟩,
  ⟨0x144, 6, 4, [⟨0, 32, .ro, 0, 0x180⟩]⟩,
  ⟨0x164, 6, 4, [⟨0, 32, .ro, 0, 0x180⟩]⟩]

/-- All Sys registers. -/
def regRowsSys : List RegRow := regRowsSys1 ++ regRowsSys2

/-- Well registers (R315): WELL.MODE, WELL.CFG, WELL.STATUS, WELL.EVENTS, WELL.WAKE_EN, WELL.PEND, WELL.WAKE_CAUSE, WELL.RESET_CAUSE, WELL.SUPPLY, WELL.VCORE, WELL.GPWAKE, WELL.RETAIN. -/
def regRowsWell1 : List RegRow := [
  ⟨0x0, 1, 4, [⟨0, 3, .rw, 0, 0x7fc⟩, ⟨4, 3, .ro, 0, 0x7fc⟩, ⟨7, 1, .ro, 0, 0x7fc⟩]⟩,
  ⟨0x4, 1, 4, [⟨0, 1, .rw, 0, 0x7fc⟩, ⟨16, 16, .rw, 0, 0x7fc⟩]⟩,
  ⟨0x8, 1, 4, [⟨0, 3, .ro, 0, 0x0⟩, ⟨3, 1, .ro, 0, 0x0⟩, ⟨4, 1, .ro, 0, 0x0⟩, ⟨5, 1, .ro, 0, 0x0⟩, ⟨6, 1, .ro, 0, 0x0⟩, ⟨7, 1, .ro, 0, 0x0⟩]⟩,
  ⟨0xC, 1, 4, [⟨0, 1, .w1c, 0, 0x7fc⟩, ⟨1, 1, .w1c, 0, 0x7fc⟩, ⟨2, 1, .w1c, 0, 0x7fc⟩, ⟨3, 1, .w1c, 0, 0x7fc⟩, ⟨4, 1, .w1c, 0, 0x7fc⟩, ⟨5, 1, .w1c, 0, 0x7fc⟩, ⟨6, 1, .w1c, 0, 0x7fc⟩, ⟨7, 1, .w1c, 0, 0x7fc⟩]⟩,
  ⟨0x10, 1, 4, [⟨0, 16, .rw, 0xf40c, 0x7fc⟩]⟩,
  ⟨0x14, 1, 4, [⟨0, 16, .w1c, 0, 0x7fc⟩]⟩,
  ⟨0x18, 1, 4, [⟨0, 16, .ro, 0, 0x7fc⟩, ⟨16, 3, .ro, 0, 0x7fc⟩, ⟨19, 1, .ro, 0, 0x7fc⟩, ⟨20, 1, .ro, 0, 0x7fc⟩, ⟨21, 1, .ro, 0, 0x7fc⟩]⟩,
  ⟨0x1C, 1, 4, [⟨0, 4, .ro, 1, 0x7fc⟩, ⟨8, 1, .w1c, 1, 0x7fc⟩]⟩,
  ⟨0x20, 1, 4, [⟨0, 8, .rw, 70, 0x7fc⟩, ⟨8, 8, .ro, 0, 0x0⟩, ⟨16, 8, .ro, 0, 0x0⟩]⟩,
  ⟨0x24, 1, 4, [⟨0, 7, .rw, 70, 0x1c0⟩, ⟨8, 7, .ro, 70, 0x0⟩, ⟨15, 1, .ro, 0, 0x0⟩]⟩,
  ⟨0x28, 1, 4, [⟨0, 5, .rw, 0, 0x7fc⟩, ⟨5, 1, .rw, 0, 0x7fc⟩, ⟨6, 1, .rw, 0, 0x7fc⟩, ⟨8, 5, .rw, 0, 0x7fc⟩, ⟨13, 1, .rw, 0, 0x7fc⟩, ⟨14, 1, .rw, 0, 0x7fc⟩]⟩,
  ⟨0x30, 4, 4, [⟨0, 32, .rw, 0, 0x7fc⟩]⟩]

/-- Well registers (R315): WELL.RETFAIL. -/
def regRowsWell2 : List RegRow := [
  ⟨0x40, 3, 4, [⟨0, 32, .w1c, 0, 0x7fc⟩]⟩]

/-- All Well registers. -/
def regRowsWell : List RegRow := regRowsWell1 ++ regRowsWell2

/-- Clep registers (R332): CLEP.EVENTS, CLEP.TICK_LO, CLEP.TICK_HI_SNAP, CLEP.TICK_HI, CLEP.TRIM, CLEP.MEAS_CTRL, CLEP.MEAS_STATUS, CLEP.PROPOSAL, CLEP.NET_TX, CLEP.LOC_RX, CAL.SUBSEC, CAL.TIME. -/
def regRowsClep1 : List RegRow := [
  ⟨0x0, 1, 4, [⟨0, 1, .w1c, 0, 0x7fc⟩, ⟨1, 1, .w1c, 0, 0x7fc⟩, ⟨2, 1, .w1c, 0, 0x7fc⟩]⟩,
  ⟨0x8, 1, 4, [⟨0, 32, .ro, 0, 0x7fc⟩]⟩,
  ⟨0xC, 1, 4, [⟨0, 16, .snap, 0, 0x7fc⟩, ⟨16, 10, .snap, 0, 0x7fc⟩]⟩,
  ⟨0x10, 1, 4, [⟨0, 16, .ro, 0, 0x7fc⟩]⟩,
  ⟨0x20, 1, 4, [⟨0, 16, .rw, 0, 0x7fc⟩]⟩,
  ⟨0x24, 1, 4, [⟨0, 1, .wo, 0, 0x0⟩, ⟨1, 1, .rw, 0, 0x7fc⟩, ⟨2, 1, .rw, 0, 0x7fc⟩, ⟨3, 1, .rw, 0, 0x7fc⟩, ⟨4, 1, .wo, 0, 0x0⟩, ⟨8, 8, .rw, 40, 0x7fc⟩, ⟨16, 16, .rw, 1000, 0x7fc⟩]⟩,
  ⟨0x28, 1, 4, [⟨0, 2, .ro, 0, 0x7fc⟩, ⟨2, 2, .ro, 0, 0x7fc⟩, ⟨4, 1, .ro, 0, 0x7fc⟩]⟩,
  ⟨0x2C, 1, 4, [⟨0, 16, .ro, 0, 0x7fc⟩]⟩,
  ⟨0x30, 1, 4, [⟨0, 32, .rw, 0, 0x7fc⟩]⟩,
  ⟨0x34, 1, 4, [⟨0, 32, .rw, 0, 0x7fc⟩]⟩,
  ⟨0x40, 1, 4, [⟨0, 15, .ro, 0, 0x7fc⟩]⟩,
  ⟨0x44, 1, 4, [⟨0, 6, .rw, 0, 0x7fc⟩, ⟨8, 6, .rw, 0, 0x7fc⟩, ⟨16, 5, .rw, 0, 0x7fc⟩]⟩]

/-- Clep registers (R332): CAL.DATE, CAL.WEEKDAY, CAL.TIME_SNAP, CAL.DATE_SNAP, CAL.ALARM, CAL.STATUS, CLEP.DMON_ARMED, CLEP.DMON_DISARM, CLEP.DMON_MISSES, TIM.CFG, TIM.COUNT, TIM.PERIOD. -/
def regRowsClep2 : List RegRow := [
  ⟨0x48, 1, 4, [⟨0, 5, .rw, 1, 0x7fc⟩, ⟨8, 4, .rw, 1, 0x7fc⟩, ⟨16, 14, .rw, 2000, 0x7fc⟩]⟩,
  ⟨0x4C, 1, 4, [⟨0, 3, .rw, 0, 0x7fc⟩]⟩,
  ⟨0x50, 1, 4, [⟨0, 6, .snap, 0, 0x7fc⟩, ⟨8, 6, .snap, 0, 0x7fc⟩, ⟨16, 5, .snap, 0, 0x7fc⟩]⟩,
  ⟨0x54, 1, 4, [⟨0, 5, .snap, 1, 0x7fc⟩, ⟨8, 4, .snap, 1, 0x7fc⟩, ⟨16, 14, .snap, 2000, 0x7fc⟩]⟩,
  ⟨0x58, 1, 4, [⟨0, 6, .rw, 0, 0x7fc⟩, ⟨6, 1, .rw, 0, 0x7fc⟩, ⟨8, 6, .rw, 0, 0x7fc⟩, ⟨14, 1, .rw, 0, 0x7fc⟩, ⟨16, 5, .rw, 0, 0x7fc⟩, ⟨21, 1, .rw, 0, 0x7fc⟩, ⟨24, 5, .rw, 1, 0x7fc⟩, ⟨29, 1, .rw, 0, 0x7fc⟩]⟩,
  ⟨0x5C, 1, 4, [⟨0, 1, .w1c, 0, 0x7fc⟩, ⟨1, 1, .w1c, 0, 0x7fc⟩, ⟨2, 1, .w1c, 0, 0x7fc⟩]⟩,
  ⟨0x80, 2, 4, [⟨0, 32, .ro, 0, 0x7c0⟩]⟩,
  ⟨0x88, 2, 4, [⟨0, 32, .wo, 0, 0x0⟩]⟩,
  ⟨0x90, 1, 4, [⟨0, 16, .rc, 0, 0x7fc⟩]⟩,
  ⟨0x100, 16, 32, [⟨0, 1, .rw, 0, 0x7fc⟩, ⟨1, 1, .rw, 0, 0x7fc⟩, ⟨2, 1, .rw, 0, 0x7fc⟩, ⟨3, 1, .rw, 0, 0x7fc⟩, ⟨4, 1, .rw, 0, 0x7fc⟩]⟩,
  ⟨0x104, 16, 32, [⟨0, 32, .rw, 0, 0x7fc⟩]⟩,
  ⟨0x108, 16, 32, [⟨0, 32, .rw, 0xffffffff, 0x7fc⟩]⟩]

/-- Clep registers (R332): TIM.CMP, TIM.INTERVAL, TIM.ARM, TIM.STATUS, CLEP.DMON. -/
def regRowsClep3 : List RegRow := [
  ⟨0x10C, 16, 32, [⟨0, 32, .rw, 0, 0x7fc⟩]⟩,
  ⟨0x110, 16, 32, [⟨0, 32, .rw, 0, 0x7fc⟩]⟩,
  ⟨0x114, 16, 32, [⟨0, 32, .wo, 0, 0x0⟩]⟩,
  ⟨0x118, 16, 32, [⟨0, 1, .w1c, 0, 0x7fc⟩, ⟨1, 1, .w1c, 0, 0x7fc⟩, ⟨2, 1, .w1c, 0, 0x7fc⟩, ⟨3, 1, .ro, 0, 0x0⟩, ⟨8, 8, .ro, 0, 0x7fc⟩]⟩,
  ⟨0x400, 64, 4, [⟨0, 32, .rw, 0, 0x7c0⟩]⟩]

/-- All Clep registers. -/
def regRowsClep : List RegRow := regRowsClep1 ++ regRowsClep2 ++ regRowsClep3

/-- Sluice registers (R358): SLUICE.STATUS, SLUICE.EVENTS, SLUICE.CFG, SLUICE.CORR_COUNT, SLUICE.CONT_COUNT, SLUICE.FATAL_COUNT, SLUICE.LOG_STATUS, SLUICE.LOG_RETIRE, SLUICE.LOG_LOST, SLUICE.HB_CFG, SLUICE.HB_FEED, SLUICE.HB_LAST. -/
def regRowsSluice1 : List RegRow := [
  ⟨0x0, 1, 4, [⟨0, 1, .ro, 0, 0x7fc⟩, ⟨1, 1, .ro, 0, 0x0⟩, ⟨2, 1, .ro, 0, 0x0⟩, ⟨3, 1, .ro, 0, 0x0⟩, ⟨4, 4, .ro, 0, 0x7fc⟩, ⟨8, 1, .ro, 0, 0x7e4⟩]⟩,
  ⟨0x4, 1, 4, [⟨0, 1, .w1c, 0, 0x7fc⟩, ⟨1, 1, .w1c, 0, 0x7fc⟩, ⟨2, 1, .w1c, 0, 0x7fc⟩, ⟨3, 1, .w1c, 0, 0x7fc⟩, ⟨4, 1, .w1c, 0, 0x7fc⟩, ⟨5, 1, .w1c, 0, 0x7fc⟩]⟩,
  ⟨0x8, 1, 4, [⟨0, 4, .rw, 3, 0x7fc⟩, ⟨16, 16, .rw, 60, 0x7fc⟩]⟩,
  ⟨0xC, 1, 4, [⟨0, 32, .rc, 0, 0x7fc⟩]⟩,
  ⟨0x10, 1, 4, [⟨0, 32, .rc, 0, 0x7fc⟩]⟩,
  ⟨0x14, 1, 4, [⟨0, 32, .rc, 0, 0x7fc⟩]⟩,
  ⟨0x18, 1, 4, [⟨0, 6, .ro, 0, 0x7fc⟩, ⟨8, 7, .ro, 0, 0x7fc⟩]⟩,
  ⟨0x1C, 1, 4, [⟨0, 7, .wo, 0, 0x0⟩]⟩,
  ⟨0x20, 1, 4, [⟨0, 16, .rc, 0, 0x7fc⟩]⟩,
  ⟨0x24, 1, 4, [⟨0, 24, .rw, 0x8000, 0x7fc⟩, ⟨24, 1, .rw, 0, 0x7fc⟩]⟩,
  ⟨0x28, 1, 4, [⟨0, 32, .wo, 0, 0x0⟩]⟩,
  ⟨0x2C, 1, 4, [⟨0, 32, .ro, 0, 0x7fc⟩]⟩]

/-- Sluice registers (R358): SLUICE.FATAL_INFO, SLUICE.FATAL_ACK, SLUICE.INJ_CTRL, SLUICE.INJ_ADDR, SLUICE.LOG. -/
def regRowsSluice2 : List RegRow := [
  ⟨0x30, 1, 4, [⟨0, 6, .ro, 0, 0x7fc⟩, ⟨6, 5, .ro, 0, 0x7fc⟩, ⟨11, 7, .ro, 0, 0x7fc⟩]⟩,
  ⟨0x34, 1, 4, [⟨0, 1, .wo, 0, 0x0⟩]⟩,
  ⟨0x38, 1, 4, [⟨0, 3, .rw, 0, 0x0⟩, ⟨3, 5, .rw, 0, 0x0⟩, ⟨8, 7, .rw, 0, 0x0⟩]⟩,
  ⟨0x3C, 1, 4, [⟨0, 32, .rw, 0, 0x0⟩]⟩,
  ⟨0x1000, 512, 4, [⟨0, 32, .ro, 0, 0x7fc⟩]⟩]

/-- All Sluice registers. -/
def regRowsSluice : List RegRow := regRowsSluice1 ++ regRowsSluice2

/-- Repair registers (R359): REPAIR.CFG, REPAIR.STATUS, REPAIR.CMD, REPAIR.CMD_STATUS, REPAIR.SPARES, REPAIR.FENCED_CU, REPAIR.FENCED_CH, REPAIR.ASSIGN_S, REPAIR.ASSIGN_B, REPAIR.ASSIGN_X, REPAIR.LAST_TEST, REPAIR.TESTS. -/
def regRowsRepair1 : List RegRow := [
  ⟨0x0, 1, 4, [⟨0, 16, .rw, 1440, 0x7fc⟩, ⟨16, 8, .rw, 24, 0x7fc⟩]⟩,
  ⟨0x4, 1, 4, [⟨0, 1, .ro, 0, 0x0⟩, ⟨1, 3, .ro, 0, 0x0⟩, ⟨4, 1, .ro, 0, 0x0⟩, ⟨5, 1, .ro, 0, 0x0⟩, ⟨6, 1, .ro, 0, 0x0⟩]⟩,
  ⟨0x8, 1, 4, [⟨0, 3, .wo, 0, 0x0⟩, ⟨3, 5, .wo, 0, 0x0⟩, ⟨8, 7, .wo, 0, 0x0⟩]⟩,
  ⟨0xC, 1, 4, [⟨0, 3, .ro, 0, 0x0⟩]⟩,
  ⟨0x10, 1, 4, [⟨0, 1, .ro, 1, 0x0⟩, ⟨1, 1, .ro, 1, 0x0⟩, ⟨2, 1, .ro, 1, 0x0⟩, ⟨8, 6, .ro, 63, 0x0⟩, ⟨16, 7, .ro, 72, 0x0⟩]⟩,
  ⟨0x14, 1, 4, [⟨0, 9, .ro, 0, 0x7c0⟩, ⟨16, 5, .ro, 0, 0x7c0⟩]⟩,
  ⟨0x18, 1, 4, [⟨0, 9, .ro, 0, 0x7c0⟩]⟩,
  ⟨0x1C, 1, 4, [⟨0, 4, .ro, 0, 0x1c0⟩, ⟨4, 4, .ro, 1, 0x1c0⟩, ⟨8, 4, .ro, 2, 0x1c0⟩, ⟨12, 4, .ro, 3, 0x1c0⟩, ⟨16, 4, .ro, 4, 0x1c0⟩, ⟨20, 4, .ro, 5, 0x1c0⟩, ⟨24, 4, .ro, 6, 0x1c0⟩, ⟨28, 4, .ro, 7, 0x1c0⟩]⟩,
  ⟨0x20, 1, 4, [⟨0, 4, .ro, 0, 0x1c0⟩, ⟨4, 4, .ro, 1, 0x1c0⟩, ⟨8, 4, .ro, 2, 0x1c0⟩, ⟨12, 4, .ro, 3, 0x1c0⟩]⟩,
  ⟨0x24, 1, 4, [⟨0, 4, .ro, 8, 0x1c0⟩, ⟨4, 4, .ro, 4, 0x1c0⟩, ⟨8, 4, .ro, 8, 0x1c0⟩]⟩,
  ⟨0x28, 1, 4, [⟨0, 5, .ro, 0, 0x7fc⟩, ⟨5, 7, .ro, 0, 0x7fc⟩, ⟨12, 1, .ro, 0, 0x7fc⟩, ⟨13, 19, .ro, 0, 0x7fc⟩]⟩,
  ⟨0x2C, 1, 4, [⟨0, 32, .rc, 0, 0x7fc⟩]⟩]

/-- Repair registers (R359): REPAIR.TESTFAILS, REPAIR.ROTATIONS, REPAIR.EVENTS, REPAIR.MAP. -/
def regRowsRepair2 : List RegRow := [
  ⟨0x30, 1, 4, [⟨0, 32, .rc, 0, 0x7fc⟩]⟩,
  ⟨0x34, 1, 4, [⟨0, 32, .rc, 0, 0x7fc⟩]⟩,
  ⟨0x38, 1, 4, [⟨0, 1, .w1c, 0, 0x7fc⟩, ⟨1, 1, .w1c, 0, 0x7fc⟩, ⟨2, 1, .w1c, 0, 0x7fc⟩, ⟨3, 1, .w1c, 0, 0x7fc⟩, ⟨4, 1, .w1c, 0, 0x7fc⟩]⟩,
  ⟨0x1000, 1, 4, [⟨0, 32, .ro, 0x52a70001, 0x7c0⟩]⟩,
  ⟨0x1004, 254, 4, [⟨0, 32, .ro, 0, 0x7c0⟩]⟩,
  ⟨0x13FC, 1, 4, [⟨0, 32, .ro, 0xbfa9a129, 0x7c0⟩]⟩]

/-- All Repair registers. -/
def regRowsRepair : List RegRow := regRowsRepair1 ++ regRowsRepair2

/-- Weir registers (R136): WEIR.STATUS, WEIR.LOCKS, WEIR.CABLE, WEIR.SUPPLY, WEIR.EVENTS, WEIR.REFUSALS, WEIR.LAST, WEIR.LEDGER_SEL, WEIR.LEDGER_BKT, WEIR.LO, WEIR.HI, WEIR.PWR. -/
def regRowsWeir1 : List RegRow := [
  ⟨0x0, 1, 4, [⟨0, 1, .ro, 1, 0x0⟩, ⟨1, 1, .ro, 0, 0x0⟩, ⟨2, 1, .ro, 0, 0x0⟩, ⟨3, 1, .ro, 0, 0x0⟩, ⟨4, 1, .ro, 0, 0x0⟩, ⟨5, 1, .ro, 0, 0x0⟩, ⟨6, 1, .ro, 0, 0x0⟩, ⟨7, 1, .ro, 0, 0x0⟩, ⟨8, 1, .ro, 0, 0x0⟩, ⟨9, 1, .ro, 0, 0x0⟩]⟩,
  ⟨0x4, 1, 4, [⟨0, 8, .ro, 0, 0x0⟩, ⟨8, 1, .ro, 0, 0x0⟩, ⟨9, 1, .ro, 0, 0x0⟩, ⟨10, 1, .ro, 0, 0x0⟩]⟩,
  ⟨0x8, 1, 4, [⟨0, 8, .rwl, 200, 0x1c0⟩]⟩,
  ⟨0xC, 1, 4, [⟨0, 8, .rwl, 90, 0x1c0⟩]⟩,
  ⟨0x10, 1, 4, [⟨0, 1, .w1c, 0, 0x80⟩, ⟨1, 1, .w1c, 0, 0x80⟩, ⟨2, 1, .w1c, 0, 0x80⟩, ⟨3, 1, .w1c, 0, 0x80⟩, ⟨4, 1, .w1c, 0, 0x80⟩, ⟨5, 1, .w1c, 0, 0x80⟩, ⟨6, 1, .w1c, 0, 0x80⟩, ⟨7, 1, .w1c, 0, 0x80⟩, ⟨8, 1, .w1c, 0, 0x80⟩]⟩,
  ⟨0x14, 1, 4, [⟨0, 32, .rc, 0, 0x80⟩]⟩,
  ⟨0x18, 1, 4, [⟨0, 4, .ro, 0, 0x80⟩, ⟨4, 3, .ro, 0, 0x80⟩, ⟨7, 1, .ro, 0, 0x80⟩, ⟨8, 24, .ro, 0, 0x80⟩]⟩,
  ⟨0x1C, 1, 4, [⟨0, 3, .rw, 0, 0x180⟩, ⟨8, 6, .rw, 0, 0x180⟩]⟩,
  ⟨0x20, 1, 4, [⟨0, 32, .ro, 0, 0x7fc⟩]⟩,
  ⟨0x100, 8, 32, [⟨0, 30, .rwl, 0, 0x1c0⟩]⟩,
  ⟨0x104, 8, 32, [⟨0, 30, .rwl, 0, 0x1c0⟩]⟩,
  ⟨0x108, 8, 32, [⟨0, 9, .rwl, 0, 0x1c0⟩, ⟨16, 16, .rwl, 0, 0x1c0⟩]⟩]

/-- Weir registers (R136): WEIR.COND, WEIR.DUTY, WEIR.USED, WEIR.RESV, WEIR.REMAIN. -/
def regRowsWeir2 : List RegRow := [
  ⟨0x10C, 8, 32, [⟨0, 16, .rwl, 0, 0x1c0⟩, ⟨16, 1, .rwl, 0, 0x1c0⟩, ⟨17, 1, .rwl, 0, 0x1c0⟩]⟩,
  ⟨0x110, 8, 32, [⟨0, 20, .rwl, 0, 0x1c0⟩]⟩,
  ⟨0x114, 8, 32, [⟨0, 32, .ro, 0, 0x7fc⟩]⟩,
  ⟨0x118, 8, 32, [⟨0, 32, .ro, 0, 0x7fc⟩]⟩,
  ⟨0x11C, 8, 32, [⟨0, 32, .ro, 0, 0x7fc⟩]⟩]

/-- All Weir registers. -/
def regRowsWeir : List RegRow := regRowsWeir1 ++ regRowsWeir2

/-- Rf registers (R120): RFx.SYN_CTRL, RFx.FC, RFx.SYN_STATUS, RFx.CAL, RFx.TXCFG, RFx.RAMP, RFx.TX_ABORT, RFx.TX_STATUS, RFx.EVENTS, RFx.SENT, RFx.FAILED, RFx.PACAL. -/
def regRowsRf1 : List RegRow := [
  ⟨0x0, 1, 4, [⟨0, 1, .rw, 0, 0x180⟩]⟩,
  ⟨0x4, 1, 4, [⟨0, 30, .rw, 0x33bca100, 0x180⟩]⟩,
  ⟨0x8, 1, 4, [⟨0, 3, .ro, 0, 0x0⟩, ⟨3, 1, .ro, 0, 0x0⟩, ⟨4, 1, .ro, 0, 0x0⟩, ⟨5, 1, .ro, 0, 0x0⟩, ⟨6, 5, .ro, 0, 0x0⟩, ⟨11, 4, .ro, 0, 0x0⟩]⟩,
  ⟨0xC, 1, 4, [⟨0, 30, .wo, 0, 0x0⟩, ⟨30, 1, .wo, 0, 0x0⟩, ⟨31, 1, .wo, 0, 0x0⟩]⟩,
  ⟨0x10, 1, 4, [⟨0, 6, .rw, 0, 0x180⟩, ⟨8, 6, .rw, 0, 0x180⟩, ⟨16, 6, .rw, 0, 0x180⟩, ⟨24, 8, .rw, 140, 0x180⟩]⟩,
  ⟨0x14, 1, 4, [⟨0, 6, .rw, 16, 0x180⟩]⟩,
  ⟨0x18, 1, 4, [⟨0, 1, .wo, 0, 0x0⟩, ⟨1, 1, .wo, 0, 0x0⟩, ⟨2, 1, .wo, 0, 0x0⟩]⟩,
  ⟨0x1C, 1, 4, [⟨0, 3, .ro, 0, 0x0⟩, ⟨3, 1, .ro, 0, 0x0⟩, ⟨4, 1, .ro, 0, 0x0⟩, ⟨5, 1, .ro, 0, 0x0⟩]⟩,
  ⟨0x20, 1, 4, [⟨0, 1, .w1c, 0, 0x80⟩, ⟨1, 1, .w1c, 0, 0x80⟩, ⟨2, 1, .w1c, 0, 0x80⟩, ⟨3, 1, .w1c, 0, 0x80⟩, ⟨4, 1, .w1c, 0, 0x80⟩, ⟨5, 1, .w1c, 0, 0x80⟩]⟩,
  ⟨0x24, 1, 4, [⟨0, 32, .rc, 0, 0x80⟩]⟩,
  ⟨0x28, 1, 4, [⟨0, 32, .rc, 0, 0x80⟩]⟩,
  ⟨0x2C, 1, 4, [⟨0, 8, .rw, 0, 0x180⟩]⟩]

/-- Rf registers (R120): RFx.SHAPE. -/
def regRowsRf2 : List RegRow := [
  ⟨0x80, 1, 4, [⟨0, 10, .rw, 2, 0x180⟩]⟩,
  ⟨0x84, 1, 4, [⟨0, 10, .rw, 10, 0x180⟩]⟩,
  ⟨0x88, 1, 4, [⟨0, 10, .rw, 22, 0x180⟩]⟩,
  ⟨0x8C, 1, 4, [⟨0, 10, .rw, 39, 0x180⟩]⟩,
  ⟨0x90, 1, 4, [⟨0, 10, .rw, 60, 0x180⟩]⟩,
  ⟨0x94, 1, 4, [⟨0, 10, .rw, 86, 0x180⟩]⟩,
  ⟨0x98, 1, 4, [⟨0, 10, .rw, 116, 0x180⟩]⟩,
  ⟨0x9C, 1, 4, [⟨0, 10, .rw, 150, 0x180⟩]⟩,
  ⟨0xA0, 1, 4, [⟨0, 10, .rw, 187, 0x180⟩]⟩,
  ⟨0xA4, 1, 4, [⟨0, 10, .rw, 227, 0x180⟩]⟩,
  ⟨0xA8, 1, 4, [⟨0, 10, .rw, 270, 0x180⟩]⟩,
  ⟨0xAC, 1, 4, [⟨0, 10, .rw, 316, 0x180⟩]⟩]

/-- Rf registers (R120): RFx.SHAPE. -/
def regRowsRf3 : List RegRow := [
  ⟨0xB0, 1, 4, [⟨0, 10, .rw, 363, 0x180⟩]⟩,
  ⟨0xB4, 1, 4, [⟨0, 10, .rw, 412, 0x180⟩]⟩,
  ⟨0xB8, 1, 4, [⟨0, 10, .rw, 461, 0x180⟩]⟩,
  ⟨0xBC, 1, 4, [⟨0, 10, .rw, 512, 0x180⟩]⟩,
  ⟨0xC0, 1, 4, [⟨0, 10, .rw, 562, 0x180⟩]⟩,
  ⟨0xC4, 1, 4, [⟨0, 10, .rw, 611, 0x180⟩]⟩,
  ⟨0xC8, 1, 4, [⟨0, 10, .rw, 660, 0x180⟩]⟩,
  ⟨0xCC, 1, 4, [⟨0, 10, .rw, 707, 0x180⟩]⟩,
  ⟨0xD0, 1, 4, [⟨0, 10, .rw, 753, 0x180⟩]⟩,
  ⟨0xD4, 1, 4, [⟨0, 10, .rw, 796, 0x180⟩]⟩,
  ⟨0xD8, 1, 4, [⟨0, 10, .rw, 836, 0x180⟩]⟩,
  ⟨0xDC, 1, 4, [⟨0, 10, .rw, 873, 0x180⟩]⟩]

/-- Rf registers (R120): RFx.SHAPE. -/
def regRowsRf4 : List RegRow := [
  ⟨0xE0, 1, 4, [⟨0, 10, .rw, 907, 0x180⟩]⟩,
  ⟨0xE4, 1, 4, [⟨0, 10, .rw, 937, 0x180⟩]⟩,
  ⟨0xE8, 1, 4, [⟨0, 10, .rw, 963, 0x180⟩]⟩,
  ⟨0xEC, 1, 4, [⟨0, 10, .rw, 984, 0x180⟩]⟩,
  ⟨0xF0, 1, 4, [⟨0, 10, .rw, 1001, 0x180⟩]⟩,
  ⟨0xF4, 1, 4, [⟨0, 10, .rw, 1013, 0x180⟩]⟩,
  ⟨0xF8, 1, 4, [⟨0, 10, .rw, 1021, 0x180⟩]⟩,
  ⟨0xFC, 1, 4, [⟨0, 10, .rw, 1023, 0x180⟩]⟩]

/-- All Rf registers. -/
def regRowsRf : List RegRow := regRowsRf1 ++ regRowsRf2 ++ regRowsRf3 ++ regRowsRf4

/-- Basin registers (R67): BASIN.CTRL, BASIN.CFG, BASIN.STATUS, BASIN.EVENTS, BASIN.LANE_ABORT, BASIN.PCFG, BASIN.GAINCAL, BASIN.AGC, BASIN.NOLANE, BASIN.IGNORED, BASIN.NOSYNC, BASIN.CAPTURES. -/
def regRowsBasin1 : List RegRow := [
  ⟨0x0, 1, 4, [⟨0, 1, .rw, 0, 0x180⟩, ⟨1, 1, .rw, 0, 0x180⟩]⟩,
  ⟨0x4, 1, 4, [⟨0, 7, .rw, 64, 0x180⟩, ⟨8, 4, .rw, 6, 0x180⟩, ⟨12, 4, .rw, 0, 0x180⟩, ⟨16, 1, .rw, 1, 0x180⟩, ⟨17, 1, .rw, 1, 0x180⟩, ⟨18, 1, .rw, 1, 0x180⟩, ⟨19, 1, .rw, 0, 0x180⟩]⟩,
  ⟨0x8, 1, 4, [⟨0, 7, .ro, 0, 0x0⟩, ⟨8, 7, .ro, 72, 0x0⟩, ⟨16, 7, .ro, 127, 0x0⟩, ⟨24, 1, .ro, 0, 0x0⟩, ⟨25, 1, .ro, 0, 0x0⟩, ⟨26, 1, .ro, 0, 0x0⟩, ⟨27, 1, .ro, 0, 0x0⟩]⟩,
  ⟨0xC, 1, 4, [⟨0, 1, .w1c, 0, 0x80⟩, ⟨1, 1, .w1c, 0, 0x80⟩, ⟨2, 1, .w1c, 0, 0x80⟩, ⟨3, 1, .w1c, 0, 0x80⟩, ⟨4, 1, .w1c, 0, 0x80⟩, ⟨5, 1, .w1c, 0, 0x80⟩, ⟨6, 1, .w1c, 0, 0x80⟩]⟩,
  ⟨0x10, 1, 4, [⟨0, 7, .wo, 0, 0x0⟩, ⟨7, 1, .wo, 0, 0x0⟩, ⟨8, 1, .wo, 0, 0x0⟩, ⟨9, 1, .wo, 0, 0x0⟩]⟩,
  ⟨0x100, 2, 64, [⟨0, 6, .rw, 0, 0x180⟩, ⟨8, 6, .rw, 0, 0x180⟩, ⟨16, 7, .rw, 64, 0x180⟩, ⟨24, 1, .rw, 0, 0x180⟩, ⟨25, 3, .rw, 3, 0x180⟩]⟩,
  ⟨0x104, 2, 64, [⟨0, 12, .rw, 0, 0x180⟩]⟩,
  ⟨0x108, 2, 64, [⟨0, 3, .ro, 3, 0x0⟩, ⟨16, 16, .rc, 0, 0x80⟩]⟩,
  ⟨0x10C, 2, 64, [⟨0, 32, .rc, 0, 0x80⟩]⟩,
  ⟨0x110, 2, 64, [⟨0, 32, .rc, 0, 0x80⟩]⟩,
  ⟨0x114, 2, 64, [⟨0, 32, .rc, 0, 0x80⟩]⟩,
  ⟨0x118, 2, 64, [⟨0, 32, .rc, 0, 0x80⟩]⟩]

/-- Basin registers (R67): BASIN.PMATCH, BASIN.PSYNC, BASIN.DET, BASIN.PINC, BASIN.PINS, BASIN.LANE. -/
def regRowsBasin2 : List RegRow := [
  ⟨0x200, 16, 16, [⟨0, 4, .rw, 0, 0x180⟩, ⟨8, 6, .rw, 16, 0x180⟩, ⟨16, 8, .rw, 160, 0x180⟩, ⟨24, 8, .rw, 131, 0x180⟩]⟩,
  ⟨0x204, 16, 16, [⟨0, 10, .rw, 96, 0x180⟩, ⟨10, 2, .rw, 1, 0x180⟩, ⟨16, 6, .rw, 8, 0x180⟩]⟩,
  ⟨0x400, 128, 4, [⟨0, 1, .rw, 0, 0x180⟩, ⟨1, 2, .rw, 0, 0x180⟩, ⟨4, 3, .rw, 0, 0x180⟩, ⟨8, 2, .rw, 1, 0x180⟩, ⟨24, 8, .ro, 128, 0x0⟩]⟩,
  ⟨0x600, 16, 8, [⟨0, 1, .rw, 0, 0x180⟩, ⟨1, 1, .rw, 0, 0x180⟩, ⟨2, 6, .rw, 0, 0x180⟩, ⟨8, 6, .rw, 0, 0x180⟩, ⟨14, 1, .rw, 0, 0x180⟩]⟩,
  ⟨0x604, 16, 8, [⟨0, 7, .ro, 127, 0x0⟩, ⟨8, 3, .ro, 0, 0x0⟩]⟩,
  ⟨0x800, 72, 4, [⟨0, 3, .ro, 0, 0x0⟩, ⟨3, 1, .ro, 0, 0x0⟩, ⟨4, 1, .ro, 0, 0x0⟩, ⟨5, 1, .ro, 0, 0x0⟩, ⟨6, 6, .ro, 0, 0x0⟩, ⟨12, 2, .ro, 0, 0x0⟩, ⟨16, 4, .ro, 0, 0x0⟩, ⟨20, 4, .ro, 0, 0x0⟩]⟩]

/-- All Basin registers. -/
def regRowsBasin : List RegRow := regRowsBasin1 ++ regRowsBasin2

/-- Ripple registers (R316): RIPPLE.CTRL, RIPPLE.EVENTS, RIPPLE.CFG, RIPPLE.ADDR0, RIPPLE.ADDR1, RIPPLE.FB, RIPPLE.STATUS, RIPPLE.STAMP, RIPPLE.CALLS. -/
def regRowsRipple : List RegRow := [
  ⟨0x0, 1, 4, [⟨0, 1, .rw, 0, 0x7fc⟩, ⟨1, 1, .rw, 0, 0x7fc⟩]⟩,
  ⟨0x4, 1, 4, [⟨0, 1, .w1c, 0, 0x7fc⟩, ⟨1, 1, .w1c, 0, 0x7fc⟩]⟩,
  ⟨0x100, 2, 32, [⟨0, 14, .rw, 0x21e8, 0x7fc⟩, ⟨14, 1, .rw, 0, 0x7fc⟩, ⟨15, 1, .rw, 0, 0x7fc⟩, ⟨16, 1, .rw, 0, 0x7fc⟩, ⟨17, 1, .rw, 1, 0x7fc⟩, ⟨18, 1, .rw, 1, 0x7fc⟩, ⟨19, 1, .rw, 0, 0x7fc⟩]⟩,
  ⟨0x104, 2, 32, [⟨0, 24, .rw, 0, 0x7fc⟩]⟩,
  ⟨0x108, 2, 32, [⟨0, 24, .rw, 0, 0x7fc⟩]⟩,
  ⟨0x10C, 2, 32, [⟨0, 8, .rw, 50, 0x7fc⟩, ⟨8, 8, .rw, 186, 0x7fc⟩]⟩,
  ⟨0x110, 2, 32, [⟨0, 3, .ro, 0, 0x7fc⟩, ⟨3, 1, .ro, 0, 0x0⟩]⟩,
  ⟨0x114, 2, 32, [⟨0, 32, .ro, 0, 0x7fc⟩]⟩,
  ⟨0x118, 2, 32, [⟨0, 16, .rc, 0, 0x7fc⟩, ⟨16, 16, .rc, 0, 0x7fc⟩]⟩]

/-- Lathe registers (R101): LATHE.CTRL, LATHE.CFG, LATHE.MAXWIN, LATHE.RESYNC_WIN, LATHE.TX_LEAD, LATHE.WAKE_LEAD, LATHE.OWN_DRIFT, LATHE.NOTE_FLUME, LATHE.PDC. -/
def regRowsLathe1 : List RegRow := [
  ⟨0x0, 1, 4, [⟨0, 1, .rw, 0, 0x180⟩]⟩,
  ⟨0x4, 1, 4, [⟨0, 4, .rw, 3, 0x180⟩, ⟨4, 1, .rw, 0, 0x180⟩, ⟨16, 16, .rw, 1000, 0x180⟩]⟩,
  ⟨0x8, 1, 4, [⟨0, 17, .rw, 0x3e80, 0x180⟩]⟩,
  ⟨0xC, 1, 4, [⟨0, 24, .rw, 0x8000, 0x180⟩]⟩,
  ⟨0x10, 1, 4, [⟨0, 16, .rw, 500, 0x180⟩]⟩,
  ⟨0x14, 1, 4, [⟨0, 16, .rw, 400, 0x180⟩]⟩,
  ⟨0x18, 1, 4, [⟨0, 12, .rw, 32, 0x180⟩]⟩,
  ⟨0x1C, 1, 4, [⟨0, 6, .rw, 0, 0x180⟩, ⟨8, 6, .rw, 0, 0x180⟩]⟩,
  ⟨0x20, 1, 4, [⟨0, 12, .rw, 16, 0x180⟩]⟩,
  ⟨0x24, 1, 4, [⟨0, 12, .rw, 32, 0x180⟩]⟩,
  ⟨0x28, 1, 4, [⟨0, 12, .rw, 80, 0x180⟩]⟩,
  ⟨0x2C, 1, 4, [⟨0, 12, .rw, 160, 0x180⟩]⟩]

/-- Lathe registers (R101): LATHE.PDC, LATHE.DCL, LATHE.DMON_LO, LATHE.DMON_HI, LATHE.DMON_SHORT, LATHE.CMD, LATHE.CMD_STATUS, LATHE.COMMIT, LATHE.COMMIT_STATUS. -/
def regRowsLathe2 : List RegRow := [
  ⟨0x30, 1, 4, [⟨0, 12, .rw, 320, 0x180⟩]⟩,
  ⟨0x34, 1, 4, [⟨0, 12, .rw, 640, 0x180⟩]⟩,
  ⟨0x38, 1, 4, [⟨0, 12, .rw, 960, 0x180⟩]⟩,
  ⟨0x3C, 1, 4, [⟨0, 12, .rw, 1600, 0x180⟩]⟩,
  ⟨0x40, 16, 4, [⟨0, 16, .rw, 1000, 0x180⟩]⟩,
  ⟨0x80, 1, 4, [⟨0, 32, .rw, 0, 0x180⟩]⟩,
  ⟨0x84, 1, 4, [⟨0, 32, .rw, 0, 0x180⟩]⟩,
  ⟨0x88, 1, 4, [⟨0, 16, .rc, 0, 0x80⟩]⟩,
  ⟨0x8C, 1, 4, [⟨0, 13, .wo, 0, 0x0⟩, ⟨13, 3, .wo, 0, 0x0⟩]⟩,
  ⟨0x90, 1, 4, [⟨0, 4, .ro, 0, 0x0⟩, ⟨4, 1, .ro, 0, 0x0⟩, ⟨5, 13, .ro, 0, 0x0⟩]⟩,
  ⟨0x94, 1, 4, [⟨0, 13, .wo, 0, 0x0⟩, ⟨13, 3, .wo, 0, 0x0⟩, ⟨16, 8, .wo, 0, 0x0⟩]⟩,
  ⟨0x98, 1, 4, [⟨0, 3, .ro, 0, 0x0⟩, ⟨3, 13, .ro, 0, 0x0⟩, ⟨16, 16, .rc, 0, 0x80⟩]⟩]

/-- Lathe registers (R101): LATHE.STATUS, LATHE.EVENTS, LATHE.SKIPS, LATHE.COLLISIONS, LATHE.LAGMAX, LATHE.HEAD, LATHE.PLANF, LATHE.PLANC. -/
def regRowsLathe3 : List RegRow := [
  ⟨0x9C, 1, 4, [⟨0, 14, .ro, 0, 0x0⟩, ⟨14, 1, .ro, 0, 0x0⟩, ⟨16, 9, .ro, 0, 0x0⟩, ⟨25, 7, .ro, 0, 0x0⟩]⟩,
  ⟨0xA0, 1, 4, [⟨0, 1, .w1c, 0, 0x80⟩, ⟨1, 1, .w1c, 0, 0x80⟩, ⟨2, 1, .w1c, 0, 0x80⟩, ⟨3, 1, .w1c, 0, 0x80⟩, ⟨4, 1, .w1c, 0, 0x80⟩, ⟨5, 1, .w1c, 0, 0x80⟩, ⟨6, 1, .w1c, 0, 0x80⟩, ⟨7, 1, .w1c, 0, 0x80⟩, ⟨8, 1, .w1c, 0, 0x80⟩]⟩,
  ⟨0xA4, 1, 4, [⟨0, 32, .rc, 0, 0x80⟩]⟩,
  ⟨0xA8, 1, 4, [⟨0, 32, .rc, 0, 0x80⟩]⟩,
  ⟨0xAC, 1, 4, [⟨0, 16, .rc, 0, 0x80⟩]⟩,
  ⟨0xB0, 1, 4, [⟨0, 13, .ro, 0, 0x0⟩, ⟨31, 1, .ro, 1, 0x0⟩]⟩,
  ⟨0x100, 16, 8, [⟨0, 30, .rw, 0, 0x180⟩, ⟨31, 1, .rw, 0, 0x180⟩]⟩,
  ⟨0x104, 16, 8, [⟨0, 22, .rw, 0, 0x180⟩, ⟨22, 2, .rw, 0, 0x180⟩, ⟨24, 4, .rw, 0, 0x180⟩, ⟨28, 1, .rw, 0, 0x180⟩]⟩]

/-- All Lathe registers. -/
def regRowsLathe : List RegRow := regRowsLathe1 ++ regRowsLathe2 ++ regRowsLathe3

/-- Chisel registers (R176): CHISEL.CFG, CHISEL.STATUS, CHISEL.EVENTS, CHISEL.JOBS, CHISEL.FAILS, CHISEL.LEASE, CHISEL.LOCK, CHISEL.LOCK_STATUS, CHISEL.LOCK_EXPIRIES, CHISEL.QCFG, CHISEL.KSEL, CHISEL.KCTRL. -/
def regRowsChisel1 : List RegRow := [
  ⟨0x0, 1, 4, [⟨0, 1, .rw, 0, 0x180⟩]⟩,
  ⟨0x4, 1, 4, [⟨0, 4, .ro, 8, 0x0⟩, ⟨4, 1, .ro, 1, 0x0⟩, ⟨5, 8, .ro, 0, 0x0⟩, ⟨13, 1, .ro, 0, 0x0⟩]⟩,
  ⟨0x8, 1, 4, [⟨0, 1, .w1c, 0, 0x80⟩, ⟨1, 1, .w1c, 0, 0x80⟩, ⟨2, 1, .w1c, 0, 0x80⟩, ⟨3, 1, .w1c, 0, 0x80⟩, ⟨4, 1, .w1c, 0, 0x80⟩, ⟨5, 1, .w1c, 0, 0x80⟩, ⟨6, 1, .w1c, 0, 0x80⟩]⟩,
  ⟨0xC, 1, 4, [⟨0, 32, .rc, 0, 0x80⟩]⟩,
  ⟨0x10, 1, 4, [⟨0, 32, .rc, 0, 0x80⟩]⟩,
  ⟨0x14, 1, 4, [⟨0, 24, .rw, 3277, 0x180⟩]⟩,
  ⟨0x18, 1, 4, [⟨0, 16, .wo, 0, 0x0⟩, ⟨16, 3, .wo, 0, 0x0⟩]⟩,
  ⟨0x1C, 1, 4, [⟨0, 16, .ro, 0, 0x0⟩, ⟨16, 1, .ro, 0, 0x0⟩]⟩,
  ⟨0x20, 1, 4, [⟨0, 16, .rc, 0, 0x80⟩]⟩,
  ⟨0x30, 4, 4, [⟨0, 6, .rw, 0, 0x180⟩, ⟨8, 6, .rw, 0, 0x180⟩, ⟨14, 1, .rw, 0, 0x180⟩]⟩,
  ⟨0x40, 1, 4, [⟨0, 10, .rw, 0, 0x180⟩]⟩,
  ⟨0x44, 1, 4, [⟨0, 2, .rw, 0, 0x180⟩, ⟨2, 1, .ro, 0, 0x180⟩, ⟨3, 1, .wo, 0, 0x0⟩, ⟨4, 1, .wo, 0, 0x0⟩]⟩]

/-- Chisel registers (R176): CHISEL.KDATA, CHISEL.WRAPKEY, CHISEL.WSEQ_LO, CHISEL.WSEQ_HI. -/
def regRowsChisel2 : List RegRow := [
  ⟨0x60, 8, 4, [⟨0, 32, .rw, 0, 0x180⟩]⟩,
  ⟨0x80, 8, 4, [⟨0, 32, .ro, 0, 0x1c0⟩]⟩,
  ⟨0xA0, 1, 4, [⟨0, 32, .ro, 0, 0x1c0⟩]⟩,
  ⟨0xA4, 1, 4, [⟨0, 32, .snap, 0, 0x1c0⟩]⟩]

/-- All Chisel registers. -/
def regRowsChisel : List RegRow := regRowsChisel1 ++ regRowsChisel2

/-- Flume registers (R195): FLUME.STALL_LIMIT, FLUME.EVENTS, FLUME.DROP_LO, FLUME.DROP_HI, FLUME.PARITY, FLUME.CUTS, FLUME.SPARE_UNITS, FLUME.CFG, FLUME.STATUS, FLUME.PKTS, FLUME.DROPS, FLUME.PUSH_ATTR. -/
def regRowsFlume1 : List RegRow := [
  ⟨0x0, 1, 4, [⟨0, 16, .rw, 0, 0x180⟩]⟩,
  ⟨0x4, 1, 4, [⟨0, 1, .w1c, 0, 0x80⟩, ⟨1, 1, .w1c, 0, 0x80⟩, ⟨2, 1, .w1c, 0, 0x80⟩, ⟨3, 1, .w1c, 0, 0x80⟩, ⟨4, 1, .w1c, 0, 0x80⟩]⟩,
  ⟨0x8, 1, 4, [⟨0, 32, .w1c, 0, 0x80⟩]⟩,
  ⟨0xC, 1, 4, [⟨0, 32, .w1c, 0, 0x80⟩]⟩,
  ⟨0x10, 1, 4, [⟨0, 16, .rc, 0, 0x80⟩]⟩,
  ⟨0x14, 1, 4, [⟨0, 16, .rc, 0, 0x80⟩]⟩,
  ⟨0x18, 1, 4, [⟨0, 11, .ro, 1024, 0x0⟩]⟩,
  ⟨0x100, 64, 4, [⟨0, 10, .rw, 0, 0x180⟩, ⟨16, 11, .rw, 0, 0x180⟩, ⟨30, 1, .rw, 0, 0x180⟩, ⟨31, 1, .rw, 0, 0x180⟩]⟩,
  ⟨0x200, 64, 4, [⟨0, 17, .ro, 0, 0x180⟩, ⟨17, 1, .ro, 0, 0x180⟩, ⟨18, 1, .ro, 0, 0x180⟩, ⟨19, 1, .ro, 0, 0x0⟩]⟩,
  ⟨0x300, 64, 4, [⟨0, 17, .ro, 0, 0x180⟩]⟩,
  ⟨0x400, 64, 4, [⟨0, 32, .rc, 0, 0x80⟩]⟩,
  ⟨0x1000, 64, 16, [⟨0, 4, .rw, 0, 0x180⟩, ⟨4, 1, .rw, 0, 0x180⟩]⟩]

/-- Flume registers (R195): FLUME.PUSH, FLUME.POP, FLUME.POP_ATTR. -/
def regRowsFlume2 : List RegRow := [
  ⟨0x1004, 64, 16, [⟨0, 32, .wo, 0, 0x0⟩]⟩,
  ⟨0x1008, 64, 16, [⟨0, 32, .ro, 0, 0x0⟩]⟩,
  ⟨0x100C, 64, 16, [⟨0, 4, .snap, 15, 0x0⟩, ⟨4, 1, .snap, 0, 0x0⟩, ⟨5, 1, .snap, 0, 0x0⟩, ⟨6, 1, .snap, 1, 0x0⟩, ⟨7, 1, .snap, 0, 0x0⟩]⟩]

/-- All Flume registers. -/
def regRowsFlume : List RegRow := regRowsFlume1 ++ regRowsFlume2

/-- Aqua registers (R221): AQUA.CFG, AQUA.ADDR, AQUA.EVENTS, AQUA.PCTRL, AQUA.PCFG, AQUA.AMP, AQUA.FLUMES, AQUA.BUFCFG, AQUA.LINK, AQUA.LQ, AQUA.WAKE, AQUA.RXOK. -/
def regRowsAqua1 : List RegRow := [
  ⟨0x0, 1, 4, [⟨0, 1, .rw, 0, 0x180⟩, ⟨1, 1, .rw, 0, 0x180⟩, ⟨2, 1, .rw, 0, 0x180⟩, ⟨3, 4, .rw, 4, 0x180⟩]⟩,
  ⟨0x4, 1, 4, [⟨0, 16, .rw, 0, 0x180⟩]⟩,
  ⟨0x8, 1, 4, [⟨0, 1, .w1c, 0, 0x80⟩, ⟨1, 1, .w1c, 0, 0x80⟩, ⟨2, 1, .w1c, 0, 0x80⟩, ⟨3, 1, .w1c, 0, 0x80⟩, ⟨4, 1, .w1c, 0, 0x80⟩, ⟨5, 1, .w1c, 0, 0x80⟩, ⟨6, 1, .w1c, 0, 0x80⟩, ⟨7, 1, .w1c, 0, 0x80⟩, ⟨8, 1, .w1c, 0, 0x80⟩]⟩,
  ⟨0x100, 2, 64, [⟨0, 1, .rw, 0, 0x180⟩, ⟨1, 1, .rw, 0, 0x180⟩, ⟨2, 1, .wo, 0, 0x0⟩, ⟨3, 1, .wo, 0, 0x0⟩]⟩,
  ⟨0x104, 2, 64, [⟨0, 4, .rw, 9, 0x180⟩, ⟨4, 4, .rw, 3, 0x180⟩, ⟨8, 1, .rw, 1, 0x180⟩, ⟨16, 8, .rw, 20, 0x180⟩, ⟨24, 8, .rw, 2, 0x180⟩]⟩,
  ⟨0x108, 2, 64, [⟨0, 8, .rw, 200, 0x180⟩, ⟨8, 8, .ro, 0, 0x0⟩, ⟨16, 1, .ro, 0, 0x0⟩]⟩,
  ⟨0x10C, 2, 64, [⟨0, 6, .rw, 0, 0x180⟩, ⟨8, 6, .rw, 0, 0x180⟩, ⟨16, 6, .rw, 0, 0x180⟩, ⟨24, 6, .rw, 0, 0x180⟩]⟩,
  ⟨0x110, 2, 64, [⟨0, 7, .rw, 64, 0x180⟩]⟩,
  ⟨0x114, 2, 64, [⟨0, 3, .ro, 0, 0x0⟩, ⟨3, 1, .ro, 0, 0x0⟩, ⟨4, 4, .ro, 0, 0x0⟩, ⟨8, 4, .ro, 0, 0x0⟩, ⟨16, 16, .ro, 0, 0x0⟩]⟩,
  ⟨0x118, 2, 64, [⟨0, 10, .ro, 0, 0x0⟩, ⟨12, 12, .ro, 0, 0x0⟩]⟩,
  ⟨0x11C, 2, 64, [⟨0, 1, .rw, 0, 0x3c0⟩, ⟨1, 7, .rw, 40, 0x3c0⟩, ⟨8, 8, .rw, 10, 0x3c0⟩]⟩,
  ⟨0x120, 2, 64, [⟨0, 32, .rc, 0, 0x80⟩]⟩]

/-- Aqua registers (R221): AQUA.RXERR, AQUA.TXOK, AQUA.RPT, AQUA.RPTDROP, AQUA.DOWNS, AQUA.TRAIN_MS. -/
def regRowsAqua2 : List RegRow := [
  ⟨0x124, 2, 64, [⟨0, 32, .rc, 0, 0x80⟩]⟩,
  ⟨0x128, 2, 64, [⟨0, 32, .rc, 0, 0x80⟩]⟩,
  ⟨0x12C, 2, 64, [⟨0, 32, .rc, 0, 0x80⟩]⟩,
  ⟨0x130, 2, 64, [⟨0, 32, .rc, 0, 0x80⟩]⟩,
  ⟨0x134, 2, 64, [⟨0, 16, .rc, 0, 0x80⟩]⟩,
  ⟨0x138, 2, 64, [⟨0, 16, .ro, 0, 0x0⟩]⟩]

/-- All Aqua registers. -/
def regRowsAqua : List RegRow := regRowsAqua1 ++ regRowsAqua2

/-- Cist registers (R294): CIST.CFG, CIST.STATUS, CIST.EVENTS, CIST.ERR, CIST.OPADDR, CIST.ERRADDR, CIST.ERASE_RUN, CIST.OPT_SRC, CIST.LOCK_MASK, CIST.INCOMPLETE, CIST.CORRECTED, CIST.UNCORR. -/
def regRowsCist1 : List RegRow := [
  ⟨0x0, 1, 4, [⟨0, 6, .rw, 0, 0x180⟩, ⟨6, 1, .rw, 0, 0x180⟩]⟩,
  ⟨0x4, 1, 4, [⟨0, 1, .ro, 0, 0x0⟩, ⟨1, 3, .ro, 0, 0x0⟩, ⟨4, 1, .ro, 0, 0x300⟩, ⟨5, 1, .ro, 0, 0x0⟩, ⟨6, 1, .ro, 0, 0x0⟩, ⟨7, 1, .ro, 0, 0x0⟩, ⟨8, 2, .ro, 0, 0x0⟩, ⟨10, 1, .ro, 0, 0x0⟩, ⟨11, 1, .ro, 1, 0x0⟩]⟩,
  ⟨0x8, 1, 4, [⟨0, 1, .w1c, 0, 0x80⟩, ⟨1, 1, .w1c, 0, 0x80⟩, ⟨2, 1, .w1c, 0, 0x80⟩, ⟨3, 1, .w1c, 0, 0x80⟩, ⟨4, 1, .w1c, 0, 0x80⟩, ⟨5, 1, .w1c, 0, 0x80⟩, ⟨6, 1, .w1c, 0, 0x80⟩, ⟨7, 1, .w1c, 0, 0x80⟩, ⟨8, 1, .w1c, 0, 0x80⟩, ⟨9, 1, .w1c, 0, 0x80⟩]⟩,
  ⟨0xC, 1, 4, [⟨0, 4, .ro, 0, 0x80⟩, ⟨4, 3, .ro, 0, 0x80⟩]⟩,
  ⟨0x10, 1, 4, [⟨0, 32, .ro, 0, 0x80⟩]⟩,
  ⟨0x14, 1, 4, [⟨0, 32, .ro, 0, 0x80⟩]⟩,
  ⟨0x18, 1, 4, [⟨0, 14, .ro, 0, 0x300⟩]⟩,
  ⟨0x1C, 1, 4, [⟨0, 32, .rw, 0, 0x180⟩]⟩,
  ⟨0x20, 1, 4, [⟨0, 11, .rw, 0, 0x180⟩, ⟨31, 1, .rw, 0, 0x180⟩]⟩,
  ⟨0x24, 1, 4, [⟨0, 10, .ro, 0, 0x0⟩, ⟨16, 9, .ro, 0, 0x0⟩, ⟨31, 1, .ro, 1, 0x0⟩]⟩,
  ⟨0x28, 1, 4, [⟨0, 32, .rc, 0, 0x80⟩]⟩,
  ⟨0x2C, 1, 4, [⟨0, 32, .rc, 0, 0x80⟩]⟩]

/-- Cist registers (R294): CIST.OPT_SEQ. -/
def regRowsCist2 : List RegRow := [
  ⟨0x30, 1, 4, [⟨0, 32, .ro, 1, 0x0⟩]⟩]

/-- All Cist registers. -/
def regRowsCist : List RegRow := regRowsCist1 ++ regRowsCist2

/-- Spout registers (R378): SPOUT.CFG, SPOUT.SOFT_TMO, SPOUT.OTA, SPOUT.AQ, SPOUT.AQBUF, SPOUT.STATUS, SPOUT.EVENTS, SPOUT.RX_OK, SPOUT.RX_ERR, SPOUT.DROPS. -/
def regRowsSpout : List RegRow := [
  ⟨0x0, 1, 4, [⟨0, 1, .rw, 1, 0x1c0⟩, ⟨1, 3, .rw, 0, 0x1c0⟩, ⟨4, 1, .rw, 1, 0x1c0⟩, ⟨8, 6, .rw, 2, 0x1c0⟩, ⟨16, 6, .rw, 3, 0x1c0⟩]⟩,
  ⟨0x4, 1, 4, [⟨0, 24, .rw, 3277, 0x1c0⟩]⟩,
  ⟨0x8, 1, 4, [⟨0, 6, .rw, 0, 0x180⟩, ⟨8, 6, .rw, 0, 0x180⟩, ⟨31, 1, .rw, 0, 0x180⟩]⟩,
  ⟨0xC, 1, 4, [⟨0, 4, .rw, 1, 0x180⟩]⟩,
  ⟨0x10, 2, 4, [⟨0, 32, .rw, 0, 0x180⟩]⟩,
  ⟨0x18, 1, 4, [⟨0, 1, .ro, 0, 0x0⟩, ⟨1, 3, .ro, 0, 0x0⟩, ⟨8, 8, .ro, 0, 0x0⟩, ⟨16, 5, .ro, 0, 0x0⟩]⟩,
  ⟨0x1C, 1, 4, [⟨0, 1, .w1c, 0, 0x80⟩, ⟨1, 1, .w1c, 0, 0x80⟩, ⟨2, 1, .w1c, 0, 0x80⟩, ⟨3, 1, .w1c, 0, 0x80⟩, ⟨4, 1, .w1c, 0, 0x80⟩]⟩,
  ⟨0x20, 1, 4, [⟨0, 32, .rc, 0, 0x80⟩]⟩,
  ⟨0x24, 1, 4, [⟨0, 32, .rc, 0, 0x80⟩]⟩,
  ⟨0x28, 1, 4, [⟨0, 32, .rc, 0, 0x80⟩]⟩]

/-- Qsp registers (R379): QSP.CTRL, QSP.CMD, QSP.PHASE, QSP.ADDR, QSP.BUF, QSP.LEN, QSP.GO, QSP.STATUS, QSP.MAP, QSP.MAP_MODE, QSP.CFG_S, QSP.EVENTS. -/
def regRowsQsp : List RegRow := [
  ⟨0x0, 2, 64, [⟨0, 1, .rw, 0, 0x180⟩, ⟨1, 1, .rw, 0, 0x180⟩, ⟨2, 1, .rw, 0, 0x180⟩, ⟨3, 1, .rw, 0, 0x180⟩, ⟨4, 6, .rw, 0, 0x180⟩, ⟨10, 1, .rw, 0, 0x180⟩, ⟨16, 8, .rw, 10, 0x180⟩]⟩,
  ⟨0x4, 2, 64, [⟨0, 16, .rw, 0, 0x180⟩, ⟨16, 2, .rw, 0, 0x180⟩, ⟨18, 2, .rw, 0, 0x180⟩]⟩,
  ⟨0x8, 2, 64, [⟨0, 3, .rw, 0, 0x180⟩, ⟨4, 2, .rw, 0, 0x180⟩, ⟨8, 5, .rw, 0, 0x180⟩, ⟨16, 2, .rw, 0, 0x180⟩, ⟨18, 1, .rw, 0, 0x180⟩]⟩,
  ⟨0xC, 2, 64, [⟨0, 32, .rw, 0, 0x180⟩]⟩,
  ⟨0x10, 2, 64, [⟨0, 32, .rw, 0, 0x180⟩]⟩,
  ⟨0x14, 2, 64, [⟨0, 13, .rw, 0, 0x180⟩]⟩,
  ⟨0x18, 2, 64, [⟨0, 1, .wo, 0, 0x0⟩, ⟨1, 1, .wo, 0, 0x0⟩]⟩,
  ⟨0x1C, 2, 64, [⟨0, 1, .ro, 0, 0x0⟩, ⟨1, 3, .ro, 0, 0x0⟩, ⟨4, 13, .ro, 0, 0x0⟩]⟩,
  ⟨0x80, 1, 4, [⟨0, 1, .rw, 0, 0x180⟩, ⟨1, 1, .rw, 1, 0x180⟩, ⟨2, 1, .rw, 0, 0x180⟩, ⟨4, 2, .rw, 0, 0x180⟩, ⟨6, 2, .rw, 0, 0x180⟩, ⟨8, 5, .rw, 8, 0x180⟩, ⟨14, 2, .rw, 0, 0x180⟩, ⟨16, 8, .rw, 3, 0x180⟩]⟩,
  ⟨0x84, 1, 4, [⟨0, 8, .rw, 160, 0x180⟩, ⟨8, 8, .rw, 255, 0x180⟩, ⟨16, 16, .rw, 0, 0x180⟩]⟩,
  ⟨0x100, 1, 4, [⟨0, 1, .rw, 0, 0x1c0⟩, ⟨1, 1, .rw, 0, 0x1c0⟩]⟩,
  ⟨0x104, 1, 4, [⟨0, 1, .w1c, 0, 0x80⟩, ⟨1, 1, .w1c, 0, 0x80⟩, ⟨2, 1, .w1c, 0, 0x80⟩, ⟨3, 1, .w1c, 0, 0x80⟩]⟩]

/-- Cores registers (R246): CORES.CFG, CORES.BOOT, CORES.EVENTS, CORES.PL_CTRL, CORES.PL_ADDR, CORES.PL_DATA, CORES.PL_DATA_HI, CORES.PL_STATUS, CORES.PL_CHECK, CORES.PL_CRC, CORES.DBG_SEL, CORES.DBG_DATA. -/
def regRowsCores1 : List RegRow := [
  ⟨0x0, 1, 4, [⟨0, 6, .rw, 0, 0x180⟩, ⟨8, 6, .rw, 0, 0x180⟩]⟩,
  ⟨0x4, 1, 4, [⟨0, 2, .ro, 0, 0x180⟩, ⟨2, 2, .ro, 0, 0x180⟩, ⟨4, 2, .ro, 0, 0x180⟩, ⟨6, 2, .ro, 0, 0x180⟩]⟩,
  ⟨0x8, 1, 4, [⟨0, 12, .w1c, 0, 0x80⟩, ⟨12, 1, .w1c, 0, 0x80⟩, ⟨13, 1, .w1c, 0, 0x80⟩]⟩,
  ⟨0x10, 1, 4, [⟨0, 1, .rw, 0, 0x180⟩, ⟨1, 1, .rw, 0, 0x180⟩, ⟨2, 2, .rw, 0, 0x180⟩]⟩,
  ⟨0x14, 1, 4, [⟨0, 16, .rw, 0, 0x180⟩]⟩,
  ⟨0x18, 1, 4, [⟨0, 32, .rw, 0, 0x0⟩]⟩,
  ⟨0x1C, 1, 4, [⟨0, 16, .rw, 0, 0x180⟩]⟩,
  ⟨0x20, 1, 4, [⟨0, 1, .ro, 0, 0x0⟩, ⟨1, 2, .ro, 0, 0x0⟩]⟩,
  ⟨0x24, 1, 4, [⟨0, 1, .wo, 0, 0x0⟩, ⟨1, 1, .ro, 0, 0x0⟩, ⟨2, 1, .ro, 0, 0x0⟩]⟩,
  ⟨0x28, 1, 4, [⟨0, 32, .ro, 0, 0x0⟩]⟩,
  ⟨0x30, 1, 4, [⟨0, 4, .rw, 0, 0x180⟩, ⟨8, 6, .rw, 0, 0x180⟩, ⟨14, 1, .ro, 0, 0x0⟩]⟩,
  ⟨0x34, 1, 4, [⟨0, 32, .rw, 0, 0x0⟩]⟩]

/-- Cores registers (R246): CORES.DBG_TAG, CORES.IMGVER, CORES.IFVER, CORES.FEATU, CORES.CTRL, CORES.SCFG, CORES.STATUS, CORES.BRK. -/
def regRowsCores2 : List RegRow := [
  ⟨0x38, 1, 4, [⟨0, 4, .rw, 15, 0x0⟩]⟩,
  ⟨0x40, 2, 4, [⟨0, 32, .rw, 0, 0x180⟩]⟩,
  ⟨0x48, 2, 4, [⟨0, 32, .rw, 0, 0x180⟩]⟩,
  ⟨0x50, 2, 4, [⟨0, 32, .rw, 0, 0x180⟩]⟩,
  ⟨0x100, 12, 16, [⟨0, 1, .wo, 0, 0x0⟩, ⟨1, 1, .wo, 0, 0x0⟩, ⟨2, 1, .wo, 0, 0x0⟩, ⟨3, 1, .wo, 0, 0x0⟩, ⟨4, 1, .wo, 0, 0x0⟩]⟩,
  ⟨0x104, 12, 16, [⟨0, 1, .rw, 0, 0x180⟩, ⟨1, 1, .rw, 0, 0x180⟩, ⟨2, 1, .rw, 0, 0x180⟩, ⟨8, 6, .rw, 0, 0x180⟩, ⟨14, 1, .rw, 0, 0x180⟩]⟩,
  ⟨0x108, 12, 16, [⟨0, 3, .ro, 7, 0x0⟩, ⟨3, 1, .ro, 0, 0x0⟩, ⟨4, 1, .ro, 0, 0x0⟩, ⟨5, 1, .ro, 0, 0x0⟩, ⟨6, 1, .ro, 0, 0x0⟩, ⟨8, 6, .ro, 0, 0x0⟩, ⟨16, 16, .ro, 0, 0x0⟩]⟩,
  ⟨0x10C, 12, 16, [⟨0, 16, .rw, 0, 0x180⟩]⟩]

/-- All Cores registers. -/
def regRowsCores : List RegRow := regRowsCores1 ++ regRowsCores2

/-- Gpio registers (R411): GPIO.OUT, GPIO.OE, GPIO.IN, GPIO.PULL_UP, GPIO.PULL_DN, GPIO.DRIVE. -/
def regRowsGpio : List RegRow := [
  ⟨0x0, 1, 4, [⟨0, 24, .rw, 0, 0x180⟩]⟩,
  ⟨0x4, 1, 4, [⟨0, 24, .rw, 0, 0x180⟩]⟩,
  ⟨0x8, 1, 4, [⟨0, 24, .ro, 0, 0x0⟩]⟩,
  ⟨0xC, 1, 4, [⟨0, 24, .rw, 0, 0x180⟩]⟩,
  ⟨0x10, 1, 4, [⟨0, 24, .rw, 0xffffff, 0x180⟩]⟩,
  ⟨0x14, 1, 4, [⟨0, 24, .rw, 0, 0x180⟩]⟩]

/-- The registers of block number `u` of R33 (the block at 0x2000_0000 + 0x1_0000 × u). -/
def unitRows : Nat → List RegRow
  | 0 => regRowsSys
  | 1 => regRowsWell
  | 2 => regRowsClep
  | 3 => regRowsSluice
  | 4 => regRowsRepair
  | 5 => regRowsWeir
  | 6 => regRowsRf
  | 7 => regRowsRf
  | 8 => regRowsBasin
  | 9 => regRowsRipple
  | 10 => regRowsLathe
  | 11 => regRowsChisel
  | 12 => regRowsFlume
  | 13 => regRowsAqua
  | 14 => regRowsCist
  | 15 => regRowsSpout
  | 16 => regRowsQsp
  | 17 => regRowsCores
  | 18 => regRowsGpio
  | _ => []

/-- The row of offset `off` in a table. -/
def findRow (off : Nat) : List RegRow → Option RegRow
  | [] => none
  | r :: rest =>
    if r.off ≤ off && (off - r.off) % r.stride == 0 && (off - r.off) / r.stride < r.count then some r
    else findRow off rest

/-- Whether address `a` lies in the register-block range of R30. -/
def isRegAddr (a : Nat) : Bool := 0x20000000 ≤ a && a ≤ 0x2012FFFF

/-- The block number of a register address (R33). -/
def unitOf (a : Nat) : Nat := (a - 0x20000000) / 0x10000

/-- The fields of the register at address `a`; none where no table lists it (R6). -/
def regFields (a : Nat) : List FldRow :=
  if isRegAddr a then
    match findRow (a % 0x10000) (unitRows (unitOf a)) with
    | some r => r.fields
    | none => []
  else []

/-- The reset value of the register at address `a`, built from the Reset column of its fields (R9). -/
def resetNat (a : Nat) : Nat := (regFields a).foldl (fun n f => n + f.reset * 2 ^ f.lo) 0

/-- The reset value of the register at address `a`. -/
def resetWord (a : Nat) : Word := BitVec.ofNat 32 (resetNat a)

/-- The mask of the bits of the register at `a` that survive event number `e` (R10, R11). -/
def keepNat (a e : Nat) : Nat :=
  (regFields a).foldl (fun n f => if f.keep.testBit e then n + (2 ^ f.width - 1) * 2 ^ f.lo else n) 0

end Sys2Proof.Machine
end

