-- ==== Sys2Proof/Machine/RegNames.lean ====
section
/-! DEFINITION. The registers and fields of the spec by their own names: `BLOCK.REGISTER_FIELD` is a field (address, low bit, width), written
from the register tables; a register array takes its index. -/

namespace Sys2Proof.Machine

/-- A register field: the register's address, the field's low bit and its width. -/
structure Fld where
  addr : Nat
  lo : Nat
  width : Nat
  deriving DecidableEq, Repr

/-! ### SYS -/
/-- The address of SYS.ID (R4). -/
def SYS.ID_at : Nat := 0x20000000
/-- SYS.ID.STEP: stepping: 0 A, 1 B; other values are not used -/
def SYS.ID_STEP : Fld := ⟨SYS.ID_at, 8, 4⟩
/-- SYS.ID.PART: part number -/
def SYS.ID_PART : Fld := ⟨SYS.ID_at, 16, 16⟩
/-- The address of SYS.AM_CFG (R397). -/
def SYS.AM_CFG_at : Nat := 0x20000100
/-- SYS.AM_CFG.QUEUE: Chisel queue (R384) -/
def SYS.AM_CFG_QUEUE : Fld := ⟨SYS.AM_CFG_at, 0, 2⟩
/-- SYS.AM_CFG.NOTE_FLUME: notice Flume -/
def SYS.AM_CFG_NOTE_FLUME : Fld := ⟨SYS.AM_CFG_at, 8, 6⟩
/-- SYS.AM_CFG.NOTE_EN: 1 writes notices -/
def SYS.AM_CFG_NOTE_EN : Fld := ⟨SYS.AM_CFG_at, 14, 1⟩
/-- SYS.AM_CFG.QUIET: quiescence wait in ticks; 0 acts as 1 -/
def SYS.AM_CFG_QUIET : Fld := ⟨SYS.AM_CFG_at, 16, 16⟩
/-- The address of SYS.AM_WORK (R397). -/
def SYS.AM_WORK_at : Nat := 0x20000104
/-- SYS.AM_WORK.ADDR: workspace (R384) -/
def SYS.AM_WORK_ADDR : Fld := ⟨SYS.AM_WORK_at, 0, 32⟩
/-- The address of SYS.AM_HEADER (R397). -/
def SYS.AM_HEADER_at : Nat := 0x20000108
/-- SYS.AM_HEADER.ADDR: starts a header check (R385) -/
def SYS.AM_HEADER_ADDR : Fld := ⟨SYS.AM_HEADER_at, 0, 32⟩
/-- The address of SYS.AM_CHUNK (R397). -/
def SYS.AM_CHUNK_at : Nat := 0x2000010C
/-- SYS.AM_CHUNK.ADDR: submits a transfer unit (R387) -/
def SYS.AM_CHUNK_ADDR : Fld := ⟨SYS.AM_CHUNK_at, 0, 32⟩
/-- The address of SYS.AM_ACT (R397). -/
def SYS.AM_ACT_at : Nat := 0x20000110
/-- SYS.AM_ACT.GO: 1 starts the activation (R391) -/
def SYS.AM_ACT_GO : Fld := ⟨SYS.AM_ACT_at, 0, 1⟩
/-- SYS.AM_ACT.TYPES: bit t selects type t -/
def SYS.AM_ACT_TYPES : Fld := ⟨SYS.AM_ACT_at, 1, 6⟩
/-- SYS.AM_ACT.REVERT: 1 starts fallback (R394) -/
def SYS.AM_ACT_REVERT : Fld := ⟨SYS.AM_ACT_at, 7, 1⟩
/-- The address of SYS.HEALTH_CONFIRM (R397). -/
def SYS.HEALTH_CONFIRM_at : Nat := 0x20000114
/-- SYS.HEALTH_CONFIRM.GUARD: 0x4F4B_2121 confirms (R393) -/
def SYS.HEALTH_CONFIRM_GUARD : Fld := ⟨SYS.HEALTH_CONFIRM_at, 0, 32⟩
/-- The address of SYS.AM_STATUS (R397). -/
def SYS.AM_STATUS_at : Nat := 0x20000118
/-- SYS.AM_STATUS.STATE: 0 IDLE, 1 CHECKING, 2 ERASING, 3 OPEN, 4 ACTIVATING, 5 TRIAL, 6 FALLBACK -/
def SYS.AM_STATUS_STATE : Fld := ⟨SYS.AM_STATUS_at, 0, 3⟩
/-- SYS.AM_STATUS.TYPE: type of the open reception -/
def SYS.AM_STATUS_TYPE : Fld := ⟨SYS.AM_STATUS_at, 4, 3⟩
/-- SYS.AM_STATUS.CIST_OWN: the engine owns the Cistern sequences -/
def SYS.AM_STATUS_CIST_OWN : Fld := ⟨SYS.AM_STATUS_at, 7, 1⟩
/-- SYS.AM_STATUS.SET: types in the activation or trial -/
def SYS.AM_STATUS_SET : Fld := ⟨SYS.AM_STATUS_at, 8, 6⟩
/-- The address of SYS.AM_RESULT (R397). -/
def SYS.AM_RESULT_at : Nat := 0x2000011C
/-- SYS.AM_RESULT.CODE: latest outcome (R385, R387, R388, R391, R393, R394) -/
def SYS.AM_RESULT_CODE : Fld := ⟨SYS.AM_RESULT_at, 0, 6⟩
/-- SYS.AM_RESULT.DETAIL: fallback cause (R394) -/
def SYS.AM_RESULT_DETAIL : Fld := ⟨SYS.AM_RESULT_at, 6, 3⟩
/-- SYS.AM_RESULT.INDEX: chunk concerned -/
def SYS.AM_RESULT_INDEX : Fld := ⟨SYS.AM_RESULT_at, 16, 10⟩
/-- The address of SYS.AM_PROGRESS (R397). -/
def SYS.AM_PROGRESS_at : Nat := 0x20000120
/-- SYS.AM_PROGRESS.STORED: chunks stored -/
def SYS.AM_PROGRESS_STORED : Fld := ⟨SYS.AM_PROGRESS_at, 0, 10⟩
/-- SYS.AM_PROGRESS.MISSING: lowest chunk not yet stored -/
def SYS.AM_PROGRESS_MISSING : Fld := ⟨SYS.AM_PROGRESS_at, 16, 10⟩
/-- The address of SYS.AM_TRIAL_END (R397). -/
def SYS.AM_TRIAL_END_at : Nat := 0x20000124
/-- SYS.AM_TRIAL_END.TICK: end of the trial (R393) -/
def SYS.AM_TRIAL_END_TICK : Fld := ⟨SYS.AM_TRIAL_END_at, 0, 32⟩
/-- The address of SYS.AM_EVENTS (R397). -/
def SYS.AM_EVENTS_at : Nat := 0x20000128
/-- SYS.AM_EVENTS.DONE: an outcome was recorded -/
def SYS.AM_EVENTS_DONE : Fld := ⟨SYS.AM_EVENTS_at, 0, 1⟩
/-- SYS.AM_EVENTS.REFUSED: a header, activation or close was refused -/
def SYS.AM_EVENTS_REFUSED : Fld := ⟨SYS.AM_EVENTS_at, 1, 1⟩
/-- SYS.AM_EVENTS.FELLBACK: a fallback ended -/
def SYS.AM_EVENTS_FELLBACK : Fld := ⟨SYS.AM_EVENTS_at, 2, 1⟩
/-- SYS.AM_EVENTS.STRAYCONF: R393 -/
def SYS.AM_EVENTS_STRAYCONF : Fld := ⟨SYS.AM_EVENTS_at, 3, 1⟩
/-- The address of SYS.AM_SLOTS (R397). -/
def SYS.AM_SLOTS_at : Nat := 0x2000012C
/-- SYS.AM_SLOTS.INFORCE_1: slot in force for type t: 0, 1, 2 golden, 3 none -/
def SYS.AM_SLOTS_INFORCE_1 : Fld := ⟨SYS.AM_SLOTS_at, 0, 2⟩
/-- SYS.AM_SLOTS.WAITING_1: the other slot holds a valid, unconfirmed, unrevoked image -/
def SYS.AM_SLOTS_WAITING_1 : Fld := ⟨SYS.AM_SLOTS_at, 2, 1⟩
/-- SYS.AM_SLOTS.INFORCE_2: slot in force for type t: 0, 1, 2 golden, 3 none -/
def SYS.AM_SLOTS_INFORCE_2 : Fld := ⟨SYS.AM_SLOTS_at, 4, 2⟩
/-- SYS.AM_SLOTS.WAITING_2: the other slot holds a valid, unconfirmed, unrevoked image -/
def SYS.AM_SLOTS_WAITING_2 : Fld := ⟨SYS.AM_SLOTS_at, 6, 1⟩
/-- SYS.AM_SLOTS.INFORCE_3: slot in force for type t: 0, 1, 2 golden, 3 none -/
def SYS.AM_SLOTS_INFORCE_3 : Fld := ⟨SYS.AM_SLOTS_at, 8, 2⟩
/-- SYS.AM_SLOTS.WAITING_3: the other slot holds a valid, unconfirmed, unrevoked image -/
def SYS.AM_SLOTS_WAITING_3 : Fld := ⟨SYS.AM_SLOTS_at, 10, 1⟩
/-- SYS.AM_SLOTS.INFORCE_4: slot in force for type t: 0, 1, 2 golden, 3 none -/
def SYS.AM_SLOTS_INFORCE_4 : Fld := ⟨SYS.AM_SLOTS_at, 12, 2⟩
/-- SYS.AM_SLOTS.WAITING_4: the other slot holds a valid, unconfirmed, unrevoked image -/
def SYS.AM_SLOTS_WAITING_4 : Fld := ⟨SYS.AM_SLOTS_at, 14, 1⟩
/-- SYS.AM_SLOTS.INFORCE_5: slot in force for type t: 0, 1, 2 golden, 3 none -/
def SYS.AM_SLOTS_INFORCE_5 : Fld := ⟨SYS.AM_SLOTS_at, 16, 2⟩
/-- SYS.AM_SLOTS.WAITING_5: the other slot holds a valid, unconfirmed, unrevoked image -/
def SYS.AM_SLOTS_WAITING_5 : Fld := ⟨SYS.AM_SLOTS_at, 18, 1⟩
/-- SYS.AM_SLOTS.INFORCE_6: slot in force for type t: 0, 1, 2 golden, 3 none -/
def SYS.AM_SLOTS_INFORCE_6 : Fld := ⟨SYS.AM_SLOTS_at, 20, 2⟩
/-- SYS.AM_SLOTS.WAITING_6: the other slot holds a valid, unconfirmed, unrevoked image -/
def SYS.AM_SLOTS_WAITING_6 : Fld := ⟨SYS.AM_SLOTS_at, 22, 1⟩
/-- The address of SYS.AM_VER (R397). -/
def SYS.AM_VER_at (n : Nat) : Nat := 0x20000144 + 0x4 * n
/-- SYS.AM_VER.VERSION: VERSION of the image in force -/
def SYS.AM_VER_VERSION (n : Nat) : Fld := ⟨SYS.AM_VER_at n, 0, 32⟩
/-- The address of SYS.AM_IF (R397). -/
def SYS.AM_IF_at (n : Nat) : Nat := 0x20000164 + 0x4 * n
/-- SYS.AM_IF.PROVIDES: PROVIDES of the image in force -/
def SYS.AM_IF_PROVIDES (n : Nat) : Fld := ⟨SYS.AM_IF_at n, 0, 32⟩

/-! ### BASIN -/
/-- The address of BASIN.CTRL (R67). -/
def BASIN.CTRL_at : Nat := 0x20080000
/-- BASIN.CTRL.PORT_EN_A: 1 enables Basin on port A (R38). Clearing it ends port A lanes with ABORTED. -/
def BASIN.CTRL_PORT_EN_A : Fld := ⟨BASIN.CTRL_at, 0, 1⟩
/-- BASIN.CTRL.PORT_EN_B: as PORT_EN_A, for port B -/
def BASIN.CTRL_PORT_EN_B : Fld := ⟨BASIN.CTRL_at, 1, 1⟩
/-- The address of BASIN.CFG (R67). -/
def BASIN.CFG_at : Nat := 0x20080004
/-- BASIN.CFG.ACTIVE_MAX: active lane limit, 1–64; values 0 and 65–127 act as 64 -/
def BASIN.CFG_ACTIVE_MAX : Fld := ⟨BASIN.CFG_at, 0, 7⟩
/-- BASIN.CFG.CAPT_DB: capture margin, dB -/
def BASIN.CFG_CAPT_DB : Fld := ⟨BASIN.CFG_at, 8, 4⟩
/-- BASIN.CFG.RESTART_DB: restart margin, dB -/
def BASIN.CFG_RESTART_DB : Fld := ⟨BASIN.CFG_at, 12, 4⟩
/-- BASIN.CFG.SHADOW_EN: 1 allows shadow spawns -/
def BASIN.CFG_SHADOW_EN : Fld := ⟨BASIN.CFG_at, 16, 1⟩
/-- BASIN.CFG.PREEMPT_EN: 1 allows pre-emption (R55) -/
def BASIN.CFG_PREEMPT_EN : Fld := ⟨BASIN.CFG_at, 17, 1⟩
/-- BASIN.CFG.WIN_BOOST: 1 raises detections in open Lathe windows to priority 3 -/
def BASIN.CFG_WIN_BOOST : Fld := ⟨BASIN.CFG_at, 18, 1⟩
/-- BASIN.CFG.DROP_REC: 1 writes a NOLANE record for each dropped detection -/
def BASIN.CFG_DROP_REC : Fld := ⟨BASIN.CFG_at, 19, 1⟩
/-- The address of BASIN.STATUS (R67). -/
def BASIN.STATUS_at : Nat := 0x20080008
/-- BASIN.STATUS.ACTIVE: lanes now in PIN_WAIT, SEARCH, DEMOD or DRAIN -/
def BASIN.STATUS_ACTIVE : Fld := ⟨BASIN.STATUS_at, 0, 7⟩
/-- BASIN.STATUS.HEALTHY: lanes not FENCED -/
def BASIN.STATUS_HEALTHY : Fld := ⟨BASIN.STATUS_at, 8, 7⟩
/-- BASIN.STATUS.TEST_LANE: lane now in TEST; 0x7F if none -/
def BASIN.STATUS_TEST_LANE : Fld := ⟨BASIN.STATUS_at, 16, 7⟩
/-- BASIN.STATUS.BLANK_A: port A blanked (R61) -/
def BASIN.STATUS_BLANK_A : Fld := ⟨BASIN.STATUS_at, 24, 1⟩
/-- BASIN.STATUS.BLANK_B: port B blanked -/
def BASIN.STATUS_BLANK_B : Fld := ⟨BASIN.STATUS_at, 25, 1⟩
/-- BASIN.STATUS.ACT_A: port A active (R38) -/
def BASIN.STATUS_ACT_A : Fld := ⟨BASIN.STATUS_at, 26, 1⟩
/-- BASIN.STATUS.ACT_B: port B active -/
def BASIN.STATUS_ACT_B : Fld := ⟨BASIN.STATUS_at, 27, 1⟩
/-- The address of BASIN.EVENTS (R67). -/
def BASIN.EVENTS_at : Nat := 0x2008000C
/-- BASIN.EVENTS.NOLANE_A: a port A detection was dropped (R56) -/
def BASIN.EVENTS_NOLANE_A : Fld := ⟨BASIN.EVENTS_at, 0, 1⟩
/-- BASIN.EVENTS.NOLANE_B: as NOLANE_A, port B -/
def BASIN.EVENTS_NOLANE_B : Fld := ⟨BASIN.EVENTS_at, 1, 1⟩
/-- BASIN.EVENTS.NOBUF: a lane ended with NOBUF -/
def BASIN.EVENTS_NOBUF : Fld := ⟨BASIN.EVENTS_at, 2, 1⟩
/-- BASIN.EVENTS.RECDROP: a record was dropped whole (R60) -/
def BASIN.EVENTS_RECDROP : Fld := ⟨BASIN.EVENTS_at, 3, 1⟩
/-- BASIN.EVENTS.BADCFG: invalid detector, pin slot or buffer word -/
def BASIN.EVENTS_BADCFG : Fld := ⟨BASIN.EVENTS_at, 4, 1⟩
/-- BASIN.EVENTS.AGC_A: port A gain index changed -/
def BASIN.EVENTS_AGC_A : Fld := ⟨BASIN.EVENTS_at, 5, 1⟩
/-- BASIN.EVENTS.AGC_B: port B gain index changed -/
def BASIN.EVENTS_AGC_B : Fld := ⟨BASIN.EVENTS_at, 6, 1⟩
/-- The address of BASIN.LANE_ABORT (R67). -/
def BASIN.LANE_ABORT_at : Nat := 0x20080010
/-- BASIN.LANE_ABORT.LANE: lane to end with ABORTED when GO is written 1; ignored unless that lane is in SEARCH or DEMOD -/
def BASIN.LANE_ABORT_LANE : Fld := ⟨BASIN.LANE_ABORT_at, 0, 7⟩
/-- BASIN.LANE_ABORT.GO: 1 ends the lane named in LANE -/
def BASIN.LANE_ABORT_GO : Fld := ⟨BASIN.LANE_ABORT_at, 7, 1⟩
/-- BASIN.LANE_ABORT.ALL_A: 1 ends every port A lane in SEARCH or DEMOD with ABORTED -/
def BASIN.LANE_ABORT_ALL_A : Fld := ⟨BASIN.LANE_ABORT_at, 8, 1⟩
/-- BASIN.LANE_ABORT.ALL_B: as ALL_A, port B -/
def BASIN.LANE_ABORT_ALL_B : Fld := ⟨BASIN.LANE_ABORT_at, 9, 1⟩
/-- The address of BASIN.PCFG (R67). -/
def BASIN.PCFG_at (n : Nat) : Nat := 0x20080100 + 0x40 * n
/-- BASIN.PCFG.REC_FLUME: record Flume number for the port -/
def BASIN.PCFG_REC_FLUME (n : Nat) : Fld := ⟨BASIN.PCFG_at n, 0, 6⟩
/-- BASIN.PCFG.BUF_FLUME: free-buffer Flume number for the port -/
def BASIN.PCFG_BUF_FLUME (n : Nat) : Fld := ⟨BASIN.PCFG_at n, 8, 6⟩
/-- BASIN.PCFG.BUF_SIZE: buffer size in 32-byte units, 1–64; 0 and 65–127 act as 64 -/
def BASIN.PCFG_BUF_SIZE (n : Nat) : Fld := ⟨BASIN.PCFG_at n, 16, 7⟩
/-- BASIN.PCFG.AGC_FROZEN: 1 holds the gain at AGC_INDEX (R40) -/
def BASIN.PCFG_AGC_FROZEN (n : Nat) : Fld := ⟨BASIN.PCFG_at n, 24, 1⟩
/-- BASIN.PCFG.AGC_INDEX: frozen gain index, 0 (lowest gain) to 7 -/
def BASIN.PCFG_AGC_INDEX (n : Nat) : Fld := ⟨BASIN.PCFG_at n, 25, 3⟩
/-- The address of BASIN.GAINCAL (R67). -/
def BASIN.GAINCAL_at (n : Nat) : Nat := 0x20080104 + 0x40 * n
/-- BASIN.GAINCAL.GAINCAL: signed RSSI calibration, 0.25 dB units (R65) -/
def BASIN.GAINCAL_GAINCAL (n : Nat) : Fld := ⟨BASIN.GAINCAL_at n, 0, 12⟩
/-- The address of BASIN.AGC (R67). -/
def BASIN.AGC_at (n : Nat) : Nat := 0x20080108 + 0x40 * n
/-- BASIN.AGC.INDEX: current gain index -/
def BASIN.AGC_INDEX (n : Nat) : Fld := ⟨BASIN.AGC_at n, 0, 3⟩
/-- BASIN.AGC.STEPS: gain changes since last read, each change counted once whatever its size or cause (R40), saturating at 0xFFFF -/
def BASIN.AGC_STEPS (n : Nat) : Fld := ⟨BASIN.AGC_at n, 16, 16⟩
/-- The address of BASIN.NOLANE (R67). -/
def BASIN.NOLANE_at (n : Nat) : Nat := 0x2008010C + 0x40 * n
/-- BASIN.NOLANE.COUNT: NOLANE: detections dropped (R56). IGNORED: detections counted in IGNORED by R52. NOSYNC: lanes ended … -/
def BASIN.NOLANE_COUNT (n : Nat) : Fld := ⟨BASIN.NOLANE_at n, 0, 32⟩
/-- The address of BASIN.IGNORED (R67). -/
def BASIN.IGNORED_at (n : Nat) : Nat := 0x20080110 + 0x40 * n
/-- BASIN.IGNORED.COUNT: NOLANE: detections dropped (R56). IGNORED: detections counted in IGNORED by R52. NOSYNC: lanes ended … -/
def BASIN.IGNORED_COUNT (n : Nat) : Fld := ⟨BASIN.IGNORED_at n, 0, 32⟩
/-- The address of BASIN.NOSYNC (R67). -/
def BASIN.NOSYNC_at (n : Nat) : Nat := 0x20080114 + 0x40 * n
/-- BASIN.NOSYNC.COUNT: NOLANE: detections dropped (R56). IGNORED: detections counted in IGNORED by R52. NOSYNC: lanes ended … -/
def BASIN.NOSYNC_COUNT (n : Nat) : Fld := ⟨BASIN.NOSYNC_at n, 0, 32⟩
/-- The address of BASIN.CAPTURES (R67). -/
def BASIN.CAPTURES_at (n : Nat) : Nat := 0x20080118 + 0x40 * n
/-- BASIN.CAPTURES.COUNT: NOLANE: detections dropped (R56). IGNORED: detections counted in IGNORED by R52. NOSYNC: lanes ended … -/
def BASIN.CAPTURES_COUNT (n : Nat) : Fld := ⟨BASIN.CAPTURES_at n, 0, 32⟩
/-- The address of BASIN.PMATCH (R67). -/
def BASIN.PMATCH_at (n : Nat) : Nat := 0x20080200 + 0x10 * n
/-- BASIN.PMATCH.MODE: PHY mode code, as listed in Air Formats: PHY Modes and Frame Layout; fixes symbol rate, deviation, … -/
def BASIN.PMATCH_MODE (n : Nat) : Fld := ⟨BASIN.PMATCH_at n, 0, 4⟩
/-- BASIN.PMATCH.MIN_SYM: correlation length M in symbols, 8–63; values below 8 act as 8 -/
def BASIN.PMATCH_MIN_SYM (n : Nat) : Fld := ⟨BASIN.PMATCH_at n, 8, 6⟩
/-- BASIN.PMATCH.THR: declaration threshold, ρ ≥ THR ÷ 256 -/
def BASIN.PMATCH_THR (n : Nat) : Fld := ⟨BASIN.PMATCH_at n, 16, 8⟩
/-- BASIN.PMATCH.ED_FLOOR: minimum detection power, signed dBm (0x83 = −125 dBm); also the FADE level -/
def BASIN.PMATCH_ED_FLOOR (n : Nat) : Fld := ⟨BASIN.PMATCH_at n, 24, 8⟩
/-- The address of BASIN.PSYNC (R67). -/
def BASIN.PSYNC_at (n : Nat) : Nat := 0x20080204 + 0x10 * n
/-- BASIN.PSYNC.SYNC_TIMEOUT: symbols from declaration to NOSYNC, 16–1,023; values below 16 act as 16 -/
def BASIN.PSYNC_SYNC_TIMEOUT (n : Nat) : Fld := ⟨BASIN.PSYNC_at n, 0, 10⟩
/-- BASIN.PSYNC.SYNC_ERR: sync-word bit errors accepted, 0–3 -/
def BASIN.PSYNC_SYNC_ERR (n : Nat) : Fld := ⟨BASIN.PSYNC_at n, 10, 2⟩
/-- BASIN.PSYNC.FADE_SYM: consecutive symbols below ED_FLOOR that end a DEMOD lane with FADE; 0 disables FADE -/
def BASIN.PSYNC_FADE_SYM (n : Nat) : Fld := ⟨BASIN.PSYNC_at n, 16, 6⟩
/-- The address of BASIN.DET (R67). -/
def BASIN.DET_at (n : Nat) : Nat := 0x20080400 + 0x4 * n
/-- BASIN.DET.EN: 1 enables the detector -/
def BASIN.DET_EN (n : Nat) : Fld := ⟨BASIN.DET_at n, 0, 1⟩
/-- BASIN.DET.WIDTH: group width code (R42) -/
def BASIN.DET_WIDTH (n : Nat) : Fld := ⟨BASIN.DET_at n, 1, 2⟩
/-- BASIN.DET.PROFILE: profile 0–7 of the detector's port -/
def BASIN.DET_PROFILE (n : Nat) : Fld := ⟨BASIN.DET_at n, 4, 3⟩
/-- BASIN.DET.PRIO: priority 0 (lowest) to 3 -/
def BASIN.DET_PRIO (n : Nat) : Fld := ⟨BASIN.DET_at n, 8, 2⟩
/-- BASIN.DET.LAST_RSSI: detector RSSI of the latest declaration, signed dBm, rounded toward minus infinity from the 0.25 dB value; … -/
def BASIN.DET_LAST_RSSI (n : Nat) : Fld := ⟨BASIN.DET_at n, 24, 8⟩
/-- The address of BASIN.PINC (R67). -/
def BASIN.PINC_at (n : Nat) : Nat := 0x20080600 + 0x8 * n
/-- BASIN.PINC.EN: 1 enables the pin slot -/
def BASIN.PINC_EN (n : Nat) : Fld := ⟨BASIN.PINC_at n, 0, 1⟩
/-- BASIN.PINC.PORT: 0 port A, 1 port B -/
def BASIN.PINC_PORT (n : Nat) : Fld := ⟨BASIN.PINC_at n, 1, 1⟩
/-- BASIN.PINC.BIN: start bin; width and profile come from that bin's detector -/
def BASIN.PINC_BIN (n : Nat) : Fld := ⟨BASIN.PINC_at n, 2, 6⟩
/-- BASIN.PINC.REC_FLUME: record Flume used when REC_OVR is 1 -/
def BASIN.PINC_REC_FLUME (n : Nat) : Fld := ⟨BASIN.PINC_at n, 8, 6⟩
/-- BASIN.PINC.REC_OVR: 1 sends this slot's records to REC_FLUME -/
def BASIN.PINC_REC_OVR (n : Nat) : Fld := ⟨BASIN.PINC_at n, 14, 1⟩
/-- The address of BASIN.PINS (R67). -/
def BASIN.PINS_at (n : Nat) : Nat := 0x20080604 + 0x8 * n
/-- BASIN.PINS.LANE: physical lane held; 0x7F if none -/
def BASIN.PINS_LANE (n : Nat) : Fld := ⟨BASIN.PINS_at n, 0, 7⟩
/-- BASIN.PINS.STATE: state code of that lane (R47); 0 if none -/
def BASIN.PINS_STATE (n : Nat) : Fld := ⟨BASIN.PINS_at n, 8, 3⟩
/-- The address of BASIN.LANE (R67). -/
def BASIN.LANE_at (n : Nat) : Nat := 0x20080800 + 0x4 * n
/-- BASIN.LANE.STATE: state code (R47); a lane fenced in an earlier life reads 6 after the repair map is loaded -/
def BASIN.LANE_STATE (n : Nat) : Fld := ⟨BASIN.LANE_at n, 0, 3⟩
/-- BASIN.LANE.ROLE: 0 PRIMARY, 1 SHADOW; 0 outside SEARCH and DEMOD -/
def BASIN.LANE_ROLE (n : Nat) : Fld := ⟨BASIN.LANE_at n, 3, 1⟩
/-- BASIN.LANE.PINNED: 1 if held by a pin slot -/
def BASIN.LANE_PINNED (n : Nat) : Fld := ⟨BASIN.LANE_at n, 4, 1⟩
/-- BASIN.LANE.PORT: port of the current group -/
def BASIN.LANE_PORT (n : Nat) : Fld := ⟨BASIN.LANE_at n, 5, 1⟩
/-- BASIN.LANE.BIN: start bin of the current group -/
def BASIN.LANE_BIN (n : Nat) : Fld := ⟨BASIN.LANE_at n, 6, 6⟩
/-- BASIN.LANE.WIDTH: width code of the current group -/
def BASIN.LANE_WIDTH (n : Nat) : Fld := ⟨BASIN.LANE_at n, 12, 2⟩
/-- BASIN.LANE.RESTARTS: restarts in the current frame -/
def BASIN.LANE_RESTARTS (n : Nat) : Fld := ⟨BASIN.LANE_at n, 16, 4⟩
/-- BASIN.LANE.PIN_SLOT: pin slot, valid when PINNED is 1 -/
def BASIN.LANE_PIN_SLOT (n : Nat) : Fld := ⟨BASIN.LANE_at n, 20, 4⟩

/-! ### LATHE -/
/-- The address of LATHE.CTRL (R101). -/
def LATHE.CTRL_at : Nat := 0x200A0000
/-- LATHE.CTRL.EN: 1 lets Lathe take due events (R89) -/
def LATHE.CTRL_EN : Fld := ⟨LATHE.CTRL_at, 0, 1⟩
/-- The address of LATHE.CFG (R101). -/
def LATHE.CFG_at : Nat := 0x200A0004
/-- LATHE.CFG.MISS_THR: beacon miss threshold, 1–15; 0 acts as 1 -/
def LATHE.CFG_MISS_THR : Fld := ⟨LATHE.CFG_at, 0, 4⟩
/-- LATHE.CFG.SKIP_NOTE: 1 writes SKIPPED notices -/
def LATHE.CFG_SKIP_NOTE : Fld := ⟨LATHE.CFG_at, 4, 1⟩
/-- LATHE.CFG.LISTEN_EXT: listen extension after window close, µs (R91) -/
def LATHE.CFG_LISTEN_EXT : Fld := ⟨LATHE.CFG_at, 16, 16⟩
/-- The address of LATHE.MAXWIN (R101). -/
def LATHE.MAXWIN_at : Nat := 0x200A0008
/-- LATHE.MAXWIN.MAXWIN: window cap, µs; values above 64,000 act as 64,000; values below 100 act as 100 -/
def LATHE.MAXWIN_MAXWIN : Fld := ⟨LATHE.MAXWIN_at, 0, 17⟩
/-- The address of LATHE.RESYNC_WIN (R101). -/
def LATHE.RESYNC_WIN_at : Nat := 0x200A000C
/-- LATHE.RESYNC_WIN.TICKS: longest RESYNC listen, ticks; 0 acts as 16 -/
def LATHE.RESYNC_WIN_TICKS : Fld := ⟨LATHE.RESYNC_WIN_at, 0, 24⟩
/-- The address of LATHE.TX_LEAD (R101). -/
def LATHE.TX_LEAD_at : Nat := 0x200A0010
/-- LATHE.TX_LEAD.US: lead in µs; TX_LEAD values below 50 act as 50 -/
def LATHE.TX_LEAD_US : Fld := ⟨LATHE.TX_LEAD_at, 0, 16⟩
/-- The address of LATHE.WAKE_LEAD (R101). -/
def LATHE.WAKE_LEAD_at : Nat := 0x200A0014
/-- LATHE.WAKE_LEAD.US: lead in µs; TX_LEAD values below 50 act as 50 -/
def LATHE.WAKE_LEAD_US : Fld := ⟨LATHE.WAKE_LEAD_at, 0, 16⟩
/-- The address of LATHE.OWN_DRIFT (R101). -/
def LATHE.OWN_DRIFT_at : Nat := 0x200A0018
/-- LATHE.OWN_DRIFT.DRIFT: bound on the node's own time-base drift, 1/16 ppm -/
def LATHE.OWN_DRIFT_DRIFT : Fld := ⟨LATHE.OWN_DRIFT_at, 0, 12⟩
/-- The address of LATHE.NOTE_FLUME (R101). -/
def LATHE.NOTE_FLUME_at : Nat := 0x200A001C
/-- LATHE.NOTE_FLUME.PORT_A: notice Flume for plans on port A -/
def LATHE.NOTE_FLUME_PORT_A : Fld := ⟨LATHE.NOTE_FLUME_at, 0, 6⟩
/-- LATHE.NOTE_FLUME.PORT_B: notice Flume for plans on port B -/
def LATHE.NOTE_FLUME_PORT_B : Fld := ⟨LATHE.NOTE_FLUME_at, 8, 6⟩
/-- The address of LATHE.PDC (R101). -/
def LATHE.PDC_at (n : Nat) : Nat := 0x200A0020 + 0x4 * n
/-- LATHE.PDC.DRIFT: drift bound of partner class c, 1/16 ppm (1, 2, 5, 10, 20, 40, 60 and 100 ppm) -/
def LATHE.PDC_DRIFT (n : Nat) : Fld := ⟨LATHE.PDC_at n, 0, 12⟩
/-- The address of LATHE.DCL (R101). -/
def LATHE.DCL_at (n : Nat) : Nat := 0x200A0040 + 0x4 * n
/-- LATHE.DCL.ALLOW: ticks after the window close (R96); 0 acts as 1 -/
def LATHE.DCL_ALLOW (n : Nat) : Fld := ⟨LATHE.DCL_at n, 0, 16⟩
/-- The address of LATHE.DMON_LO (R101). -/
def LATHE.DMON_LO_at : Nat := 0x200A0080
/-- LATHE.DMON_LO.ASSIGN: 1 assigns the monitor to Lathe: DMON_LO bit j is DMON[j], DMON_HI bit j is DMON[32 + j] -/
def LATHE.DMON_LO_ASSIGN : Fld := ⟨LATHE.DMON_LO_at, 0, 32⟩
/-- The address of LATHE.DMON_HI (R101). -/
def LATHE.DMON_HI_at : Nat := 0x200A0084
/-- LATHE.DMON_HI.ASSIGN: 1 assigns the monitor to Lathe: DMON_LO bit j is DMON[j], DMON_HI bit j is DMON[32 + j] -/
def LATHE.DMON_HI_ASSIGN : Fld := ⟨LATHE.DMON_HI_at, 0, 32⟩
/-- The address of LATHE.DMON_SHORT (R101). -/
def LATHE.DMON_SHORT_at : Nat := 0x200A0088
/-- LATHE.DMON_SHORT.COUNT: events served unsupervised (R25), saturating -/
def LATHE.DMON_SHORT_COUNT : Fld := ⟨LATHE.DMON_SHORT_at, 0, 16⟩
/-- The address of LATHE.CMD (R101). -/
def LATHE.CMD_at : Nat := 0x200A008C
/-- LATHE.CMD.SLOT: slot of the command; ignored by REBUILD -/
def LATHE.CMD_SLOT : Fld := ⟨LATHE.CMD_at, 0, 13⟩
/-- LATHE.CMD.OP: 1 ARM, 2 ARM_RESYNC, 3 DISARM, 4 REBUILD; 0 and 5–7 have no effect -/
def LATHE.CMD_OP : Fld := ⟨LATHE.CMD_at, 13, 3⟩
/-- The address of LATHE.CMD_STATUS (R101). -/
def LATHE.CMD_STATUS_at : Nat := 0x200A0090
/-- LATHE.CMD_STATUS.RESULT: result of the last command (R75) -/
def LATHE.CMD_STATUS_RESULT : Fld := ⟨LATHE.CMD_STATUS_at, 0, 4⟩
/-- LATHE.CMD_STATUS.BUSY: a command is executing -/
def LATHE.CMD_STATUS_BUSY : Fld := ⟨LATHE.CMD_STATUS_at, 4, 1⟩
/-- LATHE.CMD_STATUS.SLOT: slot of the last command -/
def LATHE.CMD_STATUS_SLOT : Fld := ⟨LATHE.CMD_STATUS_at, 5, 13⟩
/-- The address of LATHE.COMMIT (R101). -/
def LATHE.COMMIT_at : Nat := 0x200A0094
/-- LATHE.COMMIT.SLOT: slot committed -/
def LATHE.COMMIT_SLOT : Fld := ⟨LATHE.COMMIT_at, 0, 13⟩
/-- LATHE.COMMIT.OUTCOME: outcome code (R100) -/
def LATHE.COMMIT_OUTCOME : Fld := ⟨LATHE.COMMIT_at, 13, 3⟩
/-- LATHE.COMMIT.CTR: COUNTER[7:0] from the hand-off -/
def LATHE.COMMIT_CTR : Fld := ⟨LATHE.COMMIT_at, 16, 8⟩
/-- The address of LATHE.COMMIT_STATUS (R101). -/
def LATHE.COMMIT_STATUS_at : Nat := 0x200A0098
/-- LATHE.COMMIT_STATUS.RESULT: 0 for the last commit accepted, or the refusal code (R99) -/
def LATHE.COMMIT_STATUS_RESULT : Fld := ⟨LATHE.COMMIT_STATUS_at, 0, 3⟩
/-- LATHE.COMMIT_STATUS.SLOT: slot of the last commit -/
def LATHE.COMMIT_STATUS_SLOT : Fld := ⟨LATHE.COMMIT_STATUS_at, 3, 13⟩
/-- LATHE.COMMIT_STATUS.REFUSED: commits refused, saturating -/
def LATHE.COMMIT_STATUS_REFUSED : Fld := ⟨LATHE.COMMIT_STATUS_at, 16, 16⟩
/-- The address of LATHE.STATUS (R101). -/
def LATHE.STATUS_at : Nat := 0x200A009C
/-- LATHE.STATUS.HEAPED: events in the heap -/
def LATHE.STATUS_HEAPED : Fld := ⟨LATHE.STATUS_at, 0, 14⟩
/-- LATHE.STATUS.BUSY: as CMD_STATUS.BUSY -/
def LATHE.STATUS_BUSY : Fld := ⟨LATHE.STATUS_at, 14, 1⟩
/-- LATHE.STATUS.WINOPEN: windows registered, 0–256 -/
def LATHE.STATUS_WINOPEN : Fld := ⟨LATHE.STATUS_at, 16, 9⟩
/-- LATHE.STATUS.BBCOUNT: BACKBONE contexts armed, 0–64 -/
def LATHE.STATUS_BBCOUNT : Fld := ⟨LATHE.STATUS_at, 25, 7⟩
/-- The address of LATHE.EVENTS (R101). -/
def LATHE.EVENTS_at : Nat := 0x200A00A0
/-- LATHE.EVENTS.BADCHAN: an event was skipped with BADCHAN -/
def LATHE.EVENTS_BADCHAN : Fld := ⟨LATHE.EVENTS_at, 0, 1⟩
/-- LATHE.EVENTS.HDROP: an event was skipped with HDROP -/
def LATHE.EVENTS_HDROP : Fld := ⟨LATHE.EVENTS_at, 1, 1⟩
/-- LATHE.EVENTS.NOWIN: an event was skipped with NOWIN -/
def LATHE.EVENTS_NOWIN : Fld := ⟨LATHE.EVENTS_at, 2, 1⟩
/-- LATHE.EVENTS.SKIP: any event was skipped -/
def LATHE.EVENTS_SKIP : Fld := ⟨LATHE.EVENTS_at, 3, 1⟩
/-- LATHE.EVENTS.COLLIDE: a collision cancelled or skipped an event -/
def LATHE.EVENTS_COLLIDE : Fld := ⟨LATHE.EVENTS_at, 4, 1⟩
/-- LATHE.EVENTS.LOST: a context went to LOST -/
def LATHE.EVENTS_LOST : Fld := ⟨LATHE.EVENTS_at, 5, 1⟩
/-- LATHE.EVENTS.BADCOMMIT: a commit was refused -/
def LATHE.EVENTS_BADCOMMIT : Fld := ⟨LATHE.EVENTS_at, 6, 1⟩
/-- LATHE.EVENTS.NOTEDROP: a notice was dropped -/
def LATHE.EVENTS_NOTEDROP : Fld := ⟨LATHE.EVENTS_at, 7, 1⟩
/-- LATHE.EVENTS.LATE: an event was served past the declaration log's reach (R89) -/
def LATHE.EVENTS_LATE : Fld := ⟨LATHE.EVENTS_at, 8, 1⟩
/-- The address of LATHE.SKIPS (R101). -/
def LATHE.SKIPS_at : Nat := 0x200A00A4
/-- LATHE.SKIPS.COUNT: SKIPS: events skipped for any reason. COLLISIONS: cancellations and COLLIDE skips. Each saturates at … -/
def LATHE.SKIPS_COUNT : Fld := ⟨LATHE.SKIPS_at, 0, 32⟩
/-- The address of LATHE.COLLISIONS (R101). -/
def LATHE.COLLISIONS_at : Nat := 0x200A00A8
/-- LATHE.COLLISIONS.COUNT: SKIPS: events skipped for any reason. COLLISIONS: cancellations and COLLIDE skips. Each saturates at … -/
def LATHE.COLLISIONS_COUNT : Fld := ⟨LATHE.COLLISIONS_at, 0, 32⟩
/-- The address of LATHE.LAGMAX (R101). -/
def LATHE.LAGMAX_at : Nat := 0x200A00AC
/-- LATHE.LAGMAX.LAG: largest delay from due instant to service, 1/1,024 tick, saturating at 0xFFFF -/
def LATHE.LAGMAX_LAG : Fld := ⟨LATHE.LAGMAX_at, 0, 16⟩
/-- The address of LATHE.HEAD (R101). -/
def LATHE.HEAD_at : Nat := 0x200A00B0
/-- LATHE.HEAD.SLOT: slot of the earliest event in the heap -/
def LATHE.HEAD_SLOT : Fld := ⟨LATHE.HEAD_at, 0, 13⟩
/-- LATHE.HEAD.NONE: 1 if the heap is empty -/
def LATHE.HEAD_NONE : Fld := ⟨LATHE.HEAD_at, 31, 1⟩
/-- The address of LATHE.PLANF (R101). -/
def LATHE.PLANF_at (n : Nat) : Nat := 0x200A0100 + 0x8 * n
/-- LATHE.PLANF.BASE_HZ: frequency of channel 0, Hz -/
def LATHE.PLANF_BASE_HZ (n : Nat) : Fld := ⟨LATHE.PLANF_at n, 0, 30⟩
/-- LATHE.PLANF.EN: 1 enables the plan -/
def LATHE.PLANF_EN (n : Nat) : Fld := ⟨LATHE.PLANF_at n, 31, 1⟩
/-- The address of LATHE.PLANC (R101). -/
def LATHE.PLANC_at (n : Nat) : Nat := 0x200A0104 + 0x8 * n
/-- LATHE.PLANC.SPACING_HZ: channel spacing, Hz -/
def LATHE.PLANC_SPACING_HZ (n : Nat) : Fld := ⟨LATHE.PLANC_at n, 0, 22⟩
/-- LATHE.PLANC.WIDTH: group width code, as in R42 -/
def LATHE.PLANC_WIDTH (n : Nat) : Fld := ⟨LATHE.PLANC_at n, 22, 2⟩
/-- LATHE.PLANC.MODE: PHY mode code, as listed in Air Formats: PHY Modes and Frame Layout -/
def LATHE.PLANC_MODE (n : Nat) : Fld := ⟨LATHE.PLANC_at n, 24, 4⟩
/-- LATHE.PLANC.PORT: 0 port A, 1 port B -/
def LATHE.PLANC_PORT (n : Nat) : Fld := ⟨LATHE.PLANC_at n, 28, 1⟩

/-! ### RF -/
/-- The address of RFx.SYN_CTRL (R120). -/
def RF.SYN_CTRL_at (n : Nat) : Nat := 0x20060000 + 0x10000 * n
/-- RFx.SYN_CTRL.EN: 1 powers the synthesiser and locks it at FC when unclaimed; 0 while claimed takes effect after the report -/
def RF.SYN_CTRL_EN (n : Nat) : Fld := ⟨RF.SYN_CTRL_at n, 0, 1⟩
/-- The address of RFx.FC (R120). -/
def RF.FC_at (n : Nat) : Nat := 0x20060004 + 0x10000 * n
/-- RFx.FC.FREQ_HZ: receive centre frequency fc, Hz (R104) -/
def RF.FC_FREQ_HZ (n : Nat) : Fld := ⟨RF.FC_at n, 0, 30⟩
/-- The address of RFx.SYN_STATUS (R120). -/
def RF.SYN_STATUS_at (n : Nat) : Nat := 0x20060008 + 0x10000 * n
/-- RFx.SYN_STATUS.STATE: R102 -/
def RF.SYN_STATUS_STATE (n : Nat) : Fld := ⟨RF.SYN_STATUS_at n, 0, 3⟩
/-- RFx.SYN_STATUS.LOCKED: locked at the present target -/
def RF.SYN_STATUS_LOCKED (n : Nat) : Fld := ⟨RF.SYN_STATUS_at n, 3, 1⟩
/-- RFx.SYN_STATUS.CLAIMED: states 4–7 -/
def RF.SYN_STATUS_CLAIMED (n : Nat) : Fld := ⟨RF.SYN_STATUS_at n, 4, 1⟩
/-- RFx.SYN_STATUS.CAL_HELD: a CAL request is held (R107) -/
def RF.SYN_STATUS_CAL_HELD (n : Nat) : Fld := ⟨RF.SYN_STATUS_at n, 5, 1⟩
/-- RFx.SYN_STATUS.CACHED: valid cache entries, 0–16 -/
def RF.SYN_STATUS_CACHED (n : Nat) : Fld := ⟨RF.SYN_STATUS_at n, 6, 5⟩
/-- RFx.SYN_STATUS.LOCKFAILS: consecutive lock failures, 0–8 -/
def RF.SYN_STATUS_LOCKFAILS (n : Nat) : Fld := ⟨RF.SYN_STATUS_at n, 11, 4⟩
/-- The address of RFx.CAL (R120). -/
def RF.CAL_at (n : Nat) : Nat := 0x2006000C + 0x10000 * n
/-- RFx.CAL.FREQ_HZ: frequency whose segment is calibrated -/
def RF.CAL_FREQ_HZ (n : Nat) : Fld := ⟨RF.CAL_at n, 0, 30⟩
/-- RFx.CAL.FLUSH: 1 empties the cache -/
def RF.CAL_FLUSH (n : Nat) : Fld := ⟨RF.CAL_at n, 30, 1⟩
/-- RFx.CAL.GO: 1 requests the calibration (R107) -/
def RF.CAL_GO (n : Nat) : Fld := ⟨RF.CAL_at n, 31, 1⟩
/-- The address of RFx.TXCFG (R120). -/
def RF.TXCFG_at (n : Nat) : Nat := 0x20060010 + 0x10000 * n
/-- RFx.TXCFG.TXS_FLUME: scheduled descriptor Flume -/
def RF.TXCFG_TXS_FLUME (n : Nat) : Fld := ⟨RF.TXCFG_at n, 0, 6⟩
/-- RFx.TXCFG.TXF_FLUME: free descriptor Flume -/
def RF.TXCFG_TXF_FLUME (n : Nat) : Fld := ⟨RF.TXCFG_at n, 8, 6⟩
/-- RFx.TXCFG.RES_FLUME: report Flume -/
def RF.TXCFG_RES_FLUME (n : Nat) : Fld := ⟨RF.TXCFG_at n, 16, 6⟩
/-- RFx.TXCFG.PREP: claim lead before E on a cache hit, µs; values below 130 act as 130 -/
def RF.TXCFG_PREP (n : Nat) : Fld := ⟨RF.TXCFG_at n, 24, 8⟩
/-- The address of RFx.RAMP (R120). -/
def RF.RAMP_at (n : Nat) : Nat := 0x20060014 + 0x10000 * n
/-- RFx.RAMP.US: ramp time, µs; below 2 acts as 2, above 32 as 32 -/
def RF.RAMP_US (n : Nat) : Fld := ⟨RF.RAMP_at n, 0, 6⟩
/-- The address of RFx.TX_ABORT (R120). -/
def RF.TX_ABORT_at (n : Nat) : Nat := 0x20060018 + 0x10000 * n
/-- RFx.TX_ABORT.NOW: 1 ends the present transmission with ABORTED (R117) -/
def RF.TX_ABORT_NOW (n : Nat) : Fld := ⟨RF.TX_ABORT_at n, 0, 1⟩
/-- RFx.TX_ABORT.FREE: 1 withdraws unclaimed free transmissions -/
def RF.TX_ABORT_FREE (n : Nat) : Fld := ⟨RF.TX_ABORT_at n, 1, 1⟩
/-- RFx.TX_ABORT.ALL: 1 ends every held request and the present transmission -/
def RF.TX_ABORT_ALL (n : Nat) : Fld := ⟨RF.TX_ABORT_at n, 2, 1⟩
/-- The address of RFx.TX_STATUS (R120). -/
def RF.TX_STATUS_at (n : Nat) : Nat := 0x2006001C + 0x10000 * n
/-- RFx.TX_STATUS.SCHED: scheduled starts held, 0–4 -/
def RF.TX_STATUS_SCHED (n : Nat) : Fld := ⟨RF.TX_STATUS_at n, 0, 3⟩
/-- RFx.TX_STATUS.FREE: a free transmission is held -/
def RF.TX_STATUS_FREE (n : Nat) : Fld := ⟨RF.TX_STATUS_at n, 3, 1⟩
/-- RFx.TX_STATUS.GRANTED: between G and PA off -/
def RF.TX_STATUS_GRANTED (n : Nat) : Fld := ⟨RF.TX_STATUS_at n, 4, 1⟩
/-- RFx.TX_STATUS.PA_ON: STATE is TX_ON -/
def RF.TX_STATUS_PA_ON (n : Nat) : Fld := ⟨RF.TX_STATUS_at n, 5, 1⟩
/-- The address of RFx.EVENTS (R120). -/
def RF.EVENTS_at (n : Nat) : Nat := 0x20060020 + 0x10000 * n
/-- RFx.EVENTS.BADFREQ: FC write refused -/
def RF.EVENTS_BADFREQ (n : Nat) : Fld := ⟨RF.EVENTS_at n, 0, 1⟩
/-- RFx.EVENTS.BADDESC: a descriptor was refused -/
def RF.EVENTS_BADDESC (n : Nat) : Fld := ⟨RF.EVENTS_at n, 1, 1⟩
/-- RFx.EVENTS.NOLOCK: a lock failure occurred -/
def RF.EVENTS_NOLOCK (n : Nat) : Fld := ⟨RF.EVENTS_at n, 2, 1⟩
/-- RFx.EVENTS.REFUSED: REFUSED or PAOTHER -/
def RF.EVENTS_REFUSED (n : Nat) : Fld := ⟨RF.EVENTS_at n, 3, 1⟩
/-- RFx.EVENTS.CUT: SUPPLY, SILENCED or POWERDOWN after ramp start -/
def RF.EVENTS_CUT (n : Nat) : Fld := ⟨RF.EVENTS_at n, 4, 1⟩
/-- RFx.EVENTS.REPDROP: a report was dropped -/
def RF.EVENTS_REPDROP (n : Nat) : Fld := ⟨RF.EVENTS_at n, 5, 1⟩
/-- The address of RFx.SENT (R120). -/
def RF.SENT_at (n : Nat) : Nat := 0x20060024 + 0x10000 * n
/-- RFx.SENT.COUNT: SENT: outcomes SENT. FAILED: all other outcomes. Each saturates at 0xFFFF_FFFF. -/
def RF.SENT_COUNT (n : Nat) : Fld := ⟨RF.SENT_at n, 0, 32⟩
/-- The address of RFx.FAILED (R120). -/
def RF.FAILED_at (n : Nat) : Nat := 0x20060028 + 0x10000 * n
/-- RFx.FAILED.COUNT: SENT: outcomes SENT. FAILED: all other outcomes. Each saturates at 0xFFFF_FFFF. -/
def RF.FAILED_COUNT (n : Nat) : Fld := ⟨RF.FAILED_at n, 0, 32⟩
/-- The address of RFx.PACAL (R120). -/
def RF.PACAL_at (n : Nat) : Nat := 0x2006002C + 0x10000 * n
/-- RFx.PACAL.TRIM: signed output-power trim, 0.25 dB units, applied before the Weir clamp -/
def RF.PACAL_TRIM (n : Nat) : Fld := ⟨RF.PACAL_at n, 0, 8⟩
/-- The address of RFx.SHAPE (R120). -/
def RF.SHAPE_at (p n : Nat) : Nat := 0x20060080 + 0x10000 * p + 4 * n
/-- RFx.SHAPE.AMP: ramp amplitude of entry i, 1/1,023 of full -/
def RF.SHAPE_AMP (p n : Nat) : Fld := ⟨RF.SHAPE_at p n, 0, 10⟩

/-! ### WEIR -/
/-- The address of WEIR.STATUS (R136). -/
def WEIR.STATUS_at : Nat := 0x20050000
/-- WEIR.STATUS.HEALTHY: self-check passing and not SILENT -/
def WEIR.STATUS_HEALTHY : Fld := ⟨WEIR.STATUS_at, 0, 1⟩
/-- WEIR.STATUS.SILENT: R126, R134 -/
def WEIR.STATUS_SILENT : Fld := ⟨WEIR.STATUS_at, 1, 1⟩
/-- WEIR.STATUS.SUPPLY_OK_A: the supply rule allows transmission on port A (R133) -/
def WEIR.STATUS_SUPPLY_OK_A : Fld := ⟨WEIR.STATUS_at, 2, 1⟩
/-- WEIR.STATUS.VPA_LOW_A: VPA_A below VPA_WARN -/
def WEIR.STATUS_VPA_LOW_A : Fld := ⟨WEIR.STATUS_at, 3, 1⟩
/-- WEIR.STATUS.VMAIN_LOW: VMAIN below the Wellspring warning level -/
def WEIR.STATUS_VMAIN_LOW : Fld := ⟨WEIR.STATUS_at, 4, 1⟩
/-- WEIR.STATUS.GRANT_A: port A between grant and PA off -/
def WEIR.STATUS_GRANT_A : Fld := ⟨WEIR.STATUS_at, 5, 1⟩
/-- WEIR.STATUS.GRANT_B: port B between grant and PA off -/
def WEIR.STATUS_GRANT_B : Fld := ⟨WEIR.STATUS_at, 6, 1⟩
/-- WEIR.STATUS.COLD: a cold-hold charge is in a ledger (R132) -/
def WEIR.STATUS_COLD : Fld := ⟨WEIR.STATUS_at, 7, 1⟩
/-- WEIR.STATUS.SUPPLY_OK_B: the supply rule allows transmission on port B (R133) -/
def WEIR.STATUS_SUPPLY_OK_B : Fld := ⟨WEIR.STATUS_at, 8, 1⟩
/-- WEIR.STATUS.VPA_LOW_B: VPA_B below VPA_WARN -/
def WEIR.STATUS_VPA_LOW_B : Fld := ⟨WEIR.STATUS_at, 9, 1⟩
/-- The address of WEIR.LOCKS (R136). -/
def WEIR.LOCKS_at : Nat := 0x20050004
/-- WEIR.LOCKS.L_BAND: 1: the record's lock is set -/
def WEIR.LOCKS_L_BAND : Fld := ⟨WEIR.LOCKS_at, 0, 8⟩
/-- WEIR.LOCKS.L_CABLE: 1: set -/
def WEIR.LOCKS_L_CABLE : Fld := ⟨WEIR.LOCKS_at, 8, 1⟩
/-- WEIR.LOCKS.L_SUPPLY: 1: set -/
def WEIR.LOCKS_L_SUPPLY : Fld := ⟨WEIR.LOCKS_at, 9, 1⟩
/-- WEIR.LOCKS.L_TABLE: 1: set -/
def WEIR.LOCKS_L_TABLE : Fld := ⟨WEIR.LOCKS_at, 10, 1⟩
/-- The address of WEIR.CABLE (R136). -/
def WEIR.CABLE_at : Nat := 0x20050008
/-- WEIR.CABLE.CABLE_MAX: R123 -/
def WEIR.CABLE_CABLE_MAX : Fld := ⟨WEIR.CABLE_at, 0, 8⟩
/-- The address of WEIR.SUPPLY (R136). -/
def WEIR.SUPPLY_at : Nat := 0x2005000C
/-- WEIR.SUPPLY.VPA_WARN: R123 -/
def WEIR.SUPPLY_VPA_WARN : Fld := ⟨WEIR.SUPPLY_at, 0, 8⟩
/-- The address of WEIR.EVENTS (R136). -/
def WEIR.EVENTS_at : Nat := 0x20050010
/-- WEIR.EVENTS.FREQ: refusal with FREQ -/
def WEIR.EVENTS_FREQ : Fld := ⟨WEIR.EVENTS_at, 0, 1⟩
/-- WEIR.EVENTS.DWELL: refusal with DWELL -/
def WEIR.EVENTS_DWELL : Fld := ⟨WEIR.EVENTS_at, 1, 1⟩
/-- WEIR.EVENTS.OFFTIME: refusal with OFFTIME -/
def WEIR.EVENTS_OFFTIME : Fld := ⟨WEIR.EVENTS_at, 2, 1⟩
/-- WEIR.EVENTS.DUTY: refusal with DUTY -/
def WEIR.EVENTS_DUTY : Fld := ⟨WEIR.EVENTS_at, 3, 1⟩
/-- WEIR.EVENTS.SUPPLY: refusal with SUPPLY or SILENT -/
def WEIR.EVENTS_SUPPLY : Fld := ⟨WEIR.EVENTS_at, 4, 1⟩
/-- WEIR.EVENTS.CUT: a transmission ended SILENCED -/
def WEIR.EVENTS_CUT : Fld := ⟨WEIR.EVENTS_at, 5, 1⟩
/-- WEIR.EVENTS.CLAMP: RF power clamped -/
def WEIR.EVENTS_CLAMP : Fld := ⟨WEIR.EVENTS_at, 6, 1⟩
/-- WEIR.EVENTS.CABLE_CLAMP: cable amplitude clamped -/
def WEIR.EVENTS_CABLE_CLAMP : Fld := ⟨WEIR.EVENTS_at, 7, 1⟩
/-- WEIR.EVENTS.LOCKSET: a lock took effect (R127) -/
def WEIR.EVENTS_LOCKSET : Fld := ⟨WEIR.EVENTS_at, 8, 1⟩
/-- The address of WEIR.REFUSALS (R136). -/
def WEIR.REFUSALS_at : Nat := 0x20050014
/-- WEIR.REFUSALS.COUNT: clearances refused, saturating at 0xFFFF_FFFF -/
def WEIR.REFUSALS_COUNT : Fld := ⟨WEIR.REFUSALS_at, 0, 32⟩
/-- The address of WEIR.LAST (R136). -/
def WEIR.LAST_at : Nat := 0x20050018
/-- WEIR.LAST.WHY: reason of the latest refusal or cut (R128, R134) -/
def WEIR.LAST_WHY : Fld := ⟨WEIR.LAST_at, 0, 4⟩
/-- WEIR.LAST.RECORD: for a refusal with DWELL, OFFTIME or DUTY, the lowest-numbered covering record whose check failed; for … -/
def WEIR.LAST_RECORD : Fld := ⟨WEIR.LAST_at, 4, 3⟩
/-- WEIR.LAST.PORT: 0 port A, 1 port B -/
def WEIR.LAST_PORT : Fld := ⟨WEIR.LAST_at, 7, 1⟩
/-- WEIR.LAST.TICK: TICK[23:0] of the event -/
def WEIR.LAST_TICK : Fld := ⟨WEIR.LAST_at, 8, 24⟩
/-- The address of WEIR.LEDGER_SEL (R136). -/
def WEIR.LEDGER_SEL_at : Nat := 0x2005001C
/-- WEIR.LEDGER_SEL.RECORD: record whose bucket LEDGER_BKT shows -/
def WEIR.LEDGER_SEL_RECORD : Fld := ⟨WEIR.LEDGER_SEL_at, 0, 3⟩
/-- WEIR.LEDGER_SEL.AGE: 0 is the current bucket, 59 the oldest; 60–63 act as 59 -/
def WEIR.LEDGER_SEL_AGE : Fld := ⟨WEIR.LEDGER_SEL_at, 8, 6⟩
/-- The address of WEIR.LEDGER_BKT (R136). -/
def WEIR.LEDGER_BKT_at : Nat := 0x20050020
/-- WEIR.LEDGER_BKT.US: charge of the selected bucket, µs, at the instant of the read -/
def WEIR.LEDGER_BKT_US : Fld := ⟨WEIR.LEDGER_BKT_at, 0, 32⟩
/-- The address of WEIR.LO (R136). -/
def WEIR.LO_at (n : Nat) : Nat := 0x20050100 + 0x20 * n
/-- WEIR.LO.HZ: LO_HZ or HI_HZ (R121) -/
def WEIR.LO_HZ (n : Nat) : Fld := ⟨WEIR.LO_at n, 0, 30⟩
/-- The address of WEIR.HI (R136). -/
def WEIR.HI_at (n : Nat) : Nat := 0x20050104 + 0x20 * n
/-- WEIR.HI.HZ: LO_HZ or HI_HZ (R121) -/
def WEIR.HI_HZ (n : Nat) : Fld := ⟨WEIR.HI_at n, 0, 30⟩
/-- The address of WEIR.PWR (R136). -/
def WEIR.PWR_at (n : Nat) : Nat := 0x20050108 + 0x20 * n
/-- WEIR.PWR.P_MAX: R121; values outside −40 to 108 act as the nearer end -/
def WEIR.PWR_P_MAX (n : Nat) : Fld := ⟨WEIR.PWR_at n, 0, 9⟩
/-- WEIR.PWR.MAXTX_MS: R121 -/
def WEIR.PWR_MAXTX_MS (n : Nat) : Fld := ⟨WEIR.PWR_at n, 16, 16⟩
/-- The address of WEIR.COND (R136). -/
def WEIR.COND_at (n : Nat) : Nat := 0x2005010C + 0x20 * n
/-- WEIR.COND.OFF_MS: R121 -/
def WEIR.COND_OFF_MS (n : Nat) : Fld := ⟨WEIR.COND_at n, 0, 16⟩
/-- WEIR.COND.VALID: R121 -/
def WEIR.COND_VALID (n : Nat) : Fld := ⟨WEIR.COND_at n, 16, 1⟩
/-- WEIR.COND.COLD_HOLD: R132 -/
def WEIR.COND_COLD_HOLD (n : Nat) : Fld := ⟨WEIR.COND_at n, 17, 1⟩
/-- The address of WEIR.DUTY (R136). -/
def WEIR.DUTY_at (n : Nat) : Nat := 0x20050110 + 0x20 * n
/-- WEIR.DUTY.DUTY_PPM: R121 -/
def WEIR.DUTY_DUTY_PPM (n : Nat) : Fld := ⟨WEIR.DUTY_at n, 0, 20⟩
/-- The address of WEIR.USED (R136). -/
def WEIR.USED_at (n : Nat) : Nat := 0x20050114 + 0x20 * n
/-- WEIR.USED.US: USED and RESV of R130, µs -/
def WEIR.USED_US (n : Nat) : Fld := ⟨WEIR.USED_at n, 0, 32⟩
/-- The address of WEIR.RESV (R136). -/
def WEIR.RESV_at (n : Nat) : Nat := 0x20050118 + 0x20 * n
/-- WEIR.RESV.US: USED and RESV of R130, µs -/
def WEIR.RESV_US (n : Nat) : Fld := ⟨WEIR.RESV_at n, 0, 32⟩
/-- The address of WEIR.REMAIN (R136). -/
def WEIR.REMAIN_at (n : Nat) : Nat := 0x2005011C + 0x20 * n
/-- WEIR.REMAIN.US: REMAIN of R130, signed µs -/
def WEIR.REMAIN_US (n : Nat) : Fld := ⟨WEIR.REMAIN_at n, 0, 32⟩

/-! ### CHISEL -/
/-- The address of CHISEL.CFG (R176). -/
def CHISEL.CFG_at : Nat := 0x200B0000
/-- CHISEL.CFG.SHARING: 0 CONTEXT, 1 LOCK (R163) -/
def CHISEL.CFG_SHARING : Fld := ⟨CHISEL.CFG_at, 0, 1⟩
/-- The address of CHISEL.STATUS (R176). -/
def CHISEL.STATUS_at : Nat := 0x200B0004
/-- CHISEL.STATUS.CORES: cores serving jobs, 0–8 -/
def CHISEL.STATUS_CORES : Fld := ⟨CHISEL.STATUS_at, 0, 4⟩
/-- CHISEL.STATUS.SPARE: a spare position is available -/
def CHISEL.STATUS_SPARE : Fld := ⟨CHISEL.STATUS_at, 4, 1⟩
/-- CHISEL.STATUS.BUSY: cores running a job, one bit per serving position -/
def CHISEL.STATUS_BUSY : Fld := ⟨CHISEL.STATUS_at, 5, 8⟩
/-- CHISEL.STATUS.WAITING: a job is held by the interlock or awaits a core -/
def CHISEL.STATUS_WAITING : Fld := ⟨CHISEL.STATUS_at, 13, 1⟩
/-- The address of CHISEL.EVENTS (R176). -/
def CHISEL.EVENTS_at : Nat := 0x200B0008
/-- CHISEL.EVENTS.RESDROP: a result was dropped (R156) -/
def CHISEL.EVENTS_RESDROP : Fld := ⟨CHISEL.EVENTS_at, 0, 1⟩
/-- CHISEL.EVENTS.CFGBUSY: a SHARING change was ignored -/
def CHISEL.EVENTS_CFGBUSY : Fld := ⟨CHISEL.EVENTS_at, 1, 1⟩
/-- CHISEL.EVENTS.LEASE_EXP: a lease expired -/
def CHISEL.EVENTS_LEASE_EXP : Fld := ⟨CHISEL.EVENTS_at, 2, 1⟩
/-- CHISEL.EVENTS.MICFAIL: a job ended MICFAIL -/
def CHISEL.EVENTS_MICFAIL : Fld := ⟨CHISEL.EVENTS_at, 3, 1⟩
/-- CHISEL.EVENTS.REPLAY: a job ended REPLAY or TOOOLD -/
def CHISEL.EVENTS_REPLAY : Fld := ⟨CHISEL.EVENTS_at, 4, 1⟩
/-- CHISEL.EVENTS.EXH: a result carried EXH -/
def CHISEL.EVENTS_EXH : Fld := ⟨CHISEL.EVENTS_at, 5, 1⟩
/-- CHISEL.EVENTS.FAULT: a job ended FAULT or POISONED -/
def CHISEL.EVENTS_FAULT : Fld := ⟨CHISEL.EVENTS_at, 6, 1⟩
/-- The address of CHISEL.JOBS (R176). -/
def CHISEL.JOBS_at : Nat := 0x200B000C
/-- CHISEL.JOBS.COUNT: JOBS: jobs ended OK. FAILS: jobs ended with any other status. Each saturates at 0xFFFF_FFFF. -/
def CHISEL.JOBS_COUNT : Fld := ⟨CHISEL.JOBS_at, 0, 32⟩
/-- The address of CHISEL.FAILS (R176). -/
def CHISEL.FAILS_at : Nat := 0x200B0010
/-- CHISEL.FAILS.COUNT: JOBS: jobs ended OK. FAILS: jobs ended with any other status. Each saturates at 0xFFFF_FFFF. -/
def CHISEL.FAILS_COUNT : Fld := ⟨CHISEL.FAILS_at, 0, 32⟩
/-- The address of CHISEL.LEASE (R176). -/
def CHISEL.LEASE_at : Nat := 0x200B0014
/-- CHISEL.LEASE.TICKS: lease length in ticks; values below 16 act as 16 -/
def CHISEL.LEASE_TICKS : Fld := ⟨CHISEL.LEASE_at, 0, 24⟩
/-- The address of CHISEL.LOCK (R176). -/
def CHISEL.LOCK_at : Nat := 0x200B0018
/-- CHISEL.LOCK.TOKEN: token of the operation -/
def CHISEL.LOCK_TOKEN : Fld := ⟨CHISEL.LOCK_at, 0, 16⟩
/-- CHISEL.LOCK.OP: R170; 0 and 5–7 have no effect -/
def CHISEL.LOCK_OP : Fld := ⟨CHISEL.LOCK_at, 16, 3⟩
/-- The address of CHISEL.LOCK_STATUS (R176). -/
def CHISEL.LOCK_STATUS_at : Nat := 0x200B001C
/-- CHISEL.LOCK_STATUS.TOKEN: holder's token; 0 when HELD is 0 -/
def CHISEL.LOCK_STATUS_TOKEN : Fld := ⟨CHISEL.LOCK_STATUS_at, 0, 16⟩
/-- CHISEL.LOCK_STATUS.HELD: a lease is held -/
def CHISEL.LOCK_STATUS_HELD : Fld := ⟨CHISEL.LOCK_STATUS_at, 16, 1⟩
/-- The address of CHISEL.LOCK_EXPIRIES (R176). -/
def CHISEL.LOCK_EXPIRIES_at : Nat := 0x200B0020
/-- CHISEL.LOCK_EXPIRIES.COUNT: leases ended by expiry, saturating -/
def CHISEL.LOCK_EXPIRIES_COUNT : Fld := ⟨CHISEL.LOCK_EXPIRIES_at, 0, 16⟩
/-- The address of CHISEL.QCFG (R176). -/
def CHISEL.QCFG_at (n : Nat) : Nat := 0x200B0030 + 0x4 * n
/-- CHISEL.QCFG.JOB_FLUME: descriptor Flume of queue q -/
def CHISEL.QCFG_JOB_FLUME (n : Nat) : Fld := ⟨CHISEL.QCFG_at n, 0, 6⟩
/-- CHISEL.QCFG.RES_FLUME: result Flume of queue q -/
def CHISEL.QCFG_RES_FLUME (n : Nat) : Fld := ⟨CHISEL.QCFG_at n, 8, 6⟩
/-- CHISEL.QCFG.EN: 1 lets the scheduler dispatch from queue q -/
def CHISEL.QCFG_EN (n : Nat) : Fld := ⟨CHISEL.QCFG_at n, 14, 1⟩
/-- The address of CHISEL.KSEL (R176). -/
def CHISEL.KSEL_at : Nat := 0x200B0040
/-- CHISEL.KSEL.INDEX: key-table entry for KCTRL -/
def CHISEL.KSEL_INDEX : Fld := ⟨CHISEL.KSEL_at, 0, 10⟩
/-- The address of CHISEL.KCTRL (R176). -/
def CHISEL.KCTRL_at : Nat := 0x200B0044
/-- CHISEL.KCTRL.SIZE: written: size for WRITE (0 AES-128, 1 AES-192, 2 AES-256; 3 makes the entry invalid). Read: size of the … -/
def CHISEL.KCTRL_SIZE : Fld := ⟨CHISEL.KCTRL_at, 0, 2⟩
/-- CHISEL.KCTRL.VALID: validity of the entry last read or written -/
def CHISEL.KCTRL_VALID : Fld := ⟨CHISEL.KCTRL_at, 2, 1⟩
/-- CHISEL.KCTRL.WRITE: 1 commits KDATA and SIZE to entry INDEX (R162) -/
def CHISEL.KCTRL_WRITE : Fld := ⟨CHISEL.KCTRL_at, 3, 1⟩
/-- CHISEL.KCTRL.READ: 1 loads entry INDEX into KDATA -/
def CHISEL.KCTRL_READ : Fld := ⟨CHISEL.KCTRL_at, 4, 1⟩
/-- The address of CHISEL.KDATA (R176). -/
def CHISEL.KDATA_at (n : Nat) : Nat := 0x200B0060 + 0x4 * n
/-- CHISEL.KDATA.OCTETS: key octets 4i to 4i + 3, octet 4i in bits 7:0 -/
def CHISEL.KDATA_OCTETS (n : Nat) : Fld := ⟨CHISEL.KDATA_at n, 0, 32⟩
/-- The address of CHISEL.WRAPKEY (R176). -/
def CHISEL.WRAPKEY_at (n : Nat) : Nat := 0x200B0080 + 0x4 * n
/-- CHISEL.WRAPKEY.OCTETS: wrap-key octets 4i to 4i + 3, octet 4i in bits 7:0 (R166) -/
def CHISEL.WRAPKEY_OCTETS (n : Nat) : Fld := ⟨CHISEL.WRAPKEY_at n, 0, 32⟩
/-- The address of CHISEL.WSEQ_LO (R176). -/
def CHISEL.WSEQ_LO_at : Nat := 0x200B00A0
/-- CHISEL.WSEQ_LO.SEQ: WSEQ[31:0]; a read captures WSEQ[63:32] into WSEQ_HI (R167) -/
def CHISEL.WSEQ_LO_SEQ : Fld := ⟨CHISEL.WSEQ_LO_at, 0, 32⟩
/-- The address of CHISEL.WSEQ_HI (R176). -/
def CHISEL.WSEQ_HI_at : Nat := 0x200B00A4
/-- CHISEL.WSEQ_HI.SEQ: WSEQ[63:32] as captured by the latest WSEQ_LO read -/
def CHISEL.WSEQ_HI_SEQ : Fld := ⟨CHISEL.WSEQ_HI_at, 0, 32⟩

/-! ### FLUME -/
/-- The address of FLUME.STALL_LIMIT (R195). -/
def FLUME.STALL_LIMIT_at : Nat := 0x200C0000
/-- FLUME.STALL_LIMIT.TICKS: stall limit L in ticks (R187); 0 disables the limit -/
def FLUME.STALL_LIMIT_TICKS : Fld := ⟨FLUME.STALL_LIMIT_at, 0, 16⟩
/-- The address of FLUME.EVENTS (R195). -/
def FLUME.EVENTS_at : Nat := 0x200C0004
/-- FLUME.EVENTS.BADCFG: an enable or resize was refused (R179) -/
def FLUME.EVENTS_BADCFG : Fld := ⟨FLUME.EVENTS_at, 0, 1⟩
/-- FLUME.EVENTS.OFFWRITE: a write to a disabled Flume was discarded (R183) -/
def FLUME.EVENTS_OFFWRITE : Fld := ⟨FLUME.EVENTS_at, 1, 1⟩
/-- FLUME.EVENTS.PARITY: a parity error was found on read (R189) -/
def FLUME.EVENTS_PARITY : Fld := ⟨FLUME.EVENTS_at, 2, 1⟩
/-- FLUME.EVENTS.CUT: a hardware consumer removed a cut packet (R188) -/
def FLUME.EVENTS_CUT : Fld := ⟨FLUME.EVENTS_at, 3, 1⟩
/-- FLUME.EVENTS.STALLTRAP: a core took the Flume trap with cause STALL -/
def FLUME.EVENTS_STALLTRAP : Fld := ⟨FLUME.EVENTS_at, 4, 1⟩
/-- The address of FLUME.DROP_LO (R195). -/
def FLUME.DROP_LO_at : Nat := 0x200C0008
/-- FLUME.DROP_LO.FLUME: bit j set: Flume j (DROP_LO) or Flume 32 + j (DROP_HI) dropped a word, in a gap or by a write while … -/
def FLUME.DROP_LO_FLUME : Fld := ⟨FLUME.DROP_LO_at, 0, 32⟩
/-- The address of FLUME.DROP_HI (R195). -/
def FLUME.DROP_HI_at : Nat := 0x200C000C
/-- FLUME.DROP_HI.FLUME: bit j set: Flume j (DROP_LO) or Flume 32 + j (DROP_HI) dropped a word, in a gap or by a write while … -/
def FLUME.DROP_HI_FLUME : Fld := ⟨FLUME.DROP_HI_at, 0, 32⟩
/-- The address of FLUME.PARITY (R195). -/
def FLUME.PARITY_at : Nat := 0x200C0010
/-- FLUME.PARITY.COUNT: PARITY: entries delivered as POISON under R189. CUTS: packets removed under R188. Each saturates at 0xFFFF. -/
def FLUME.PARITY_COUNT : Fld := ⟨FLUME.PARITY_at, 0, 16⟩
/-- The address of FLUME.CUTS (R195). -/
def FLUME.CUTS_at : Nat := 0x200C0014
/-- FLUME.CUTS.COUNT: PARITY: entries delivered as POISON under R189. CUTS: packets removed under R188. Each saturates at 0xFFFF. -/
def FLUME.CUTS_COUNT : Fld := ⟨FLUME.CUTS_at, 0, 16⟩
/-- The address of FLUME.SPARE_UNITS (R195). -/
def FLUME.SPARE_UNITS_at : Nat := 0x200C0018
/-- FLUME.SPARE_UNITS.UNITS: 64-entry units that no enabled Flume uses -/
def FLUME.SPARE_UNITS_UNITS : Fld := ⟨FLUME.SPARE_UNITS_at, 0, 11⟩
/-- The address of FLUME.CFG (R195). -/
def FLUME.CFG_at (n : Nat) : Nat := 0x200C0100 + 0x4 * n
/-- FLUME.CFG.BASE: first 64-entry unit (R179) -/
def FLUME.CFG_BASE (n : Nat) : Fld := ⟨FLUME.CFG_at n, 0, 10⟩
/-- FLUME.CFG.SIZE: units, 1–1,024 -/
def FLUME.CFG_SIZE (n : Nat) : Fld := ⟨FLUME.CFG_at n, 16, 11⟩
/-- FLUME.CFG.NOLIMIT: 1 exempts reads of this Flume from STALL_LIMIT -/
def FLUME.CFG_NOLIMIT (n : Nat) : Fld := ⟨FLUME.CFG_at n, 30, 1⟩
/-- FLUME.CFG.EN: 1 enables the Flume (R179); writing 0 empties it (R180) -/
def FLUME.CFG_EN (n : Nat) : Fld := ⟨FLUME.CFG_at n, 31, 1⟩
/-- The address of FLUME.STATUS (R195). -/
def FLUME.STATUS_at (n : Nat) : Nat := 0x200C0200 + 0x4 * n
/-- FLUME.STATUS.COUNT: occupied entries E, gap markers included -/
def FLUME.STATUS_COUNT (n : Nat) : Fld := ⟨FLUME.STATUS_at n, 0, 17⟩
/-- FLUME.STATUS.OPEN_GAP: the tail is an open gap marker -/
def FLUME.STATUS_OPEN_GAP (n : Nat) : Fld := ⟨FLUME.STATUS_at n, 17, 1⟩
/-- FLUME.STATUS.SUSPECT: PKTS may be off by one (R189) -/
def FLUME.STATUS_SUSPECT (n : Nat) : Fld := ⟨FLUME.STATUS_at n, 18, 1⟩
/-- FLUME.STATUS.STALLED: at least one core is stalled reading this Flume -/
def FLUME.STATUS_STALLED (n : Nat) : Fld := ⟨FLUME.STATUS_at n, 19, 1⟩
/-- The address of FLUME.PKTS (R195). -/
def FLUME.PKTS_at (n : Nat) : Nat := 0x200C0300 + 0x4 * n
/-- FLUME.PKTS.PKTS: stored entries with END = 1 (R186) -/
def FLUME.PKTS_PKTS (n : Nat) : Fld := ⟨FLUME.PKTS_at n, 0, 17⟩
/-- The address of FLUME.DROPS (R195). -/
def FLUME.DROPS_at (n : Nat) : Nat := 0x200C0400 + 0x4 * n
/-- FLUME.DROPS.COUNT: words dropped by Flume n, gap-counted and disabled-write drops alike, saturating at 0xFFFF_FFFF -/
def FLUME.DROPS_COUNT (n : Nat) : Fld := ⟨FLUME.DROPS_at n, 0, 32⟩
/-- The address of FLUME.PUSH_ATTR (R195). -/
def FLUME.PUSH_ATTR_at (n : Nat) : Nat := 0x200C1000 + 0x10 * n
/-- FLUME.PUSH_ATTR.TAG: tag for the next PUSH[n] write -/
def FLUME.PUSH_ATTR_TAG (n : Nat) : Fld := ⟨FLUME.PUSH_ATTR_at n, 0, 4⟩
/-- FLUME.PUSH_ATTR.END: END for the next PUSH[n] write -/
def FLUME.PUSH_ATTR_END (n : Nat) : Fld := ⟨FLUME.PUSH_ATTR_at n, 4, 1⟩
/-- The address of FLUME.PUSH (R195). -/
def FLUME.PUSH_at (n : Nat) : Nat := 0x200C1004 + 0x10 * n
/-- FLUME.PUSH.DATA: writes one word to Flume n with PUSH_ATTR[n] (R194) -/
def FLUME.PUSH_DATA (n : Nat) : Fld := ⟨FLUME.PUSH_at n, 0, 32⟩
/-- The address of FLUME.POP (R195). -/
def FLUME.POP_at (n : Nat) : Nat := 0x200C1008 + 0x10 * n
/-- FLUME.POP.DATA: a read removes the head entry and returns its data; 0x0000_0000 if the Flume is empty or disabled (R185) -/
def FLUME.POP_DATA (n : Nat) : Fld := ⟨FLUME.POP_at n, 0, 32⟩
/-- The address of FLUME.POP_ATTR (R195). -/
def FLUME.POP_ATTR_at (n : Nat) : Nat := 0x200C100C + 0x10 * n
/-- FLUME.POP_ATTR.TAG: tag of the entry removed by the latest POP[n] read; 0xF when that read removed nothing (R185) -/
def FLUME.POP_ATTR_TAG (n : Nat) : Fld := ⟨FLUME.POP_ATTR_at n, 0, 4⟩
/-- FLUME.POP_ATTR.END: END of that entry; 0 when that read removed nothing -/
def FLUME.POP_ATTR_END (n : Nat) : Fld := ⟨FLUME.POP_ATTR_at n, 4, 1⟩
/-- FLUME.POP_ATTR.GAP: GAP of that entry; 0 when that read removed nothing -/
def FLUME.POP_ATTR_GAP (n : Nat) : Fld := ⟨FLUME.POP_ATTR_at n, 5, 1⟩
/-- FLUME.POP_ATTR.EMPTY: the latest POP[n] read found the Flume empty or disabled -/
def FLUME.POP_ATTR_EMPTY (n : Nat) : Fld := ⟨FLUME.POP_ATTR_at n, 6, 1⟩
/-- FLUME.POP_ATTR.PARITY: the entry was delivered under R189; 0 when that read removed nothing -/
def FLUME.POP_ATTR_PARITY (n : Nat) : Fld := ⟨FLUME.POP_ATTR_at n, 7, 1⟩

/-! ### AQUA -/
/-- The address of AQUA.CFG (R221). -/
def AQUA.CFG_at : Nat := 0x200D0000
/-- AQUA.CFG.REPEAT_EN: 1 enables repeating (R213) -/
def AQUA.CFG_REPEAT_EN : Fld := ⟨AQUA.CFG_at, 0, 1⟩
/-- AQUA.CFG.MGMT_EN: 1 passes local MGMT frames to Spout (R206) -/
def AQUA.CFG_MGMT_EN : Fld := ⟨AQUA.CFG_at, 1, 1⟩
/-- AQUA.CFG.PROMISC: 1 delivers frames for any DEST -/
def AQUA.CFG_PROMISC : Fld := ⟨AQUA.CFG_at, 2, 1⟩
/-- AQUA.CFG.RPT_BURST: repeated frames before one local frame (R215); 0 acts as 1 -/
def AQUA.CFG_RPT_BURST : Fld := ⟨AQUA.CFG_at, 3, 4⟩
/-- The address of AQUA.ADDR (R221). -/
def AQUA.ADDR_at : Nat := 0x200D0004
/-- AQUA.ADDR.ADDR: node cable address; sent in EXCHANGE -/
def AQUA.ADDR_ADDR : Fld := ⟨AQUA.ADDR_at, 0, 16⟩
/-- The address of AQUA.EVENTS (R221). -/
def AQUA.EVENTS_at : Nat := 0x200D0008
/-- AQUA.EVENTS.LINKUP_A: port A reached UP -/
def AQUA.EVENTS_LINKUP_A : Fld := ⟨AQUA.EVENTS_at, 0, 1⟩
/-- AQUA.EVENTS.LINKUP_B: port B reached UP -/
def AQUA.EVENTS_LINKUP_B : Fld := ⟨AQUA.EVENTS_at, 1, 1⟩
/-- AQUA.EVENTS.LINKDOWN_A: port A left UP or failed training -/
def AQUA.EVENTS_LINKDOWN_A : Fld := ⟨AQUA.EVENTS_at, 2, 1⟩
/-- AQUA.EVENTS.LINKDOWN_B: port B, as LINKDOWN_A -/
def AQUA.EVENTS_LINKDOWN_B : Fld := ⟨AQUA.EVENTS_at, 3, 1⟩
/-- AQUA.EVENTS.BADHDR: a header was discarded (R206) -/
def AQUA.EVENTS_BADHDR : Fld := ⟨AQUA.EVENTS_at, 4, 1⟩
/-- AQUA.EVENTS.RECDROP: a record was dropped whole (R208) -/
def AQUA.EVENTS_RECDROP : Fld := ⟨AQUA.EVENTS_at, 5, 1⟩
/-- AQUA.EVENTS.REPDROP: a transmit report was dropped (R212) -/
def AQUA.EVENTS_REPDROP : Fld := ⟨AQUA.EVENTS_at, 6, 1⟩
/-- AQUA.EVENTS.RPTDROP: a frame was dropped from the repeat path -/
def AQUA.EVENTS_RPTDROP : Fld := ⟨AQUA.EVENTS_at, 7, 1⟩
/-- AQUA.EVENTS.CLAMP: a port's amplitude was clamped by the Weir -/
def AQUA.EVENTS_CLAMP : Fld := ⟨AQUA.EVENTS_at, 8, 1⟩
/-- The address of AQUA.PCTRL (R221). -/
def AQUA.PCTRL_at (n : Nat) : Nat := 0x200D0100 + 0x40 * n
/-- AQUA.PCTRL.EN: 1 enables the port; 0 ends its link with reason FIRMWARE and goes to OFF -/
def AQUA.PCTRL_EN (n : Nat) : Fld := ⟨AQUA.PCTRL_at n, 0, 1⟩
/-- AQUA.PCTRL.ROLE: 0 respond only, 1 initiate (R200) -/
def AQUA.PCTRL_ROLE (n : Nat) : Fld := ⟨AQUA.PCTRL_at n, 1, 1⟩
/-- AQUA.PCTRL.RETRAIN: 1 ends the link with reason FIRMWARE and starts training (initiator) or waits for the peer (responder) -/
def AQUA.PCTRL_RETRAIN (n : Nat) : Fld := ⟨AQUA.PCTRL_at n, 2, 1⟩
/-- AQUA.PCTRL.DROP: 1 ends the link with reason FIRMWARE and stays QUIET -/
def AQUA.PCTRL_DROP (n : Nat) : Fld := ⟨AQUA.PCTRL_at n, 3, 1⟩
/-- The address of AQUA.PCFG (R221). -/
def AQUA.PCFG_at (n : Nat) : Nat := 0x200D0104 + 0x40 * n
/-- AQUA.PCFG.RATE_MAX: highest rate code offered (R196) -/
def AQUA.PCFG_RATE_MAX (n : Nat) : Fld := ⟨AQUA.PCFG_at n, 0, 4⟩
/-- AQUA.PCFG.MARGIN_DB: SNR margin in training, dB -/
def AQUA.PCFG_MARGIN_DB (n : Nat) : Fld := ⟨AQUA.PCFG_at n, 4, 4⟩
/-- AQUA.PCFG.AUTO_RETRAIN: R202 -/
def AQUA.PCFG_AUTO_RETRAIN (n : Nat) : Fld := ⟨AQUA.PCFG_at n, 8, 1⟩
/-- AQUA.PCFG.WAKE_MS: reply wait and back-off unit, ms; 0 acts as 1 -/
def AQUA.PCFG_WAKE_MS (n : Nat) : Fld := ⟨AQUA.PCFG_at n, 16, 8⟩
/-- AQUA.PCFG.LOS_MS: loss-of-signal time in UP, ms; 0 acts as 1 -/
def AQUA.PCFG_LOS_MS (n : Nat) : Fld := ⟨AQUA.PCFG_at n, 24, 8⟩
/-- The address of AQUA.AMP (R221). -/
def AQUA.AMP_at (n : Nat) : Nat := 0x200D0108 + 0x40 * n
/-- AQUA.AMP.AMP: requested amplitude, 10 mV p-p differential; above 200 acts as 200 -/
def AQUA.AMP_AMP (n : Nat) : Fld := ⟨AQUA.AMP_at n, 0, 8⟩
/-- AQUA.AMP.AMP_EFF: amplitude in force (R216); 0 while SILENT -/
def AQUA.AMP_AMP_EFF (n : Nat) : Fld := ⟨AQUA.AMP_at n, 8, 8⟩
/-- AQUA.AMP.CLAMPED: AMP exceeds CABLE_MAX -/
def AQUA.AMP_CLAMPED (n : Nat) : Fld := ⟨AQUA.AMP_at n, 16, 1⟩
/-- The address of AQUA.FLUMES (R221). -/
def AQUA.FLUMES_at (n : Nat) : Nat := 0x200D010C + 0x40 * n
/-- AQUA.FLUMES.REC_FLUME: receive record Flume -/
def AQUA.FLUMES_REC_FLUME (n : Nat) : Fld := ⟨AQUA.FLUMES_at n, 0, 6⟩
/-- AQUA.FLUMES.BUF_FLUME: free-buffer Flume -/
def AQUA.FLUMES_BUF_FLUME (n : Nat) : Fld := ⟨AQUA.FLUMES_at n, 8, 6⟩
/-- AQUA.FLUMES.TX_FLUME: descriptor Flume -/
def AQUA.FLUMES_TX_FLUME (n : Nat) : Fld := ⟨AQUA.FLUMES_at n, 16, 6⟩
/-- AQUA.FLUMES.RES_FLUME: report Flume -/
def AQUA.FLUMES_RES_FLUME (n : Nat) : Fld := ⟨AQUA.FLUMES_at n, 24, 6⟩
/-- The address of AQUA.BUFCFG (R221). -/
def AQUA.BUFCFG_at (n : Nat) : Nat := 0x200D0110 + 0x40 * n
/-- AQUA.BUFCFG.BUF_SIZE: buffer size in 32-byte units, 1–64; 0 and 65–127 act as 64 -/
def AQUA.BUFCFG_BUF_SIZE (n : Nat) : Fld := ⟨AQUA.BUFCFG_at n, 0, 7⟩
/-- The address of AQUA.LINK (R221). -/
def AQUA.LINK_at (n : Nat) : Nat := 0x200D0114 + 0x40 * n
/-- AQUA.LINK.STATE: R199 -/
def AQUA.LINK_STATE (n : Nat) : Fld := ⟨AQUA.LINK_at n, 0, 3⟩
/-- AQUA.LINK.INIT: 1 if this port initiated the current or last training -/
def AQUA.LINK_INIT (n : Nat) : Fld := ⟨AQUA.LINK_at n, 3, 1⟩
/-- AQUA.LINK.RATE: rate code in force or being tried -/
def AQUA.LINK_RATE (n : Nat) : Fld := ⟨AQUA.LINK_at n, 4, 4⟩
/-- AQUA.LINK.REASON: reason for the last loss (R199) -/
def AQUA.LINK_REASON (n : Nat) : Fld := ⟨AQUA.LINK_at n, 8, 4⟩
/-- AQUA.LINK.PEER: peer's ADDR from the last EXCHANGE -/
def AQUA.LINK_PEER (n : Nat) : Fld := ⟨AQUA.LINK_at n, 16, 16⟩
/-- The address of AQUA.LQ (R221). -/
def AQUA.LQ_at (n : Nat) : Nat := 0x200D0118 + 0x40 * n
/-- AQUA.LQ.SNR: live SNR, 0.25 dB units (R210) -/
def AQUA.LQ_SNR (n : Nat) : Fld := ⟨AQUA.LQ_at n, 0, 10⟩
/-- AQUA.LQ.EVM: live EVM, 0.1 % units, saturating -/
def AQUA.LQ_EVM (n : Nat) : Fld := ⟨AQUA.LQ_at n, 12, 12⟩
/-- The address of AQUA.WAKE (R221). -/
def AQUA.WAKE_at (n : Nat) : Nat := 0x200D011C + 0x40 * n
/-- AQUA.WAKE.EN: 1 keeps the activity detector powered in NAP and HIBERNATE (R218); held in the Wellspring domain -/
def AQUA.WAKE_EN (n : Nat) : Fld := ⟨AQUA.WAKE_at n, 0, 1⟩
/-- AQUA.WAKE.LEVEL: detection threshold, mV peak differential, 10–120; values outside act as the nearer end -/
def AQUA.WAKE_LEVEL (n : Nat) : Fld := ⟨AQUA.WAKE_at n, 1, 7⟩
/-- AQUA.WAKE.WAKE_US: required activity, 10 µs units; 0 acts as 1 -/
def AQUA.WAKE_WAKE_US (n : Nat) : Fld := ⟨AQUA.WAKE_at n, 8, 8⟩
/-- The address of AQUA.RXOK (R221). -/
def AQUA.RXOK_at (n : Nat) : Nat := 0x200D0120 + 0x40 * n
/-- AQUA.RXOK.COUNT: RXOK: records OK. RXERR: headers discarded plus records BADCRC. TXOK: reports SENT. RPT: frames repeated … -/
def AQUA.RXOK_COUNT (n : Nat) : Fld := ⟨AQUA.RXOK_at n, 0, 32⟩
/-- The address of AQUA.RXERR (R221). -/
def AQUA.RXERR_at (n : Nat) : Nat := 0x200D0124 + 0x40 * n
/-- AQUA.RXERR.COUNT: RXOK: records OK. RXERR: headers discarded plus records BADCRC. TXOK: reports SENT. RPT: frames repeated … -/
def AQUA.RXERR_COUNT (n : Nat) : Fld := ⟨AQUA.RXERR_at n, 0, 32⟩
/-- The address of AQUA.TXOK (R221). -/
def AQUA.TXOK_at (n : Nat) : Nat := 0x200D0128 + 0x40 * n
/-- AQUA.TXOK.COUNT: RXOK: records OK. RXERR: headers discarded plus records BADCRC. TXOK: reports SENT. RPT: frames repeated … -/
def AQUA.TXOK_COUNT (n : Nat) : Fld := ⟨AQUA.TXOK_at n, 0, 32⟩
/-- The address of AQUA.RPT (R221). -/
def AQUA.RPT_at (n : Nat) : Nat := 0x200D012C + 0x40 * n
/-- AQUA.RPT.COUNT: RXOK: records OK. RXERR: headers discarded plus records BADCRC. TXOK: reports SENT. RPT: frames repeated … -/
def AQUA.RPT_COUNT (n : Nat) : Fld := ⟨AQUA.RPT_at n, 0, 32⟩
/-- The address of AQUA.RPTDROP (R221). -/
def AQUA.RPTDROP_at (n : Nat) : Nat := 0x200D0130 + 0x40 * n
/-- AQUA.RPTDROP.COUNT: RXOK: records OK. RXERR: headers discarded plus records BADCRC. TXOK: reports SENT. RPT: frames repeated … -/
def AQUA.RPTDROP_COUNT (n : Nat) : Fld := ⟨AQUA.RPTDROP_at n, 0, 32⟩
/-- The address of AQUA.DOWNS (R221). -/
def AQUA.DOWNS_at (n : Nat) : Nat := 0x200D0134 + 0x40 * n
/-- AQUA.DOWNS.COUNT: losses of UP and failed trainings, saturating -/
def AQUA.DOWNS_COUNT (n : Nat) : Fld := ⟨AQUA.DOWNS_at n, 0, 16⟩
/-- The address of AQUA.TRAIN_MS (R221). -/
def AQUA.TRAIN_MS_at (n : Nat) : Nat := 0x200D0138 + 0x40 * n
/-- AQUA.TRAIN_MS.MS: duration of the last successful training, W0 or R0 to UP, ms -/
def AQUA.TRAIN_MS_MS (n : Nat) : Fld := ⟨AQUA.TRAIN_MS_at n, 0, 16⟩

/-! ### CORES -/
/-- The address of CORES.CFG (R246). -/
def CORES.CFG_at : Nat := 0x20110000
/-- CORES.CFG.USER_S: Spindle modes (R230): bits 1:0 USER1, 3:2 USER2, 5:4 USER3 -/
def CORES.CFG_USER_S : Fld := ⟨CORES.CFG_at, 0, 6⟩
/-- CORES.CFG.USER_B: Bowl modes, as USER_S -/
def CORES.CFG_USER_B : Fld := ⟨CORES.CFG_at, 8, 6⟩
/-- The address of CORES.BOOT (R246). -/
def CORES.BOOT_at : Nat := 0x20110004
/-- CORES.BOOT.STATE: 0 LOADING, 1 DONE, 2 FAILED (R245) -/
def CORES.BOOT_STATE : Fld := ⟨CORES.BOOT_at, 0, 2⟩
/-- CORES.BOOT.SRC_S: source of SPINDLE_FW: 0 slot 0, 1 slot 1, 2 golden -/
def CORES.BOOT_SRC_S : Fld := ⟨CORES.BOOT_at, 2, 2⟩
/-- CORES.BOOT.SRC_B: source of BOWL_FW, as SRC_S -/
def CORES.BOOT_SRC_B : Fld := ⟨CORES.BOOT_at, 4, 2⟩
/-- CORES.BOOT.SRC_U: source of BOWL_UCODE, as SRC_S -/
def CORES.BOOT_SRC_U : Fld := ⟨CORES.BOOT_at, 6, 2⟩
/-- The address of CORES.EVENTS (R246). -/
def CORES.EVENTS_at : Nat := 0x20110008
/-- CORES.EVENTS.DOUBLE: bit s: slot s stopped in DOUBLE (R235) -/
def CORES.EVENTS_DOUBLE : Fld := ⟨CORES.EVENTS_at, 0, 12⟩
/-- CORES.EVENTS.PL_REFUSED: a loader write was refused -/
def CORES.EVENTS_PL_REFUSED : Fld := ⟨CORES.EVENTS_at, 12, 1⟩
/-- CORES.EVENTS.FALLBACK: the boot used an image other than the chosen slot -/
def CORES.EVENTS_FALLBACK : Fld := ⟨CORES.EVENTS_at, 13, 1⟩
/-- The address of CORES.PL_CTRL (R246). -/
def CORES.PL_CTRL_at : Nat := 0x20110010
/-- CORES.PL_CTRL.KIND: 0 Spindle, 1 Bowl -/
def CORES.PL_CTRL_KIND : Fld := ⟨CORES.PL_CTRL_at, 0, 1⟩
/-- CORES.PL_CTRL.TARGET: 0 ALL, 1 SPARE -/
def CORES.PL_CTRL_TARGET : Fld := ⟨CORES.PL_CTRL_at, 1, 1⟩
/-- CORES.PL_CTRL.MEM: 0 PROG, 1 DECODE, 2 UCODE; 3 is refused with BADMEM -/
def CORES.PL_CTRL_MEM : Fld := ⟨CORES.PL_CTRL_at, 2, 2⟩
/-- The address of CORES.PL_ADDR (R246). -/
def CORES.PL_ADDR_at : Nat := 0x20110014
/-- CORES.PL_ADDR.ADDR: word address; advances under R244 -/
def CORES.PL_ADDR_ADDR : Fld := ⟨CORES.PL_ADDR_at, 0, 16⟩
/-- The address of CORES.PL_DATA (R246). -/
def CORES.PL_DATA_at : Nat := 0x20110018
/-- CORES.PL_DATA.DATA: write: the word (PROG bits 11:0 or 13:0; DECODE as Instruction Encodings and Reference defines; UCODE bits … -/
def CORES.PL_DATA_DATA : Fld := ⟨CORES.PL_DATA_at, 0, 32⟩
/-- The address of CORES.PL_DATA_HI (R246). -/
def CORES.PL_DATA_HI_at : Nat := 0x2011001C
/-- CORES.PL_DATA_HI.DATA: microcode bits 47:32 for the next committing write; bits 47:32 of the word read by the latest PL_DATA read -/
def CORES.PL_DATA_HI_DATA : Fld := ⟨CORES.PL_DATA_HI_at, 0, 16⟩
/-- The address of CORES.PL_STATUS (R246). -/
def CORES.PL_STATUS_at : Nat := 0x20110020
/-- CORES.PL_STATUS.BUSY: a write to ALL is still being copied -/
def CORES.PL_STATUS_BUSY : Fld := ⟨CORES.PL_STATUS_at, 0, 1⟩
/-- CORES.PL_STATUS.REFUSED: reason for the latest refusal (R244); 0 if the latest write was accepted -/
def CORES.PL_STATUS_REFUSED : Fld := ⟨CORES.PL_STATUS_at, 1, 2⟩
/-- The address of CORES.PL_CHECK (R246). -/
def CORES.PL_CHECK_at : Nat := 0x20110024
/-- CORES.PL_CHECK.GO: 1 starts the comparison for PL_CTRL.KIND -/
def CORES.PL_CHECK_GO : Fld := ⟨CORES.PL_CHECK_at, 0, 1⟩
/-- CORES.PL_CHECK.DONE: the latest comparison has finished -/
def CORES.PL_CHECK_DONE : Fld := ⟨CORES.PL_CHECK_at, 1, 1⟩
/-- CORES.PL_CHECK.MATCH: every serving unit and the spare agree -/
def CORES.PL_CHECK_MATCH : Fld := ⟨CORES.PL_CHECK_at, 2, 1⟩
/-- The address of CORES.PL_CRC (R246). -/
def CORES.PL_CRC_at : Nat := 0x20110028
/-- CORES.PL_CRC.CRC: CRC-32 from the latest comparison (R244) -/
def CORES.PL_CRC_CRC : Fld := ⟨CORES.PL_CRC_at, 0, 32⟩
/-- The address of CORES.DBG_SEL (R246). -/
def CORES.DBG_SEL_at : Nat := 0x20110030
/-- CORES.DBG_SEL.SLOT: slot s -/
def CORES.DBG_SEL_SLOT : Fld := ⟨CORES.DBG_SEL_at, 0, 4⟩
/-- CORES.DBG_SEL.REG: 0–15 data registers (0–7 only for Spindle); 16–23 control registers 0–7; 24 PC; 32–47 return-stack entries … -/
def CORES.DBG_SEL_REG : Fld := ⟨CORES.DBG_SEL_at, 8, 6⟩
/-- CORES.DBG_SEL.ERR: the slot is not HALTED, or REG names nothing, so the latest debug access did nothing -/
def CORES.DBG_SEL_ERR : Fld := ⟨CORES.DBG_SEL_at, 14, 1⟩
/-- The address of CORES.DBG_DATA (R246). -/
def CORES.DBG_DATA_at : Nat := 0x20110034
/-- CORES.DBG_DATA.DATA: value of the selected item; a write stores it, with DBG_TAG for a data register, while the slot is HALTED -/
def CORES.DBG_DATA_DATA : Fld := ⟨CORES.DBG_DATA_at, 0, 32⟩
/-- The address of CORES.DBG_TAG (R246). -/
def CORES.DBG_TAG_at : Nat := 0x20110038
/-- CORES.DBG_TAG.TAG: tag of the selected data register; the tag that the next DBG_DATA write stores -/
def CORES.DBG_TAG_TAG : Fld := ⟨CORES.DBG_TAG_at, 0, 4⟩
/-- The address of CORES.IMGVER (R246). -/
def CORES.IMGVER_at (n : Nat) : Nat := 0x20110040 + 0x4 * n
/-- CORES.IMGVER.VALUE: IMGVER: major in 31:24, minor in 23:16, patch in 15:0. IFVER: provided interface version. FEATU: … -/
def CORES.IMGVER_VALUE (n : Nat) : Fld := ⟨CORES.IMGVER_at n, 0, 32⟩
/-- The address of CORES.IFVER (R246). -/
def CORES.IFVER_at (n : Nat) : Nat := 0x20110048 + 0x4 * n
/-- CORES.IFVER.VALUE: IMGVER: major in 31:24, minor in 23:16, patch in 15:0. IFVER: provided interface version. FEATU: … -/
def CORES.IFVER_VALUE (n : Nat) : Fld := ⟨CORES.IFVER_at n, 0, 32⟩
/-- The address of CORES.FEATU (R246). -/
def CORES.FEATU_at (n : Nat) : Nat := 0x20110050 + 0x4 * n
/-- CORES.FEATU.VALUE: IMGVER: major in 31:24, minor in 23:16, patch in 15:0. IFVER: provided interface version. FEATU: … -/
def CORES.FEATU_VALUE (n : Nat) : Fld := ⟨CORES.FEATU_at n, 0, 32⟩
/-- The address of CORES.CTRL (R246). -/
def CORES.CTRL_at (n : Nat) : Nat := 0x20110100 + 0x10 * n
/-- CORES.CTRL.START: run from the present PC; with RESET, run from 0x0000 -/
def CORES.CTRL_START (n : Nat) : Fld := ⟨CORES.CTRL_at n, 0, 1⟩
/-- CORES.CTRL.HALT: halt (R243) -/
def CORES.CTRL_HALT (n : Nat) : Fld := ⟨CORES.CTRL_at n, 1, 1⟩
/-- CORES.CTRL.STEP: step one instruction while HALTED (R242) -/
def CORES.CTRL_STEP (n : Nat) : Fld := ⟨CORES.CTRL_at n, 2, 1⟩
/-- CORES.CTRL.RESET: core reset of slot s (R243) -/
def CORES.CTRL_RESET (n : Nat) : Fld := ⟨CORES.CTRL_at n, 3, 1⟩
/-- CORES.CTRL.KICK: resume from WAIT, or set KICKED (R241) -/
def CORES.CTRL_KICK (n : Nat) : Fld := ⟨CORES.CTRL_at n, 4, 1⟩
/-- The address of CORES.SCFG (R246). -/
def CORES.SCFG_at (n : Nat) : Nat := 0x20110104 + 0x10 * n
/-- CORES.SCFG.RSTK_TRAP: 0 wrap, 1 trap (R236) -/
def CORES.SCFG_RSTK_TRAP (n : Nat) : Fld := ⟨CORES.SCFG_at n, 0, 1⟩
/-- CORES.SCFG.OVF_TRAP: 1 traps INT and FIX overflow (R229) -/
def CORES.SCFG_OVF_TRAP (n : Nat) : Fld := ⟨CORES.SCFG_at n, 1, 1⟩
/-- CORES.SCFG.BRK_EN: 1 enables BRK[s] -/
def CORES.SCFG_BRK_EN (n : Nat) : Fld := ⟨CORES.SCFG_at n, 2, 1⟩
/-- CORES.SCFG.WAKEF: wake Flume (R241) -/
def CORES.SCFG_WAKEF (n : Nat) : Fld := ⟨CORES.SCFG_at n, 8, 6⟩
/-- CORES.SCFG.WAKEF_EN: 1 lets WAKEF resume the slot -/
def CORES.SCFG_WAKEF_EN (n : Nat) : Fld := ⟨CORES.SCFG_at n, 14, 1⟩
/-- The address of CORES.STATUS (R246). -/
def CORES.STATUS_at (n : Nat) : Nat := 0x20110108 + 0x10 * n
/-- CORES.STATUS.STATE: R242 -/
def CORES.STATUS_STATE (n : Nat) : Fld := ⟨CORES.STATUS_at n, 0, 3⟩
/-- CORES.STATUS.INTRAP: FLAGS.INTRAP -/
def CORES.STATUS_INTRAP (n : Nat) : Fld := ⟨CORES.STATUS_at n, 3, 1⟩
/-- CORES.STATUS.INREP: FLAGS.INREP -/
def CORES.STATUS_INREP (n : Nat) : Fld := ⟨CORES.STATUS_at n, 4, 1⟩
/-- CORES.STATUS.KICKED: the KICKED latch (R241) -/
def CORES.STATUS_KICKED (n : Nat) : Fld := ⟨CORES.STATUS_at n, 5, 1⟩
/-- CORES.STATUS.BRKHIT: the slot halted at BRK[s]; cleared by START -/
def CORES.STATUS_BRKHIT (n : Nat) : Fld := ⟨CORES.STATUS_at n, 6, 1⟩
/-- CORES.STATUS.FLUME: Flume of the stall while STATE is 2 -/
def CORES.STATUS_FLUME (n : Nat) : Fld := ⟨CORES.STATUS_at n, 8, 6⟩
/-- CORES.STATUS.PC: PC at the instant of the read -/
def CORES.STATUS_PC (n : Nat) : Fld := ⟨CORES.STATUS_at n, 16, 16⟩
/-- The address of CORES.BRK (R246). -/
def CORES.BRK_at (n : Nat) : Nat := 0x2011010C + 0x10 * n
/-- CORES.BRK.ADDR: breakpoint address (R243) -/
def CORES.BRK_ADDR (n : Nat) : Fld := ⟨CORES.BRK_at n, 0, 16⟩

/-! ### CIST -/
/-- The address of CIST.CFG (R294). -/
def CIST.CFG_at : Nat := 0x200E0000
/-- CIST.CFG.DONE_FLUME: completion-word Flume (R285) -/
def CIST.CFG_DONE_FLUME : Fld := ⟨CIST.CFG_at, 0, 6⟩
/-- CIST.CFG.DONE_EN: 1 writes completion words -/
def CIST.CFG_DONE_EN : Fld := ⟨CIST.CFG_at, 6, 1⟩
/-- The address of CIST.STATUS (R294). -/
def CIST.STATUS_at : Nat := 0x200E0004
/-- CIST.STATUS.BUSY: an operation is running -/
def CIST.STATUS_BUSY : Fld := ⟨CIST.STATUS_at, 0, 1⟩
/-- CIST.STATUS.OP: running or suspended operation: 0 none, 1 PROGRAM, 2 ERASE, 3 OPT_WRITE, 4 LOCK -/
def CIST.STATUS_OP : Fld := ⟨CIST.STATUS_at, 1, 3⟩
/-- CIST.STATUS.SUSP: an erase is suspended (R286, R288) -/
def CIST.STATUS_SUSP : Fld := ⟨CIST.STATUS_at, 4, 1⟩
/-- CIST.STATUS.SUSP_PEND: a SUSPEND is held -/
def CIST.STATUS_SUSP_PEND : Fld := ⟨CIST.STATUS_at, 5, 1⟩
/-- CIST.STATUS.AUTO: supply hold in force (R287) -/
def CIST.STATUS_AUTO : Fld := ⟨CIST.STATUS_at, 6, 1⟩
/-- CIST.STATUS.JROT: journal sector change in progress (R289) -/
def CIST.STATUS_JROT : Fld := ⟨CIST.STATUS_at, 7, 1⟩
/-- CIST.STATUS.SEQ: 0 idle, 1 first unlock store seen, 2 unlocked, 3 awaiting further steps -/
def CIST.STATUS_SEQ : Fld := ⟨CIST.STATUS_at, 8, 2⟩
/-- CIST.STATUS.OPT_COPY: active copy: 0 A, 1 B -/
def CIST.STATUS_OPT_COPY : Fld := ⟨CIST.STATUS_at, 10, 1⟩
/-- CIST.STATUS.OPT_OK: a valid copy was loaded (R291) -/
def CIST.STATUS_OPT_OK : Fld := ⟨CIST.STATUS_at, 11, 1⟩
/-- The address of CIST.EVENTS (R294). -/
def CIST.EVENTS_at : Nat := 0x200E0008
/-- CIST.EVENTS.DONE: an operation ended -/
def CIST.EVENTS_DONE : Fld := ⟨CIST.EVENTS_at, 0, 1⟩
/-- CIST.EVENTS.ERR: a sequence or operation ended with an ERR code -/
def CIST.EVENTS_ERR : Fld := ⟨CIST.EVENTS_at, 1, 1⟩
/-- CIST.EVENTS.STRAY: a store was discarded (R280) -/
def CIST.EVENTS_STRAY : Fld := ⟨CIST.EVENTS_at, 2, 1⟩
/-- CIST.EVENTS.BUSYREAD: a load met a block in operation -/
def CIST.EVENTS_BUSYREAD : Fld := ⟨CIST.EVENTS_at, 3, 1⟩
/-- CIST.EVENTS.SUSPREAD: a load met an erase-suspended block -/
def CIST.EVENTS_SUSPREAD : Fld := ⟨CIST.EVENTS_at, 4, 1⟩
/-- CIST.EVENTS.INCREAD: a load met an INCOMPLETE block -/
def CIST.EVENTS_INCREAD : Fld := ⟨CIST.EVENTS_at, 5, 1⟩
/-- CIST.EVENTS.TORN: a load met a TORN line -/
def CIST.EVENTS_TORN : Fld := ⟨CIST.EVENTS_at, 6, 1⟩
/-- CIST.EVENTS.UNCORR: an uncorrectable line was read -/
def CIST.EVENTS_UNCORR : Fld := ⟨CIST.EVENTS_at, 7, 1⟩
/-- CIST.EVENTS.CORR: a line was corrected -/
def CIST.EVENTS_CORR : Fld := ⟨CIST.EVENTS_at, 8, 1⟩
/-- CIST.EVENTS.AUTOSUSP: a supply hold began (R287) -/
def CIST.EVENTS_AUTOSUSP : Fld := ⟨CIST.EVENTS_at, 9, 1⟩
/-- The address of CIST.ERR (R294). -/
def CIST.ERR_at : Nat := 0x200E000C
/-- CIST.ERR.CODE: latest error: 0 NONE, 1 SEQ, 2 BUSY, 3 REPROG, 4 SUSPBLK, 5 INCOMPLETE, 6 SUPPLY, 7 LOCKDIFF, 8 BADSRC, 9 … -/
def CIST.ERR_CODE : Fld := ⟨CIST.ERR_at, 0, 4⟩
/-- CIST.ERR.OP: command concerned, coded as STATUS.OP -/
def CIST.ERR_OP : Fld := ⟨CIST.ERR_at, 4, 3⟩
/-- The address of CIST.OPADDR (R294). -/
def CIST.OPADDR_at : Nat := 0x200E0010
/-- CIST.OPADDR.ADDR: OPADDR: target of the current or latest operation. ERRADDR: line address of the latest CORR, UNCORR or TORN -/
def CIST.OPADDR_ADDR : Fld := ⟨CIST.OPADDR_at, 0, 32⟩
/-- The address of CIST.ERRADDR (R294). -/
def CIST.ERRADDR_at : Nat := 0x200E0014
/-- CIST.ERRADDR.ADDR: OPADDR: target of the current or latest operation. ERRADDR: line address of the latest CORR, UNCORR or TORN -/
def CIST.ERRADDR_ADDR : Fld := ⟨CIST.ERRADDR_at, 0, 32⟩
/-- The address of CIST.ERASE_RUN (R294). -/
def CIST.ERASE_RUN_at : Nat := 0x200E0018
/-- CIST.ERASE_RUN.US: accumulated run of the current or latest erase, µs, saturating -/
def CIST.ERASE_RUN_US : Fld := ⟨CIST.ERASE_RUN_at, 0, 14⟩
/-- The address of CIST.OPT_SRC (R294). -/
def CIST.OPT_SRC_at : Nat := 0x200E001C
/-- CIST.OPT_SRC.ADDR: SRAM address of the OPT_WRITE image (R292) -/
def CIST.OPT_SRC_ADDR : Fld := ⟨CIST.OPT_SRC_at, 0, 32⟩
/-- The address of CIST.LOCK_MASK (R294). -/
def CIST.LOCK_MASK_at : Nat := 0x200E0020
/-- CIST.LOCK_MASK.LOCKS: lock-word cells for LOCK to set (R293) -/
def CIST.LOCK_MASK_LOCKS : Fld := ⟨CIST.LOCK_MASK_at, 0, 11⟩
/-- CIST.LOCK_MASK.TEST_CLOSED: 1: LOCK sets TEST_CLOSED -/
def CIST.LOCK_MASK_TEST_CLOSED : Fld := ⟨CIST.LOCK_MASK_at, 31, 1⟩
/-- The address of CIST.INCOMPLETE (R294). -/
def CIST.INCOMPLETE_at : Nat := 0x200E0024
/-- CIST.INCOMPLETE.COUNT: INCOMPLETE blocks; set by the journal scan (R289) and lowered by each completed ERASE of one -/
def CIST.INCOMPLETE_COUNT : Fld := ⟨CIST.INCOMPLETE_at, 0, 10⟩
/-- CIST.INCOMPLETE.BLOCK: lowest INCOMPLETE block -/
def CIST.INCOMPLETE_BLOCK : Fld := ⟨CIST.INCOMPLETE_at, 16, 9⟩
/-- CIST.INCOMPLETE.NONE: 1 if COUNT is 0 -/
def CIST.INCOMPLETE_NONE : Fld := ⟨CIST.INCOMPLETE_at, 31, 1⟩
/-- The address of CIST.CORRECTED (R294). -/
def CIST.CORRECTED_at : Nat := 0x200E0028
/-- CIST.CORRECTED.COUNT: line reads corrected, or found uncorrectable, saturating at 0xFFFF_FFFF -/
def CIST.CORRECTED_COUNT : Fld := ⟨CIST.CORRECTED_at, 0, 32⟩
/-- The address of CIST.UNCORR (R294). -/
def CIST.UNCORR_at : Nat := 0x200E002C
/-- CIST.UNCORR.COUNT: line reads corrected, or found uncorrectable, saturating at 0xFFFF_FFFF -/
def CIST.UNCORR_COUNT : Fld := ⟨CIST.UNCORR_at, 0, 32⟩
/-- The address of CIST.OPT_SEQ (R294). -/
def CIST.OPT_SEQ_at : Nat := 0x200E0030
/-- CIST.OPT_SEQ.SEQ: OPT_SEQ of the active copy (R291); advances at an OPT_WRITE commit -/
def CIST.OPT_SEQ_SEQ : Fld := ⟨CIST.OPT_SEQ_at, 0, 32⟩

/-! ### WELL -/
/-- The address of WELL.MODE (R315). -/
def WELL.MODE_at : Nat := 0x20010000
/-- WELL.MODE.TARGET: 0 RUN, 1 DOZE, 2 NAP, 3 HIBERNATE, 4 SHELF; 5–7 act as 0 (R296, R301) -/
def WELL.MODE_TARGET : Fld := ⟨WELL.MODE_at, 0, 3⟩
/-- WELL.MODE.HELD: value held during a transition (R301) -/
def WELL.MODE_HELD : Fld := ⟨WELL.MODE_at, 4, 3⟩
/-- WELL.MODE.HELD_V: HELD is valid -/
def WELL.MODE_HELD_V : Fld := ⟨WELL.MODE_at, 7, 1⟩
/-- The address of WELL.CFG (R315). -/
def WELL.CFG_at : Nat := 0x20010004
/-- WELL.CFG.REPLAY: 1 latches and replays edges in the entry window (R299) -/
def WELL.CFG_REPLAY : Fld := ⟨WELL.CFG_at, 0, 1⟩
/-- WELL.CFG.ENTRY_LIMIT: ticks a request may wait before DECLINED; 0 means no limit (R296) -/
def WELL.CFG_ENTRY_LIMIT : Fld := ⟨WELL.CFG_at, 16, 16⟩
/-- The address of WELL.STATUS (R315). -/
def WELL.STATUS_at : Nat := 0x20010008
/-- WELL.STATUS.STATE: 0 RUN, 1 DOZE, 2 NAP, 3 HIBERNATE, 4 SHELF, 5 ENTERING, 6 WAKING, 7 WAITING -/
def WELL.STATUS_STATE : Fld := ⟨WELL.STATUS_at, 0, 3⟩
/-- WELL.STATUS.SRC: VWELL source: 0 VMAIN, 1 VBAK (R308) -/
def WELL.STATUS_SRC : Fld := ⟨WELL.STATUS_at, 3, 1⟩
/-- WELL.STATUS.VMAIN_LOW: VMAIN below V_WARN (R310) -/
def WELL.STATUS_VMAIN_LOW : Fld := ⟨WELL.STATUS_at, 4, 1⟩
/-- WELL.STATUS.VBAK_LOW: VBAK below BAK_LOW -/
def WELL.STATUS_VBAK_LOW : Fld := ⟨WELL.STATUS_at, 5, 1⟩
/-- WELL.STATUS.FLOOR: the floor of R20 is in force -/
def WELL.STATUS_FLOOR : Fld := ⟨WELL.STATUS_at, 6, 1⟩
/-- WELL.STATUS.XTAL32_OK: XTAL_32K is stable -/
def WELL.STATUS_XTAL32_OK : Fld := ⟨WELL.STATUS_at, 7, 1⟩
/-- The address of WELL.EVENTS (R315). -/
def WELL.EVENTS_at : Nat := 0x2001000C
/-- WELL.EVENTS.WARN: VMAIN fell below V_WARN -/
def WELL.EVENTS_WARN : Fld := ⟨WELL.EVENTS_at, 0, 1⟩
/-- WELL.EVENTS.BAKLOW: VBAK fell below BAK_LOW -/
def WELL.EVENTS_BAKLOW : Fld := ⟨WELL.EVENTS_at, 1, 1⟩
/-- WELL.EVENTS.SUPERSEDED: a held request was replaced (R301) -/
def WELL.EVENTS_SUPERSEDED : Fld := ⟨WELL.EVENTS_at, 2, 1⟩
/-- WELL.EVENTS.DECLINED: a request was declined (R296) -/
def WELL.EVENTS_DECLINED : Fld := ⟨WELL.EVENTS_at, 3, 1⟩
/-- WELL.EVENTS.REPLAYED: a latched edge caused a wake (R299) -/
def WELL.EVENTS_REPLAYED : Fld := ⟨WELL.EVENTS_at, 4, 1⟩
/-- WELL.EVENTS.RETFAIL: a retained bank failed its signature (R305) -/
def WELL.EVENTS_RETFAIL : Fld := ⟨WELL.EVENTS_at, 5, 1⟩
/-- WELL.EVENTS.SRCSWITCH: the VWELL source changed -/
def WELL.EVENTS_SRCSWITCH : Fld := ⟨WELL.EVENTS_at, 6, 1⟩
/-- WELL.EVENTS.EARLY: a wake began at the end of entry (R300) -/
def WELL.EVENTS_EARLY : Fld := ⟨WELL.EVENTS_at, 7, 1⟩
/-- The address of WELL.WAKE_EN (R315). -/
def WELL.WAKE_EN_at : Nat := 0x20010010
/-- WELL.WAKE_EN.SOURCES: one bit per source (R302); PEND: sources fired in RUN (R297) -/
def WELL.WAKE_EN_SOURCES : Fld := ⟨WELL.WAKE_EN_at, 0, 16⟩
/-- The address of WELL.PEND (R315). -/
def WELL.PEND_at : Nat := 0x20010014
/-- WELL.PEND.SOURCES: one bit per source (R302); PEND: sources fired in RUN (R297) -/
def WELL.PEND_SOURCES : Fld := ⟨WELL.PEND_at, 0, 16⟩
/-- The address of WELL.WAKE_CAUSE (R315). -/
def WELL.WAKE_CAUSE_at : Nat := 0x20010018
/-- WELL.WAKE_CAUSE.SOURCES: enabled sources asserted or latched at the latest wake (R303) -/
def WELL.WAKE_CAUSE_SOURCES : Fld := ⟨WELL.WAKE_CAUSE_at, 0, 16⟩
/-- WELL.WAKE_CAUSE.FROM: state left, coded as TARGET -/
def WELL.WAKE_CAUSE_FROM : Fld := ⟨WELL.WAKE_CAUSE_at, 16, 3⟩
/-- WELL.WAKE_CAUSE.REPLAYED: the wake was a replay (R299) -/
def WELL.WAKE_CAUSE_REPLAYED : Fld := ⟨WELL.WAKE_CAUSE_at, 19, 1⟩
/-- WELL.WAKE_CAUSE.EARLY: R300 -/
def WELL.WAKE_CAUSE_EARLY : Fld := ⟨WELL.WAKE_CAUSE_at, 20, 1⟩
/-- WELL.WAKE_CAUSE.DECLINED: LB.0 last resumed by a decline, not a wake -/
def WELL.WAKE_CAUSE_DECLINED : Fld := ⟨WELL.WAKE_CAUSE_at, 21, 1⟩
/-- The address of WELL.RESET_CAUSE (R315). -/
def WELL.RESET_CAUSE_at : Nat := 0x2001001C
/-- WELL.RESET_CAUSE.WHY: cause of the latest boot: 1 C, 2 W, 3 B, 4 P, 5 S, 6 F, 7 wake from HIBERNATE, 8 wake from SHELF -/
def WELL.RESET_CAUSE_WHY : Fld := ⟨WELL.RESET_CAUSE_at, 0, 4⟩
/-- WELL.RESET_CAUSE.TIME_LOST: the TICK and calendar restarted at C or W -/
def WELL.RESET_CAUSE_TIME_LOST : Fld := ⟨WELL.RESET_CAUSE_at, 8, 1⟩
/-- The address of WELL.SUPPLY (R315). -/
def WELL.SUPPLY_at : Nat := 0x20010020
/-- WELL.SUPPLY.WARN: V_WARN in 10 mV units above 2.00 V, 50–150; values outside act as the nearer end -/
def WELL.SUPPLY_WARN : Fld := ⟨WELL.SUPPLY_at, 0, 8⟩
/-- WELL.SUPPLY.VMAIN: VMAIN in 25 mV units, measured every 1,024 ticks and at each WARN -/
def WELL.SUPPLY_VMAIN : Fld := ⟨WELL.SUPPLY_at, 8, 8⟩
/-- WELL.SUPPLY.VBAK: VBAK, as VMAIN -/
def WELL.SUPPLY_VBAK : Fld := ⟨WELL.SUPPLY_at, 16, 8⟩
/-- The address of WELL.VCORE (R315). -/
def WELL.VCORE_at : Nat := 0x20010024
/-- WELL.VCORE.TARGET: VCORE target in 10 mV units, 45–90; values outside act as the nearer end -/
def WELL.VCORE_TARGET : Fld := ⟨WELL.VCORE_at, 0, 7⟩
/-- WELL.VCORE.EFFECTIVE: VCORE in force, 10 mV units -/
def WELL.VCORE_EFFECTIVE : Fld := ⟨WELL.VCORE_at, 8, 7⟩
/-- WELL.VCORE.FLOORED: the target is raised to 0.62 V (R20) -/
def WELL.VCORE_FLOORED : Fld := ⟨WELL.VCORE_at, 15, 1⟩
/-- The address of WELL.GPWAKE (R315). -/
def WELL.GPWAKE_at : Nat := 0x20010028
/-- WELL.GPWAKE.PIN0: GPIO pin of GPW0, 0–23; values 24–31 disable the source -/
def WELL.GPWAKE_PIN0 : Fld := ⟨WELL.GPWAKE_at, 0, 5⟩
/-- WELL.GPWAKE.LVL0: 0 edge, 1 level -/
def WELL.GPWAKE_LVL0 : Fld := ⟨WELL.GPWAKE_at, 5, 1⟩
/-- WELL.GPWAKE.POL0: 0 falling or low, 1 rising or high -/
def WELL.GPWAKE_POL0 : Fld := ⟨WELL.GPWAKE_at, 6, 1⟩
/-- WELL.GPWAKE.PIN1: as PIN0, for GPW1 -/
def WELL.GPWAKE_PIN1 : Fld := ⟨WELL.GPWAKE_at, 8, 5⟩
/-- WELL.GPWAKE.LVL1: as LVL0 -/
def WELL.GPWAKE_LVL1 : Fld := ⟨WELL.GPWAKE_at, 13, 1⟩
/-- WELL.GPWAKE.POL1: as POL0 -/
def WELL.GPWAKE_POL1 : Fld := ⟨WELL.GPWAKE_at, 14, 1⟩
/-- The address of WELL.RETAIN (R315). -/
def WELL.RETAIN_at (n : Nat) : Nat := 0x20010030 + 0x4 * n
/-- WELL.RETAIN.BANKS: RETAIN: banks retained, mapped as R275; RETAIN.3 reads 0 and ignores writes. RETFAIL: banks that failed at … -/
def WELL.RETAIN_BANKS (n : Nat) : Fld := ⟨WELL.RETAIN_at n, 0, 32⟩
/-- The address of WELL.RETFAIL (R315). -/
def WELL.RETFAIL_at (n : Nat) : Nat := 0x20010040 + 0x4 * n
/-- WELL.RETFAIL.BANKS: RETAIN: banks retained, mapped as R275; RETAIN.3 reads 0 and ignores writes. RETFAIL: banks that failed at … -/
def WELL.RETFAIL_BANKS (n : Nat) : Fld := ⟨WELL.RETFAIL_at n, 0, 32⟩

/-! ### RIPPLE -/
/-- The address of RIPPLE.CTRL (R316). -/
def RIPPLE.CTRL_at : Nat := 0x20090000
/-- RIPPLE.CTRL.EN_A: 1 powers receiver A in every state but SHELF -/
def RIPPLE.CTRL_EN_A : Fld := ⟨RIPPLE.CTRL_at, 0, 1⟩
/-- RIPPLE.CTRL.EN_B: as EN_A, for receiver B -/
def RIPPLE.CTRL_EN_B : Fld := ⟨RIPPLE.CTRL_at, 1, 1⟩
/-- The address of RIPPLE.EVENTS (R316). -/
def RIPPLE.EVENTS_at : Nat := 0x20090004
/-- RIPPLE.EVENTS.ACCEPT_A: receiver A accepted a call (R306) -/
def RIPPLE.EVENTS_ACCEPT_A : Fld := ⟨RIPPLE.EVENTS_at, 0, 1⟩
/-- RIPPLE.EVENTS.ACCEPT_B: as ACCEPT_A, for receiver B -/
def RIPPLE.EVENTS_ACCEPT_B : Fld := ⟨RIPPLE.EVENTS_at, 1, 1⟩
/-- The address of RIPPLE.CFG (R316). -/
def RIPPLE.CFG_at (n : Nat) : Nat := 0x20090100 + 0x20 * n
/-- RIPPLE.CFG.FREQ: centre frequency in 100 kHz units, 4,100–9,600; values outside act as the nearer end -/
def RIPPLE.CFG_FREQ (n : Nat) : Fld := ⟨RIPPLE.CFG_at n, 0, 14⟩
/-- RIPPLE.CFG.RATE: 0 1 kbit/s, 1 8 kbit/s -/
def RIPPLE.CFG_RATE (n : Nat) : Fld := ⟨RIPPLE.CFG_at n, 14, 1⟩
/-- RIPPLE.CFG.A0_EN: match ADDR0 -/
def RIPPLE.CFG_A0_EN (n : Nat) : Fld := ⟨RIPPLE.CFG_at n, 15, 1⟩
/-- RIPPLE.CFG.A1_EN: match ADDR1 -/
def RIPPLE.CFG_A1_EN (n : Nat) : Fld := ⟨RIPPLE.CFG_at n, 16, 1⟩
/-- RIPPLE.CFG.BC_EN: match broadcast 0xFF_FFFF -/
def RIPPLE.CFG_BC_EN (n : Nat) : Fld := ⟨RIPPLE.CFG_at n, 17, 1⟩
/-- RIPPLE.CFG.PAT_EN: pattern path -/
def RIPPLE.CFG_PAT_EN (n : Nat) : Fld := ⟨RIPPLE.CFG_at n, 18, 1⟩
/-- RIPPLE.CFG.ACT_EN: activity path -/
def RIPPLE.CFG_ACT_EN (n : Nat) : Fld := ⟨RIPPLE.CFG_at n, 19, 1⟩
/-- The address of RIPPLE.ADDR0 (R316). -/
def RIPPLE.ADDR0_at (n : Nat) : Nat := 0x20090104 + 0x20 * n
/-- RIPPLE.ADDR0.ADDR: wake address -/
def RIPPLE.ADDR0_ADDR (n : Nat) : Fld := ⟨RIPPLE.ADDR0_at n, 0, 24⟩
/-- The address of RIPPLE.ADDR1 (R316). -/
def RIPPLE.ADDR1_at (n : Nat) : Nat := 0x20090108 + 0x20 * n
/-- RIPPLE.ADDR1.ADDR: wake address -/
def RIPPLE.ADDR1_ADDR (n : Nat) : Fld := ⟨RIPPLE.ADDR1_at n, 0, 24⟩
/-- The address of RIPPLE.FB (R316). -/
def RIPPLE.FB_at (n : Nat) : Nat := 0x2009010C + 0x20 * n
/-- RIPPLE.FB.ACT_MS: activity slots required, 1–255; 0 acts as 1 -/
def RIPPLE.FB_ACT_MS (n : Nat) : Fld := ⟨RIPPLE.FB_at n, 0, 8⟩
/-- RIPPLE.FB.ACT_THR: activity threshold, signed dBm, −82 to −40 (0xBA = −70); values outside act as the nearer end -/
def RIPPLE.FB_ACT_THR (n : Nat) : Fld := ⟨RIPPLE.FB_at n, 8, 8⟩
/-- The address of RIPPLE.STATUS (R316). -/
def RIPPLE.STATUS_at (n : Nat) : Nat := 0x20090110 + 0x20 * n
/-- RIPPLE.STATUS.PATH: path of the latest acceptance (R306); 0 if none -/
def RIPPLE.STATUS_PATH (n : Nat) : Fld := ⟨RIPPLE.STATUS_at n, 0, 3⟩
/-- RIPPLE.STATUS.BUSY: a call is being decoded -/
def RIPPLE.STATUS_BUSY (n : Nat) : Fld := ⟨RIPPLE.STATUS_at n, 3, 1⟩
/-- The address of RIPPLE.STAMP (R316). -/
def RIPPLE.STAMP_at (n : Nat) : Nat := 0x20090114 + 0x20 * n
/-- RIPPLE.STAMP.TICK: TICK[31:0] of the latest acceptance (R306) -/
def RIPPLE.STAMP_TICK (n : Nat) : Fld := ⟨RIPPLE.STAMP_at n, 0, 32⟩
/-- The address of RIPPLE.CALLS (R316). -/
def RIPPLE.CALLS_at (n : Nat) : Nat := 0x20090118 + 0x20 * n
/-- RIPPLE.CALLS.ACCEPTED: calls accepted by any path, saturating -/
def RIPPLE.CALLS_ACCEPTED (n : Nat) : Fld := ⟨RIPPLE.CALLS_at n, 0, 16⟩
/-- RIPPLE.CALLS.CRCFAIL: calls whose CRC failed, saturating -/
def RIPPLE.CALLS_CRCFAIL (n : Nat) : Fld := ⟨RIPPLE.CALLS_at n, 16, 16⟩

/-! ### CLEP -/
/-- The address of CLEP.EVENTS (R332). -/
def CLEP.EVENTS_at : Nat := 0x20020000
/-- CLEP.EVENTS.VOTE: a TICK copy was outvoted (R317) -/
def CLEP.EVENTS_VOTE : Fld := ⟨CLEP.EVENTS_at, 0, 1⟩
/-- CLEP.EVENTS.OWNED: a write to a Lathe monitor was ignored, through DMON[m] or DMON_DISARM (R324) -/
def CLEP.EVENTS_OWNED : Fld := ⟨CLEP.EVENTS_at, 1, 1⟩
/-- CLEP.EVENTS.MISS: a monitor expired (R325) -/
def CLEP.EVENTS_MISS : Fld := ⟨CLEP.EVENTS_at, 2, 1⟩
/-- The address of CLEP.TICK_LO (R332). -/
def CLEP.TICK_LO_at : Nat := 0x20020008
/-- CLEP.TICK_LO.TICK: TICK[31:0]; a read captures TICK_HI_SNAP (R319) -/
def CLEP.TICK_LO_TICK : Fld := ⟨CLEP.TICK_LO_at, 0, 32⟩
/-- The address of CLEP.TICK_HI_SNAP (R332). -/
def CLEP.TICK_HI_SNAP_at : Nat := 0x2002000C
/-- CLEP.TICK_HI_SNAP.HI: TICK[47:32] at the latest TICK_LO read -/
def CLEP.TICK_HI_SNAP_HI : Fld := ⟨CLEP.TICK_HI_SNAP_at, 0, 16⟩
/-- CLEP.TICK_HI_SNAP.FRAC: fraction at that read -/
def CLEP.TICK_HI_SNAP_FRAC : Fld := ⟨CLEP.TICK_HI_SNAP_at, 16, 10⟩
/-- The address of CLEP.TICK_HI (R332). -/
def CLEP.TICK_HI_at : Nat := 0x20020010
/-- CLEP.TICK_HI.HI: live TICK[47:32] -/
def CLEP.TICK_HI_HI : Fld := ⟨CLEP.TICK_HI_at, 0, 16⟩
/-- The address of CLEP.TRIM (R332). -/
def CLEP.TRIM_at : Nat := 0x20020020
/-- CLEP.TRIM.VALUE: signed, 1/32 ppm, −16,384 to 16,384; values outside act as the nearer end (R318) -/
def CLEP.TRIM_VALUE : Fld := ⟨CLEP.TRIM_at, 0, 16⟩
/-- The address of CLEP.PROPOSAL (R332). -/
def CLEP.PROPOSAL_at : Nat := 0x2002002C
/-- CLEP.PROPOSAL.VALUE: proposed TRIM (R330) -/
def CLEP.PROPOSAL_VALUE : Fld := ⟨CLEP.PROPOSAL_at, 0, 16⟩
/-- The address of CLEP.MEAS_CTRL (R332). -/
def CLEP.MEAS_CTRL_at : Nat := 0x20020024
/-- CLEP.MEAS_CTRL.GO: starts or restarts a measurement -/
def CLEP.MEAS_CTRL_GO : Fld := ⟨CLEP.MEAS_CTRL_at, 0, 1⟩
/-- CLEP.MEAS_CTRL.SRC: 0 MAINS_REF, 1 network marks -/
def CLEP.MEAS_CTRL_SRC : Fld := ⟨CLEP.MEAS_CTRL_at, 1, 1⟩
/-- CLEP.MEAS_CTRL.HZ60: mains nominal 60 Hz -/
def CLEP.MEAS_CTRL_HZ60 : Fld := ⟨CLEP.MEAS_CTRL_at, 2, 1⟩
/-- CLEP.MEAS_CTRL.AUTO: automatic apply (R331) -/
def CLEP.MEAS_CTRL_AUTO : Fld := ⟨CLEP.MEAS_CTRL_at, 3, 1⟩
/-- CLEP.MEAS_CTRL.APPROVE: copies PROPOSAL into TRIM when MEAS_STATUS is DONE -/
def CLEP.MEAS_CTRL_APPROVE : Fld := ⟨CLEP.MEAS_CTRL_at, 4, 1⟩
/-- CLEP.MEAS_CTRL.MAXSTEP: automatic-apply limit, ¼ ppm units -/
def CLEP.MEAS_CTRL_MAXSTEP : Fld := ⟨CLEP.MEAS_CTRL_at, 8, 8⟩
/-- CLEP.MEAS_CTRL.WINDOW: window, s; values below 16 act as 16 -/
def CLEP.MEAS_CTRL_WINDOW : Fld := ⟨CLEP.MEAS_CTRL_at, 16, 16⟩
/-- The address of CLEP.MEAS_STATUS (R332). -/
def CLEP.MEAS_STATUS_at : Nat := 0x20020028
/-- CLEP.MEAS_STATUS.STATE: 0 IDLE, 1 RUN, 2 DONE, 3 FAILED -/
def CLEP.MEAS_STATUS_STATE : Fld := ⟨CLEP.MEAS_STATUS_at, 0, 2⟩
/-- CLEP.MEAS_STATUS.WHY: for FAILED: 1 NOREF, 2 RANGE, 3 ABORTED -/
def CLEP.MEAS_STATUS_WHY : Fld := ⟨CLEP.MEAS_STATUS_at, 2, 2⟩
/-- CLEP.MEAS_STATUS.APPLIED: AUTO copied the proposal -/
def CLEP.MEAS_STATUS_APPLIED : Fld := ⟨CLEP.MEAS_STATUS_at, 4, 1⟩
/-- The address of CLEP.NET_TX (R332). -/
def CLEP.NET_TX_at : Nat := 0x20020030
/-- CLEP.NET_TX.TICKS: NET_TX: network time of the mark, ticks. LOC_RX: local TICK[31:0] of the mark; a write commits the mark (R330) -/
def CLEP.NET_TX_TICKS : Fld := ⟨CLEP.NET_TX_at, 0, 32⟩
/-- The address of CLEP.LOC_RX (R332). -/
def CLEP.LOC_RX_at : Nat := 0x20020034
/-- CLEP.LOC_RX.TICKS: NET_TX: network time of the mark, ticks. LOC_RX: local TICK[31:0] of the mark; a write commits the mark (R330) -/
def CLEP.LOC_RX_TICKS : Fld := ⟨CLEP.LOC_RX_at, 0, 32⟩
/-- The address of CLEP.DMON_ARMED (R332). -/
def CLEP.DMON_ARMED_at (n : Nat) : Nat := 0x20020080 + 0x4 * n
/-- CLEP.DMON_ARMED.ARMED: bit j: DMON[j] (LO) or DMON[32 + j] (HI) is armed -/
def CLEP.DMON_ARMED_ARMED (n : Nat) : Fld := ⟨CLEP.DMON_ARMED_at n, 0, 32⟩
/-- The address of CLEP.DMON_DISARM (R332). -/
def CLEP.DMON_DISARM_at (n : Nat) : Nat := 0x20020088 + 0x4 * n
/-- CLEP.DMON_DISARM.DISARM: 1 disarms the monitor; ignored, with EVENTS.OWNED set, for a monitor assigned to Lathe (R324) -/
def CLEP.DMON_DISARM_DISARM (n : Nat) : Fld := ⟨CLEP.DMON_DISARM_at n, 0, 32⟩
/-- The address of CLEP.DMON_MISSES (R332). -/
def CLEP.DMON_MISSES_at : Nat := 0x20020090
/-- CLEP.DMON_MISSES.COUNT: expiries, saturating (R325) -/
def CLEP.DMON_MISSES_COUNT : Fld := ⟨CLEP.DMON_MISSES_at, 0, 16⟩
/-- The address of CLEP.DMON (R332). -/
def CLEP.DMON_at (n : Nat) : Nat := 0x20020400 + 0x4 * n
/-- CLEP.DMON.DEADLINE: a write arms with this deadline (R324); a read gives the deadline last armed -/
def CLEP.DMON_DEADLINE (n : Nat) : Fld := ⟨CLEP.DMON_at n, 0, 32⟩

/-! ### CAL -/
/-- The address of CAL.SUBSEC (R332). -/
def CAL.SUBSEC_at : Nat := 0x20020040
/-- CAL.SUBSEC.SUBSEC: ticks into the second; a read captures both snapshots (R328) -/
def CAL.SUBSEC_SUBSEC : Fld := ⟨CAL.SUBSEC_at, 0, 15⟩
/-- The address of CAL.TIME (R332). -/
def CAL.TIME_at : Nat := 0x20020044
/-- CAL.TIME.SEC: 0–59 (R327) -/
def CAL.TIME_SEC : Fld := ⟨CAL.TIME_at, 0, 6⟩
/-- CAL.TIME.MIN: 0–59 -/
def CAL.TIME_MIN : Fld := ⟨CAL.TIME_at, 8, 6⟩
/-- CAL.TIME.HOUR: 0–23 -/
def CAL.TIME_HOUR : Fld := ⟨CAL.TIME_at, 16, 5⟩
/-- The address of CAL.TIME_SNAP (R332). -/
def CAL.TIME_SNAP_at : Nat := 0x20020050
/-- CAL.TIME_SNAP.SEC: 0–59 (R327) -/
def CAL.TIME_SNAP_SEC : Fld := ⟨CAL.TIME_SNAP_at, 0, 6⟩
/-- CAL.TIME_SNAP.MIN: 0–59 -/
def CAL.TIME_SNAP_MIN : Fld := ⟨CAL.TIME_SNAP_at, 8, 6⟩
/-- CAL.TIME_SNAP.HOUR: 0–23 -/
def CAL.TIME_SNAP_HOUR : Fld := ⟨CAL.TIME_SNAP_at, 16, 5⟩
/-- The address of CAL.DATE (R332). -/
def CAL.DATE_at : Nat := 0x20020048
/-- CAL.DATE.DAY: 1 to the month's length (R326) -/
def CAL.DATE_DAY : Fld := ⟨CAL.DATE_at, 0, 5⟩
/-- CAL.DATE.MONTH: 1–12 -/
def CAL.DATE_MONTH : Fld := ⟨CAL.DATE_at, 8, 4⟩
/-- CAL.DATE.YEAR: 0–9,999 -/
def CAL.DATE_YEAR : Fld := ⟨CAL.DATE_at, 16, 14⟩
/-- The address of CAL.DATE_SNAP (R332). -/
def CAL.DATE_SNAP_at : Nat := 0x20020054
/-- CAL.DATE_SNAP.DAY: 1 to the month's length (R326) -/
def CAL.DATE_SNAP_DAY : Fld := ⟨CAL.DATE_SNAP_at, 0, 5⟩
/-- CAL.DATE_SNAP.MONTH: 1–12 -/
def CAL.DATE_SNAP_MONTH : Fld := ⟨CAL.DATE_SNAP_at, 8, 4⟩
/-- CAL.DATE_SNAP.YEAR: 0–9,999 -/
def CAL.DATE_SNAP_YEAR : Fld := ⟨CAL.DATE_SNAP_at, 16, 14⟩
/-- The address of CAL.WEEKDAY (R332). -/
def CAL.WEEKDAY_at : Nat := 0x2002004C
/-- CAL.WEEKDAY.DAY: 0–6, free counter (R326) -/
def CAL.WEEKDAY_DAY : Fld := ⟨CAL.WEEKDAY_at, 0, 3⟩
/-- The address of CAL.ALARM (R332). -/
def CAL.ALARM_at : Nat := 0x20020058
/-- CAL.ALARM.SEC: second to match -/
def CAL.ALARM_SEC : Fld := ⟨CAL.ALARM_at, 0, 6⟩
/-- CAL.ALARM.SEC_EN: match SEC -/
def CAL.ALARM_SEC_EN : Fld := ⟨CAL.ALARM_at, 6, 1⟩
/-- CAL.ALARM.MIN: minute to match -/
def CAL.ALARM_MIN : Fld := ⟨CAL.ALARM_at, 8, 6⟩
/-- CAL.ALARM.MIN_EN: match MIN -/
def CAL.ALARM_MIN_EN : Fld := ⟨CAL.ALARM_at, 14, 1⟩
/-- CAL.ALARM.HOUR: hour to match -/
def CAL.ALARM_HOUR : Fld := ⟨CAL.ALARM_at, 16, 5⟩
/-- CAL.ALARM.HOUR_EN: match HOUR -/
def CAL.ALARM_HOUR_EN : Fld := ⟨CAL.ALARM_at, 21, 1⟩
/-- CAL.ALARM.DAY: day of month to match -/
def CAL.ALARM_DAY : Fld := ⟨CAL.ALARM_at, 24, 5⟩
/-- CAL.ALARM.DAY_EN: match DAY -/
def CAL.ALARM_DAY_EN : Fld := ⟨CAL.ALARM_at, 29, 1⟩
/-- The address of CAL.STATUS (R332). -/
def CAL.STATUS_at : Nat := 0x2002005C
/-- CAL.STATUS.REJECT: a calendar write was refused (R327) -/
def CAL.STATUS_REJECT : Fld := ⟨CAL.STATUS_at, 0, 1⟩
/-- CAL.STATUS.WRAP: the calendar rolled past 9999-12-31 -/
def CAL.STATUS_WRAP : Fld := ⟨CAL.STATUS_at, 1, 1⟩
/-- CAL.STATUS.ALARM: the alarm fired (R329) -/
def CAL.STATUS_ALARM : Fld := ⟨CAL.STATUS_at, 2, 1⟩

/-! ### TIM -/
/-- The address of TIM.CFG (R332). -/
def TIM.CFG_at (n : Nat) : Nat := 0x20020100 + 0x20 * n
/-- TIM.CFG.CMP_EN: comparator enabled (R322) -/
def TIM.CFG_CMP_EN (n : Nat) : Fld := ⟨TIM.CFG_at n, 0, 1⟩
/-- TIM.CFG.SRC: 0 TICK, 1 FINE (R320) -/
def TIM.CFG_SRC (n : Nat) : Fld := ⟨TIM.CFG_at n, 1, 1⟩
/-- TIM.CFG.WAKE: a match asserts the TIMER wake source -/
def TIM.CFG_WAKE (n : Nat) : Fld := ⟨TIM.CFG_at n, 2, 1⟩
/-- TIM.CFG.CATCHUP: R323 -/
def TIM.CFG_CATCHUP (n : Nat) : Fld := ⟨TIM.CFG_at n, 3, 1⟩
/-- TIM.CFG.STOP: a match clears CMP_EN -/
def TIM.CFG_STOP (n : Nat) : Fld := ⟨TIM.CFG_at n, 4, 1⟩
/-- The address of TIM.COUNT (R332). -/
def TIM.COUNT_at (n : Nat) : Nat := 0x20020104 + 0x20 * n
/-- TIM.COUNT.COUNT: counter (R320, R321) -/
def TIM.COUNT_COUNT (n : Nat) : Fld := ⟨TIM.COUNT_at n, 0, 32⟩
/-- The address of TIM.PERIOD (R332). -/
def TIM.PERIOD_at (n : Nat) : Nat := 0x20020108 + 0x20 * n
/-- TIM.PERIOD.PERIOD: last value before the wrap to 0 -/
def TIM.PERIOD_PERIOD (n : Nat) : Fld := ⟨TIM.PERIOD_at n, 0, 32⟩
/-- The address of TIM.CMP (R332). -/
def TIM.CMP_at (n : Nat) : Nat := 0x2002010C + 0x20 * n
/-- TIM.CMP.CMP: live compare value (R323) -/
def TIM.CMP_CMP (n : Nat) : Fld := ⟨TIM.CMP_at n, 0, 32⟩
/-- The address of TIM.INTERVAL (R332). -/
def TIM.INTERVAL_at (n : Nat) : Nat := 0x20020110 + 0x20 * n
/-- TIM.INTERVAL.INTERVAL: added to CMP on each match -/
def TIM.INTERVAL_INTERVAL (n : Nat) : Fld := ⟨TIM.INTERVAL_at n, 0, 32⟩
/-- The address of TIM.ARM (R332). -/
def TIM.ARM_at (n : Nat) : Nat := 0x20020114 + 0x20 * n
/-- TIM.ARM.DELTA: sets CMP relative to COUNT (R323) -/
def TIM.ARM_DELTA (n : Nat) : Fld := ⟨TIM.ARM_at n, 0, 32⟩
/-- The address of TIM.STATUS (R332). -/
def TIM.STATUS_at (n : Nat) : Nat := 0x20020118 + 0x20 * n
/-- TIM.STATUS.MATCH: a match occurred -/
def TIM.STATUS_MATCH (n : Nat) : Fld := ⟨TIM.STATUS_at n, 0, 1⟩
/-- TIM.STATUS.PASSED: a run-on wrapped (R321) -/
def TIM.STATUS_PASSED (n : Nat) : Fld := ⟨TIM.STATUS_at n, 1, 1⟩
/-- TIM.STATUS.BEHIND: a CMP write landed behind COUNT (R323) -/
def TIM.STATUS_BEHIND (n : Nat) : Fld := ⟨TIM.STATUS_at n, 2, 1⟩
/-- TIM.STATUS.FINE_SUB: FINE substituted from TICK (R320) -/
def TIM.STATUS_FINE_SUB (n : Nat) : Fld := ⟨TIM.STATUS_at n, 3, 1⟩
/-- TIM.STATUS.MATCHES: matches, modulo 256 -/
def TIM.STATUS_MATCHES (n : Nat) : Fld := ⟨TIM.STATUS_at n, 8, 8⟩

/-! ### SLUICE -/
/-- The address of SLUICE.STATUS (R358). -/
def SLUICE.STATUS_at : Nat := 0x20030000
/-- SLUICE.STATUS.FATAL: FATAL latch (R354) -/
def SLUICE.STATUS_FATAL : Fld := ⟨SLUICE.STATUS_at, 0, 1⟩
/-- SLUICE.STATUS.FACTORY: factory test mode (R357) -/
def SLUICE.STATUS_FACTORY : Fld := ⟨SLUICE.STATUS_at, 1, 1⟩
/-- SLUICE.STATUS.HB_LEVEL: present level of HEARTBEAT -/
def SLUICE.STATUS_HB_LEVEL : Fld := ⟨SLUICE.STATUS_at, 2, 1⟩
/-- SLUICE.STATUS.HB_RUN: HEARTBEAT is toggling -/
def SLUICE.STATUS_HB_RUN : Fld := ⟨SLUICE.STATUS_at, 3, 1⟩
/-- SLUICE.STATUS.F_COUNT: F resets counted within the sliding FATAL_WINDOW (R353), saturating at 15 -/
def SLUICE.STATUS_F_COUNT : Fld := ⟨SLUICE.STATUS_at, 4, 4⟩
/-- SLUICE.STATUS.STOPPED: Sluice is in STOPPED (R353) -/
def SLUICE.STATUS_STOPPED : Fld := ⟨SLUICE.STATUS_at, 8, 1⟩
/-- The address of SLUICE.EVENTS (R358). -/
def SLUICE.EVENTS_at : Nat := 0x20030004
/-- SLUICE.EVENTS.CORR: a CORRECTED fault occurred -/
def SLUICE.EVENTS_CORR : Fld := ⟨SLUICE.EVENTS_at, 0, 1⟩
/-- SLUICE.EVENTS.CONT: a CONTAINED fault occurred -/
def SLUICE.EVENTS_CONT : Fld := ⟨SLUICE.EVENTS_at, 1, 1⟩
/-- SLUICE.EVENTS.FATAL: a FATAL fault occurred -/
def SLUICE.EVENTS_FATAL : Fld := ⟨SLUICE.EVENTS_at, 2, 1⟩
/-- SLUICE.EVENTS.LOGLOST: a record was dropped or overwritten (R334) -/
def SLUICE.EVENTS_LOGLOST : Fld := ⟨SLUICE.EVENTS_at, 3, 1⟩
/-- SLUICE.EVENTS.HB_STOP: HEARTBEAT stopped toggling -/
def SLUICE.EVENTS_HB_STOP : Fld := ⟨SLUICE.EVENTS_at, 4, 1⟩
/-- SLUICE.EVENTS.HB_FOREIGN: HB_FEED was written by a master other than LB.0 -/
def SLUICE.EVENTS_HB_FOREIGN : Fld := ⟨SLUICE.EVENTS_at, 5, 1⟩
/-- The address of SLUICE.CFG (R358). -/
def SLUICE.CFG_at : Nat := 0x20030008
/-- SLUICE.CFG.FATAL_MAX: F resets allowed per window, 1–15; 0 acts as 1 (R353) -/
def SLUICE.CFG_FATAL_MAX : Fld := ⟨SLUICE.CFG_at, 0, 4⟩
/-- SLUICE.CFG.FATAL_WINDOW: window in minutes; 0 acts as 1 -/
def SLUICE.CFG_FATAL_WINDOW : Fld := ⟨SLUICE.CFG_at, 16, 16⟩
/-- The address of SLUICE.CORR_COUNT (R358). -/
def SLUICE.CORR_COUNT_at : Nat := 0x2003000C
/-- SLUICE.CORR_COUNT.COUNT: faults of the class, logged or not, saturating at 0xFFFF_FFFF -/
def SLUICE.CORR_COUNT_COUNT : Fld := ⟨SLUICE.CORR_COUNT_at, 0, 32⟩
/-- The address of SLUICE.CONT_COUNT (R358). -/
def SLUICE.CONT_COUNT_at : Nat := 0x20030010
/-- SLUICE.CONT_COUNT.COUNT: faults of the class, logged or not, saturating at 0xFFFF_FFFF -/
def SLUICE.CONT_COUNT_COUNT : Fld := ⟨SLUICE.CONT_COUNT_at, 0, 32⟩
/-- The address of SLUICE.FATAL_COUNT (R358). -/
def SLUICE.FATAL_COUNT_at : Nat := 0x20030014
/-- SLUICE.FATAL_COUNT.COUNT: faults of the class, logged or not, saturating at 0xFFFF_FFFF -/
def SLUICE.FATAL_COUNT_COUNT : Fld := ⟨SLUICE.FATAL_COUNT_at, 0, 32⟩
/-- The address of SLUICE.LOG_STATUS (R358). -/
def SLUICE.LOG_STATUS_at : Nat := 0x20030018
/-- SLUICE.LOG_STATUS.OLDEST: record number of the oldest unread record -/
def SLUICE.LOG_STATUS_OLDEST : Fld := ⟨SLUICE.LOG_STATUS_at, 0, 6⟩
/-- SLUICE.LOG_STATUS.UNREAD: unread records, 0–64 -/
def SLUICE.LOG_STATUS_UNREAD : Fld := ⟨SLUICE.LOG_STATUS_at, 8, 7⟩
/-- The address of SLUICE.LOG_RETIRE (R358). -/
def SLUICE.LOG_RETIRE_at : Nat := 0x2003001C
/-- SLUICE.LOG_RETIRE.COUNT: frees that many oldest records; values above UNREAD free all of them -/
def SLUICE.LOG_RETIRE_COUNT : Fld := ⟨SLUICE.LOG_RETIRE_at, 0, 7⟩
/-- The address of SLUICE.LOG_LOST (R358). -/
def SLUICE.LOG_LOST_at : Nat := 0x20030020
/-- SLUICE.LOG_LOST.COUNT: records dropped or overwritten, saturating -/
def SLUICE.LOG_LOST_COUNT : Fld := ⟨SLUICE.LOG_LOST_at, 0, 16⟩
/-- The address of SLUICE.HB_CFG (R358). -/
def SLUICE.HB_CFG_at : Nat := 0x20030024
/-- SLUICE.HB_CFG.WINDOW: feed window, ticks; values below 2,048 act as 2,048 -/
def SLUICE.HB_CFG_WINDOW : Fld := ⟨SLUICE.HB_CFG_at, 0, 24⟩
/-- SLUICE.HB_CFG.SLEEP: R356 -/
def SLUICE.HB_CFG_SLEEP : Fld := ⟨SLUICE.HB_CFG_at, 24, 1⟩
/-- The address of SLUICE.HB_FEED (R358). -/
def SLUICE.HB_FEED_at : Nat := 0x20030028
/-- SLUICE.HB_FEED.FEED: any write by LB.0 feeds HEARTBEAT (R355) -/
def SLUICE.HB_FEED_FEED : Fld := ⟨SLUICE.HB_FEED_at, 0, 32⟩
/-- The address of SLUICE.HB_LAST (R358). -/
def SLUICE.HB_LAST_at : Nat := 0x2003002C
/-- SLUICE.HB_LAST.TICK: TICK[31:0] of the latest counted feed -/
def SLUICE.HB_LAST_TICK : Fld := ⟨SLUICE.HB_LAST_at, 0, 32⟩
/-- The address of SLUICE.FATAL_ACK (R358). -/
def SLUICE.FATAL_ACK_at : Nat := 0x20030034
/-- SLUICE.FATAL_ACK.ACK: 1 clears the FATAL latch (R354) -/
def SLUICE.FATAL_ACK_ACK : Fld := ⟨SLUICE.FATAL_ACK_at, 0, 1⟩
/-- The address of SLUICE.FATAL_INFO (R358). -/
def SLUICE.FATAL_INFO_at : Nat := 0x20030030
/-- SLUICE.FATAL_INFO.CODE: code of the latching FATAL fault -/
def SLUICE.FATAL_INFO_CODE : Fld := ⟨SLUICE.FATAL_INFO_at, 0, 6⟩
/-- SLUICE.FATAL_INFO.KIND: its KIND -/
def SLUICE.FATAL_INFO_KIND : Fld := ⟨SLUICE.FATAL_INFO_at, 6, 5⟩
/-- SLUICE.FATAL_INFO.INST: its INST -/
def SLUICE.FATAL_INFO_INST : Fld := ⟨SLUICE.FATAL_INFO_at, 11, 7⟩
/-- The address of SLUICE.INJ_CTRL (R358). -/
def SLUICE.INJ_CTRL_at : Nat := 0x20030038
/-- SLUICE.INJ_CTRL.TYPE: R357; writing a nonzero TYPE arms the injection while FACTORY is 1 -/
def SLUICE.INJ_CTRL_TYPE : Fld := ⟨SLUICE.INJ_CTRL_at, 0, 3⟩
/-- SLUICE.INJ_CTRL.KIND: unit kind (R337) -/
def SLUICE.INJ_CTRL_KIND : Fld := ⟨SLUICE.INJ_CTRL_at, 3, 5⟩
/-- SLUICE.INJ_CTRL.INST: instance, or Flume for TYPE 3 -/
def SLUICE.INJ_CTRL_INST : Fld := ⟨SLUICE.INJ_CTRL_at, 8, 7⟩
/-- The address of SLUICE.INJ_ADDR (R358). -/
def SLUICE.INJ_ADDR_at : Nat := 0x2003003C
/-- SLUICE.INJ_ADDR.ADDR: SRAM address for TYPE 1 and 2 -/
def SLUICE.INJ_ADDR_ADDR : Fld := ⟨SLUICE.INJ_ADDR_at, 0, 32⟩
/-- The address of SLUICE.LOG (R358). -/
def SLUICE.LOG_at (n : Nat) : Nat := 0x20031000 + 0x4 * n
/-- SLUICE.LOG.WORD: word w of record i (R333) -/
def SLUICE.LOG_WORD (n : Nat) : Fld := ⟨SLUICE.LOG_at n, 0, 32⟩

/-! ### REPAIR -/
/-- The address of REPAIR.CFG (R359). -/
def REPAIR.CFG_at : Nat := 0x20040000
/-- REPAIR.CFG.PERIOD: rotation period in minutes; 0 stops the engine (R346) -/
def REPAIR.CFG_PERIOD : Fld := ⟨REPAIR.CFG_at, 0, 16⟩
/-- REPAIR.CFG.STRIKE: strike window in hours (R339, R340); 0 acts as 1 -/
def REPAIR.CFG_STRIKE : Fld := ⟨REPAIR.CFG_at, 16, 8⟩
/-- The address of REPAIR.STATUS (R359). -/
def REPAIR.STATUS_at : Nat := 0x20040004
/-- REPAIR.STATUS.BUSY: a rotation or test is in progress -/
def REPAIR.STATUS_BUSY : Fld := ⟨REPAIR.STATUS_at, 0, 1⟩
/-- REPAIR.STATUS.KIND: its kind: 0 none, 1 lane, 2 Spindle, 3 Bowl, 4 Chisel, 5 bank -/
def REPAIR.STATUS_KIND : Fld := ⟨REPAIR.STATUS_at, 1, 3⟩
/-- REPAIR.STATUS.DIRTY: R351 -/
def REPAIR.STATUS_DIRTY : Fld := ⟨REPAIR.STATUS_at, 4, 1⟩
/-- REPAIR.STATUS.MAP_OK: the stored map was used at the latest load -/
def REPAIR.STATUS_MAP_OK : Fld := ⟨REPAIR.STATUS_at, 5, 1⟩
/-- REPAIR.STATUS.PAUSED: steps are held under R347 -/
def REPAIR.STATUS_PAUSED : Fld := ⟨REPAIR.STATUS_at, 6, 1⟩
/-- The address of REPAIR.CMD (R359). -/
def REPAIR.CMD_at : Nat := 0x20040008
/-- REPAIR.CMD.OP: R349; 0 and 4–7 have no effect -/
def REPAIR.CMD_OP : Fld := ⟨REPAIR.CMD_at, 0, 3⟩
/-- REPAIR.CMD.KIND: unit kind (R337) -/
def REPAIR.CMD_KIND : Fld := ⟨REPAIR.CMD_at, 3, 5⟩
/-- REPAIR.CMD.INST: instance -/
def REPAIR.CMD_INST : Fld := ⟨REPAIR.CMD_at, 8, 7⟩
/-- The address of REPAIR.CMD_STATUS (R359). -/
def REPAIR.CMD_STATUS_at : Nat := 0x2004000C
/-- REPAIR.CMD_STATUS.RESULT: 0 DONE, 1 BUSY, 2 ESSENTIAL, 3 BADUNIT, 4 NOTFENCED, 5 FAILED, 6 PENDING -/
def REPAIR.CMD_STATUS_RESULT : Fld := ⟨REPAIR.CMD_STATUS_at, 0, 3⟩
/-- The address of REPAIR.SPARES (R359). -/
def REPAIR.SPARES_at : Nat := 0x20040010
/-- REPAIR.SPARES.SPINDLE: a Spindle spare position is available -/
def REPAIR.SPARES_SPINDLE : Fld := ⟨REPAIR.SPARES_at, 0, 1⟩
/-- REPAIR.SPARES.BOWL: a Bowl spare position is available -/
def REPAIR.SPARES_BOWL : Fld := ⟨REPAIR.SPARES_at, 1, 1⟩
/-- REPAIR.SPARES.CHISEL: a Chisel spare position is available -/
def REPAIR.SPARES_CHISEL : Fld := ⟨REPAIR.SPARES_at, 2, 1⟩
/-- REPAIR.SPARES.BANKS: bit g: group g has a spare bank -/
def REPAIR.SPARES_BANKS : Fld := ⟨REPAIR.SPARES_at, 8, 6⟩
/-- REPAIR.SPARES.LANES: lanes not fenced -/
def REPAIR.SPARES_LANES : Fld := ⟨REPAIR.SPARES_at, 16, 7⟩
/-- The address of REPAIR.FENCED_CU (R359). -/
def REPAIR.FENCED_CU_at : Nat := 0x20040014
/-- REPAIR.FENCED_CU.SPINDLE: fenced Spindle units -/
def REPAIR.FENCED_CU_SPINDLE : Fld := ⟨REPAIR.FENCED_CU_at, 0, 9⟩
/-- REPAIR.FENCED_CU.BOWL: fenced Bowl units -/
def REPAIR.FENCED_CU_BOWL : Fld := ⟨REPAIR.FENCED_CU_at, 16, 5⟩
/-- The address of REPAIR.FENCED_CH (R359). -/
def REPAIR.FENCED_CH_at : Nat := 0x20040018
/-- REPAIR.FENCED_CH.CHISEL: fenced Chisel cores -/
def REPAIR.FENCED_CH_CHISEL : Fld := ⟨REPAIR.FENCED_CH_at, 0, 9⟩
/-- The address of REPAIR.ASSIGN_S (R359). -/
def REPAIR.ASSIGN_S_at : Nat := 0x2004001C
/-- REPAIR.ASSIGN_S.LS_0: physical unit serving LS.j; 0xF if UNSERVED -/
def REPAIR.ASSIGN_S_LS_0 : Fld := ⟨REPAIR.ASSIGN_S_at, 0, 4⟩
/-- REPAIR.ASSIGN_S.LS_1: physical unit serving LS.j; 0xF if UNSERVED -/
def REPAIR.ASSIGN_S_LS_1 : Fld := ⟨REPAIR.ASSIGN_S_at, 4, 4⟩
/-- REPAIR.ASSIGN_S.LS_2: physical unit serving LS.j; 0xF if UNSERVED -/
def REPAIR.ASSIGN_S_LS_2 : Fld := ⟨REPAIR.ASSIGN_S_at, 8, 4⟩
/-- REPAIR.ASSIGN_S.LS_3: physical unit serving LS.j; 0xF if UNSERVED -/
def REPAIR.ASSIGN_S_LS_3 : Fld := ⟨REPAIR.ASSIGN_S_at, 12, 4⟩
/-- REPAIR.ASSIGN_S.LS_4: physical unit serving LS.j; 0xF if UNSERVED -/
def REPAIR.ASSIGN_S_LS_4 : Fld := ⟨REPAIR.ASSIGN_S_at, 16, 4⟩
/-- REPAIR.ASSIGN_S.LS_5: physical unit serving LS.j; 0xF if UNSERVED -/
def REPAIR.ASSIGN_S_LS_5 : Fld := ⟨REPAIR.ASSIGN_S_at, 20, 4⟩
/-- REPAIR.ASSIGN_S.LS_6: physical unit serving LS.j; 0xF if UNSERVED -/
def REPAIR.ASSIGN_S_LS_6 : Fld := ⟨REPAIR.ASSIGN_S_at, 24, 4⟩
/-- REPAIR.ASSIGN_S.LS_7: physical unit serving LS.j; 0xF if UNSERVED -/
def REPAIR.ASSIGN_S_LS_7 : Fld := ⟨REPAIR.ASSIGN_S_at, 28, 4⟩
/-- The address of REPAIR.ASSIGN_B (R359). -/
def REPAIR.ASSIGN_B_at : Nat := 0x20040020
/-- REPAIR.ASSIGN_B.LB_0: physical unit serving LB.j; 0xF if UNSERVED -/
def REPAIR.ASSIGN_B_LB_0 : Fld := ⟨REPAIR.ASSIGN_B_at, 0, 4⟩
/-- REPAIR.ASSIGN_B.LB_1: physical unit serving LB.j; 0xF if UNSERVED -/
def REPAIR.ASSIGN_B_LB_1 : Fld := ⟨REPAIR.ASSIGN_B_at, 4, 4⟩
/-- REPAIR.ASSIGN_B.LB_2: physical unit serving LB.j; 0xF if UNSERVED -/
def REPAIR.ASSIGN_B_LB_2 : Fld := ⟨REPAIR.ASSIGN_B_at, 8, 4⟩
/-- REPAIR.ASSIGN_B.LB_3: physical unit serving LB.j; 0xF if UNSERVED -/
def REPAIR.ASSIGN_B_LB_3 : Fld := ⟨REPAIR.ASSIGN_B_at, 12, 4⟩
/-- The address of REPAIR.ASSIGN_X (R359). -/
def REPAIR.ASSIGN_X_at : Nat := 0x20040024
/-- REPAIR.ASSIGN_X.SPARE_S: spare position of each kind; 0xF if none -/
def REPAIR.ASSIGN_X_SPARE_S : Fld := ⟨REPAIR.ASSIGN_X_at, 0, 4⟩
/-- REPAIR.ASSIGN_X.SPARE_B: spare position of each kind; 0xF if none -/
def REPAIR.ASSIGN_X_SPARE_B : Fld := ⟨REPAIR.ASSIGN_X_at, 4, 4⟩
/-- REPAIR.ASSIGN_X.SPARE_C: spare position of each kind; 0xF if none -/
def REPAIR.ASSIGN_X_SPARE_C : Fld := ⟨REPAIR.ASSIGN_X_at, 8, 4⟩
/-- The address of REPAIR.LAST_TEST (R359). -/
def REPAIR.LAST_TEST_at : Nat := 0x20040028
/-- REPAIR.LAST_TEST.KIND: kind of the latest test (R337) -/
def REPAIR.LAST_TEST_KIND : Fld := ⟨REPAIR.LAST_TEST_at, 0, 5⟩
/-- REPAIR.LAST_TEST.INST: unit tested -/
def REPAIR.LAST_TEST_INST : Fld := ⟨REPAIR.LAST_TEST_at, 5, 7⟩
/-- REPAIR.LAST_TEST.PASS: the test passed -/
def REPAIR.LAST_TEST_PASS : Fld := ⟨REPAIR.LAST_TEST_at, 12, 1⟩
/-- REPAIR.LAST_TEST.TICK: TICK[18:0] at the end of the test -/
def REPAIR.LAST_TEST_TICK : Fld := ⟨REPAIR.LAST_TEST_at, 13, 19⟩
/-- The address of REPAIR.TESTS (R359). -/
def REPAIR.TESTS_at : Nat := 0x2004002C
/-- REPAIR.TESTS.COUNT: live tests run, tests failed, and rotations of any cause; each saturating at 0xFFFF_FFFF -/
def REPAIR.TESTS_COUNT : Fld := ⟨REPAIR.TESTS_at, 0, 32⟩
/-- The address of REPAIR.TESTFAILS (R359). -/
def REPAIR.TESTFAILS_at : Nat := 0x20040030
/-- REPAIR.TESTFAILS.COUNT: live tests run, tests failed, and rotations of any cause; each saturating at 0xFFFF_FFFF -/
def REPAIR.TESTFAILS_COUNT : Fld := ⟨REPAIR.TESTFAILS_at, 0, 32⟩
/-- The address of REPAIR.ROTATIONS (R359). -/
def REPAIR.ROTATIONS_at : Nat := 0x20040034
/-- REPAIR.ROTATIONS.COUNT: live tests run, tests failed, and rotations of any cause; each saturating at 0xFFFF_FFFF -/
def REPAIR.ROTATIONS_COUNT : Fld := ⟨REPAIR.ROTATIONS_at, 0, 32⟩
/-- The address of REPAIR.EVENTS (R359). -/
def REPAIR.EVENTS_at : Nat := 0x20040038
/-- REPAIR.EVENTS.SKIPPED: a step was held (R347) -/
def REPAIR.EVENTS_SKIPPED : Fld := ⟨REPAIR.EVENTS_at, 0, 1⟩
/-- REPAIR.EVENTS.TESTFAIL: a live test failed -/
def REPAIR.EVENTS_TESTFAIL : Fld := ⟨REPAIR.EVENTS_at, 1, 1⟩
/-- REPAIR.EVENTS.FENCED: a unit was fenced -/
def REPAIR.EVENTS_FENCED : Fld := ⟨REPAIR.EVENTS_at, 2, 1⟩
/-- REPAIR.EVENTS.RETURNED: a retested unit was unfenced (R345) -/
def REPAIR.EVENTS_RETURNED : Fld := ⟨REPAIR.EVENTS_at, 3, 1⟩
/-- REPAIR.EVENTS.DIRTY: the live map gained an entry not stored -/
def REPAIR.EVENTS_DIRTY : Fld := ⟨REPAIR.EVENTS_at, 4, 1⟩
/-- The address of REPAIR.MAP (R359). -/
def REPAIR.MAP_at (n : Nat) : Nat := 0x20041000 + 0x4 * n
/-- REPAIR.MAP.WORD: word w of the live map, laid out as option offset 0x0200 + 4w (R350); MAP[255] is its CRC -/
def REPAIR.MAP_WORD (n : Nat) : Fld := ⟨REPAIR.MAP_at n, 0, 32⟩

/-! ### SPOUT -/
/-- The address of SPOUT.CFG (R378). -/
def SPOUT.CFG_at : Nat := 0x200F0000
/-- SPOUT.CFG.UART_EN: 1 enables the UART -/
def SPOUT.CFG_UART_EN : Fld := ⟨SPOUT.CFG_at, 0, 1⟩
/-- SPOUT.CFG.BAUD: R370 -/
def SPOUT.CFG_BAUD : Fld := ⟨SPOUT.CFG_at, 1, 3⟩
/-- SPOUT.CFG.SOFT_EN: 1 forwards soft opcodes (R368) -/
def SPOUT.CFG_SOFT_EN : Fld := ⟨SPOUT.CFG_at, 4, 1⟩
/-- SPOUT.CFG.SOFT_FLUME: request Flume -/
def SPOUT.CFG_SOFT_FLUME : Fld := ⟨SPOUT.CFG_at, 8, 6⟩
/-- SPOUT.CFG.SOFT_REPLY: answer Flume -/
def SPOUT.CFG_SOFT_REPLY : Fld := ⟨SPOUT.CFG_at, 16, 6⟩
/-- The address of SPOUT.SOFT_TMO (R378). -/
def SPOUT.SOFT_TMO_at : Nat := 0x200F0004
/-- SPOUT.SOFT_TMO.TICKS: soft timeout; 0 acts as 1 -/
def SPOUT.SOFT_TMO_TICKS : Fld := ⟨SPOUT.SOFT_TMO_at, 0, 24⟩
/-- The address of SPOUT.OTA (R378). -/
def SPOUT.OTA_at : Nat := 0x200F0008
/-- SPOUT.OTA.IN_FLUME: R375 -/
def SPOUT.OTA_IN_FLUME : Fld := ⟨SPOUT.OTA_at, 0, 6⟩
/-- SPOUT.OTA.OUT_FLUME: R375 -/
def SPOUT.OTA_OUT_FLUME : Fld := ⟨SPOUT.OTA_at, 8, 6⟩
/-- SPOUT.OTA.EN: 1 enables over-the-air commands -/
def SPOUT.OTA_EN : Fld := ⟨SPOUT.OTA_at, 31, 1⟩
/-- The address of SPOUT.AQ (R378). -/
def SPOUT.AQ_at : Nat := 0x200F000C
/-- SPOUT.AQ.HOPS: HOPS of reply frames (R374) -/
def SPOUT.AQ_HOPS : Fld := ⟨SPOUT.AQ_at, 0, 4⟩
/-- The address of SPOUT.AQBUF (R378). -/
def SPOUT.AQBUF_at (n : Nat) : Nat := 0x200F0010 + 0x4 * n
/-- SPOUT.AQBUF.ADDR: 1,040-octet reply buffer of port p, 4-byte aligned, in Pool or packet SRAM; 0 sends no replies -/
def SPOUT.AQBUF_ADDR (n : Nat) : Fld := ⟨SPOUT.AQBUF_at n, 0, 32⟩
/-- The address of SPOUT.STATUS (R378). -/
def SPOUT.STATUS_at : Nat := 0x200F0018
/-- SPOUT.STATUS.SOFT_PEND: a soft command is pending -/
def SPOUT.STATUS_SOFT_PEND : Fld := ⟨SPOUT.STATUS_at, 0, 1⟩
/-- SPOUT.STATUS.SOFT_SRC: its transport: 0 UART, 1 QSP slave, 2 Aqueduct A, 3 Aqueduct B, 4 over the air -/
def SPOUT.STATUS_SOFT_SRC : Fld := ⟨SPOUT.STATUS_at, 1, 3⟩
/-- SPOUT.STATUS.SOFT_SEQ: its SEQ -/
def SPOUT.STATUS_SOFT_SEQ : Fld := ⟨SPOUT.STATUS_at, 8, 8⟩
/-- SPOUT.STATUS.HELD: bit per transport, coded as SOFT_SRC: a command is held (R369) -/
def SPOUT.STATUS_HELD : Fld := ⟨SPOUT.STATUS_at, 16, 5⟩
/-- The address of SPOUT.EVENTS (R378). -/
def SPOUT.EVENTS_at : Nat := 0x200F001C
/-- SPOUT.EVENTS.BADCRC: a BAD_CRC reply was sent -/
def SPOUT.EVENTS_BADCRC : Fld := ⟨SPOUT.EVENTS_at, 0, 1⟩
/-- SPOUT.EVENTS.FRAMING: a UART partial packet was discarded -/
def SPOUT.EVENTS_FRAMING : Fld := ⟨SPOUT.EVENTS_at, 1, 1⟩
/-- SPOUT.EVENTS.SOFTSTRAY: R368 -/
def SPOUT.EVENTS_SOFTSTRAY : Fld := ⟨SPOUT.EVENTS_at, 2, 1⟩
/-- SPOUT.EVENTS.TIMEOUT: a TIMEOUT reply was sent -/
def SPOUT.EVENTS_TIMEOUT : Fld := ⟨SPOUT.EVENTS_at, 3, 1⟩
/-- SPOUT.EVENTS.DROP: a packet or reply was dropped -/
def SPOUT.EVENTS_DROP : Fld := ⟨SPOUT.EVENTS_at, 4, 1⟩
/-- The address of SPOUT.RX_OK (R378). -/
def SPOUT.RX_OK_at : Nat := 0x200F0020
/-- SPOUT.RX_OK.COUNT: RX_OK: packets executed or forwarded. RX_ERR: BAD_CRC, BAD_LENGTH and framing discards. DROPS: packets and … -/
def SPOUT.RX_OK_COUNT : Fld := ⟨SPOUT.RX_OK_at, 0, 32⟩
/-- The address of SPOUT.RX_ERR (R378). -/
def SPOUT.RX_ERR_at : Nat := 0x200F0024
/-- SPOUT.RX_ERR.COUNT: RX_OK: packets executed or forwarded. RX_ERR: BAD_CRC, BAD_LENGTH and framing discards. DROPS: packets and … -/
def SPOUT.RX_ERR_COUNT : Fld := ⟨SPOUT.RX_ERR_at, 0, 32⟩
/-- The address of SPOUT.DROPS (R378). -/
def SPOUT.DROPS_at : Nat := 0x200F0028
/-- SPOUT.DROPS.COUNT: RX_OK: packets executed or forwarded. RX_ERR: BAD_CRC, BAD_LENGTH and framing discards. DROPS: packets and … -/
def SPOUT.DROPS_COUNT : Fld := ⟨SPOUT.DROPS_at, 0, 32⟩

/-! ### QSP -/
/-- The address of QSP.CTRL (R379). -/
def QSP.CTRL_at (n : Nat) : Nat := 0x20100000 + 0x40 * n
/-- QSP.CTRL.EN: enables the master -/
def QSP.CTRL_EN (n : Nat) : Fld := ⟨QSP.CTRL_at n, 0, 1⟩
/-- QSP.CTRL.CPOL_CPHA: 0 mode 0, 1 mode 3 -/
def QSP.CTRL_CPOL_CPHA (n : Nat) : Fld := ⟨QSP.CTRL_at n, 1, 1⟩
/-- QSP.CTRL.LATE_SMP: R376 -/
def QSP.CTRL_LATE_SMP (n : Nat) : Fld := ⟨QSP.CTRL_at n, 2, 1⟩
/-- QSP.CTRL.CS: 0 CS0_N, 1 CS1_N -/
def QSP.CTRL_CS (n : Nat) : Fld := ⟨QSP.CTRL_at n, 3, 1⟩
/-- QSP.CTRL.DONE_FLUME: completion Flume -/
def QSP.CTRL_DONE_FLUME (n : Nat) : Fld := ⟨QSP.CTRL_at n, 4, 6⟩
/-- QSP.CTRL.DONE_EN: 1 writes completion words -/
def QSP.CTRL_DONE_EN (n : Nat) : Fld := ⟨QSP.CTRL_at n, 10, 1⟩
/-- QSP.CTRL.SCK_MHZ: 1–50; values outside act as the nearer end -/
def QSP.CTRL_SCK_MHZ (n : Nat) : Fld := ⟨QSP.CTRL_at n, 16, 8⟩
/-- The address of QSP.CMD (R379). -/
def QSP.CMD_at (n : Nat) : Nat := 0x20100004 + 0x40 * n
/-- QSP.CMD.VALUE: command bits; an 8-bit command uses 7:0 -/
def QSP.CMD_VALUE (n : Nat) : Fld := ⟨QSP.CMD_at n, 0, 16⟩
/-- QSP.CMD.BITS: 0 none, 1 eight, 2 sixteen; 3 acts as 2 -/
def QSP.CMD_BITS (n : Nat) : Fld := ⟨QSP.CMD_at n, 16, 2⟩
/-- QSP.CMD.LANES: lane code -/
def QSP.CMD_LANES (n : Nat) : Fld := ⟨QSP.CMD_at n, 18, 2⟩
/-- The address of QSP.PHASE (R379). -/
def QSP.PHASE_at (n : Nat) : Nat := 0x20100008 + 0x40 * n
/-- QSP.PHASE.ABITS: 0 none, 1–4 for 8–32 address bits; 5–7 act as 4 -/
def QSP.PHASE_ABITS (n : Nat) : Fld := ⟨QSP.PHASE_at n, 0, 3⟩
/-- QSP.PHASE.ALANES: lane code -/
def QSP.PHASE_ALANES (n : Nat) : Fld := ⟨QSP.PHASE_at n, 4, 2⟩
/-- QSP.PHASE.DUMMY: dummy cycles -/
def QSP.PHASE_DUMMY (n : Nat) : Fld := ⟨QSP.PHASE_at n, 8, 5⟩
/-- QSP.PHASE.DLANES: data lane code -/
def QSP.PHASE_DLANES (n : Nat) : Fld := ⟨QSP.PHASE_at n, 16, 2⟩
/-- QSP.PHASE.DIR: 0 read, 1 write -/
def QSP.PHASE_DIR (n : Nat) : Fld := ⟨QSP.PHASE_at n, 18, 1⟩
/-- The address of QSP.ADDR (R379). -/
def QSP.ADDR_at (n : Nat) : Nat := 0x2010000C + 0x40 * n
/-- QSP.ADDR.ADDR: address phase value -/
def QSP.ADDR_ADDR (n : Nat) : Fld := ⟨QSP.ADDR_at n, 0, 32⟩
/-- The address of QSP.BUF (R379). -/
def QSP.BUF_at (n : Nat) : Nat := 0x20100010 + 0x40 * n
/-- QSP.BUF.ADDR: SRAM buffer (R376) -/
def QSP.BUF_ADDR (n : Nat) : Fld := ⟨QSP.BUF_at n, 0, 32⟩
/-- The address of QSP.LEN (R379). -/
def QSP.LEN_at (n : Nat) : Nat := 0x20100014 + 0x40 * n
/-- QSP.LEN.OCTETS: 0–4,096; above acts as 4,096 -/
def QSP.LEN_OCTETS (n : Nat) : Fld := ⟨QSP.LEN_at n, 0, 13⟩
/-- The address of QSP.GO (R379). -/
def QSP.GO_at (n : Nat) : Nat := 0x20100018 + 0x40 * n
/-- QSP.GO.GO: start a frame -/
def QSP.GO_GO (n : Nat) : Fld := ⟨QSP.GO_at n, 0, 1⟩
/-- QSP.GO.ABORT: end the frame (R376) -/
def QSP.GO_ABORT (n : Nat) : Fld := ⟨QSP.GO_at n, 1, 1⟩
/-- The address of QSP.STATUS (R379). -/
def QSP.STATUS_at (n : Nat) : Nat := 0x2010001C + 0x40 * n
/-- QSP.STATUS.BUSY: a frame is running -/
def QSP.STATUS_BUSY (n : Nat) : Fld := ⟨QSP.STATUS_at n, 0, 1⟩
/-- QSP.STATUS.RESULT: R376, for the latest frame -/
def QSP.STATUS_RESULT (n : Nat) : Fld := ⟨QSP.STATUS_at n, 1, 3⟩
/-- QSP.STATUS.DONE_LEN: data octets transferred -/
def QSP.STATUS_DONE_LEN (n : Nat) : Fld := ⟨QSP.STATUS_at n, 4, 13⟩
/-- The address of QSP.MAP (R379). -/
def QSP.MAP_at : Nat := 0x20100080
/-- QSP.MAP.EN: direct map on QSP.0 (R377) -/
def QSP.MAP_EN : Fld := ⟨QSP.MAP_at, 0, 1⟩
/-- QSP.MAP.PREFETCH: fetch the next line -/
def QSP.MAP_PREFETCH : Fld := ⟨QSP.MAP_at, 1, 1⟩
/-- QSP.MAP.CONT: continuous mode -/
def QSP.MAP_CONT : Fld := ⟨QSP.MAP_at, 2, 1⟩
/-- QSP.MAP.CLANES: command lane code -/
def QSP.MAP_CLANES : Fld := ⟨QSP.MAP_at, 4, 2⟩
/-- QSP.MAP.ALANES: address lane code -/
def QSP.MAP_ALANES : Fld := ⟨QSP.MAP_at, 6, 2⟩
/-- QSP.MAP.DUMMY: dummy cycles -/
def QSP.MAP_DUMMY : Fld := ⟨QSP.MAP_at, 8, 5⟩
/-- QSP.MAP.DLANES: data lane code -/
def QSP.MAP_DLANES : Fld := ⟨QSP.MAP_at, 14, 2⟩
/-- QSP.MAP.CMD: read command -/
def QSP.MAP_CMD : Fld := ⟨QSP.MAP_at, 16, 8⟩
/-- The address of QSP.MAP_MODE (R379). -/
def QSP.MAP_MODE_at : Nat := 0x20100084
/-- QSP.MAP_MODE.ENTER: continuous-mode octet -/
def QSP.MAP_MODE_ENTER : Fld := ⟨QSP.MAP_MODE_at, 0, 8⟩
/-- QSP.MAP_MODE.EXIT: exit octet -/
def QSP.MAP_MODE_EXIT : Fld := ⟨QSP.MAP_MODE_at, 8, 8⟩
/-- QSP.MAP_MODE.BASE: MAP.BASE in units of 256 octets -/
def QSP.MAP_MODE_BASE : Fld := ⟨QSP.MAP_MODE_at, 16, 16⟩
/-- The address of QSP.CFG_S (R379). -/
def QSP.CFG_S_at : Nat := 0x20100100
/-- QSP.CFG_S.EN: enables QSP.S -/
def QSP.CFG_S_EN : Fld := ⟨QSP.CFG_S_at, 0, 1⟩
/-- QSP.CFG_S.LANES: 0 one lane, 1 four lanes (R371) -/
def QSP.CFG_S_LANES : Fld := ⟨QSP.CFG_S_at, 1, 1⟩
/-- The address of QSP.EVENTS (R379). -/
def QSP.EVENTS_at : Nat := 0x20100104
/-- QSP.EVENTS.MAPWRITE: a store into the map was discarded -/
def QSP.EVENTS_MAPWRITE : Fld := ⟨QSP.EVENTS_at, 0, 1⟩
/-- QSP.EVENTS.DONE_0: a QSP.0 frame ended -/
def QSP.EVENTS_DONE_0 : Fld := ⟨QSP.EVENTS_at, 1, 1⟩
/-- QSP.EVENTS.DONE_1: a QSP.1 frame ended -/
def QSP.EVENTS_DONE_1 : Fld := ⟨QSP.EVENTS_at, 2, 1⟩
/-- QSP.EVENTS.SLAVE_ERR: an SCOUNT counter rose -/
def QSP.EVENTS_SLAVE_ERR : Fld := ⟨QSP.EVENTS_at, 3, 1⟩

/-! ### GPIO -/
/-- The address of GPIO.OUT (R411). -/
def GPIO.OUT_at : Nat := 0x20120000
/-- GPIO.OUT.OUT: level driven where OE is 1 -/
def GPIO.OUT_OUT : Fld := ⟨GPIO.OUT_at, 0, 24⟩
/-- The address of GPIO.OE (R411). -/
def GPIO.OE_at : Nat := 0x20120004
/-- GPIO.OE.OE: 1 drives the pin -/
def GPIO.OE_OE : Fld := ⟨GPIO.OE_at, 0, 24⟩
/-- The address of GPIO.IN (R411). -/
def GPIO.IN_at : Nat := 0x20120008
/-- GPIO.IN.IN: ball level at the instant of the read; 0 for a bank whose VIO is absent (R401) -/
def GPIO.IN_IN : Fld := ⟨GPIO.IN_at, 0, 24⟩
/-- The address of GPIO.PULL_UP (R411). -/
def GPIO.PULL_UP_at : Nat := 0x2012000C
/-- GPIO.PULL_UP.UP: 1 enables the pull-up -/
def GPIO.PULL_UP_UP : Fld := ⟨GPIO.PULL_UP_at, 0, 24⟩
/-- The address of GPIO.PULL_DN (R411). -/
def GPIO.PULL_DN_at : Nat := 0x20120010
/-- GPIO.PULL_DN.DN: 1 enables the pull-down -/
def GPIO.PULL_DN_DN : Fld := ⟨GPIO.PULL_DN_at, 0, 24⟩
/-- The address of GPIO.DRIVE (R411). -/
def GPIO.DRIVE_at : Nat := 0x20120014
/-- GPIO.DRIVE.DRIVE: 0 4 mA, 1 8 mA -/
def GPIO.DRIVE_DRIVE : Fld := ⟨GPIO.DRIVE_at, 0, 24⟩

end Sys2Proof.Machine
end

