-- ==== Sys2Proof/Machine/State.lean ====
section
/-! DEFINITION. The state of the HUP-7740 as plain data: its registers, its memories, the internal state each unit's chapter gives
it, the lock cells and the queue of waiting commands; the faults and refusals a command can end in; and the state after reset. -/

namespace Sys2Proof.Machine

/-! ### SRAM, Flumes (chapters 08 and 12) -/

/-- One SRAM word (R268): data, tag, and `flip`, which of the 43 physical bits (data, tag, code) differ from what was stored. -/
structure SramWord where
  data : Word
  tag : Tag
  flip : BitVec 43
  deriving DecidableEq, Repr

/-- What an SRAM word that nothing has written reads as after the fill of R271. -/
def SramWord.blank : SramWord := ⟨0#32, .void, 0#43⟩

/-- One 40-bit Flume entry (R177). -/
structure FEntry where
  data : Word
  tag : Tag
  isEnd : Bool
  gap : Bool
  p0 : Bool
  p1 : Bool
  deriving DecidableEq, Repr

/-- A core stalled on a Flume (R185, R187): the slot, the TICK of the stall's start, and whether a TICK edge has passed at which its
stall limit is reached. -/
structure Stall where
  slot : Nat
  start : Nat
  due : Bool
  deriving DecidableEq, Repr

/-- The contents of one Flume (R177 to R189). `headPos` is the ring position of the head entry in the Flume's range. -/
structure Flume where
  entries : List FEntry
  openGap : Bool
  pkts : Nat
  suspect : Bool
  headPos : Nat
  stalled : List Stall
  deriving DecidableEq, Repr

/-- A disabled or empty Flume (R195). -/
def Flume.empty : Flume := ⟨[], false, 0, false, 0, []⟩

/-! ### Clepsydra (chapter 14) -/

/-- The unit steps a timer still owes at the present instant, and whether a match waits to be served (R320 to R322). -/
structure TimerDue where
  owed : Nat
  matchDue : Bool
  deriving DecidableEq, Repr

/-- Marks of one deadline monitor beside its DMON register (R23, R24, R324): armed, the EXPIRED mark, the arming agent, the
context handle a Lathe event gives, whether the deadline was reached at an edge and is not yet served, and the SEQ of its record. -/
structure DMon where
  armed : Bool
  expired : Bool
  agent : Nat
  agentNo : Nat
  handle : Word
  due : Bool
  atNext : Bool
  recSeq : Option Nat
  deriving DecidableEq, Repr

/-- A monitor never armed. -/
def DMon.idle : DMon := ⟨false, false, 0, 0, 0xFFFFFFFF#32, false, false, none⟩

/-- A running trim measurement (R330): the source, the instant of the first accepted edge or mark (1/1,024 tick), the latest edge, the
number of accepted edges, and the first network mark; the source, mains frequency and window as they stood at GO. -/
structure Meas where
  net : Bool
  hz : Nat
  window : Nat
  started : Bool
  first : Nat
  last : Nat
  edges : Nat
  net0 : Nat
  loc0 : Nat
  deriving DecidableEq, Repr

/-- The Clepsydra's state beside its registers: the three TICK copies, the fraction of the latest stamp, whether the present crystal
period is swallowed, the trim accumulator, the FINE substitution accumulator, and what the latest edge left to serve. -/
structure Clep where
  tickA : BitVec 48
  tickB : BitVec 48
  tickC : BitVec 48
  frac : BitVec 10
  swallowed : Bool
  acc : Nat
  fineAcc : Nat
  timers : Store TimerDue
  dmon : Store DMon
  secondDue : Bool
  bucketDue : Bool
  heartDue : Bool
  meas : Option Meas
  deriving DecidableEq, Repr

/-! ### Sluice and repair (chapter 15) -/

/-- One record of the fault log (R333). -/
structure LogRec where
  cls : Nat
  code : Nat
  kind : Nat
  inst : Nat
  reaction : Nat
  late : Bool
  rep : Nat
  tick : Nat
  frac : Nat
  d0 : Nat
  d1 : Nat
  agent : Nat
  agentNo : Nat
  injected : Bool
  last : Nat
  seq : Nat
  deriving DecidableEq, Repr

/-- An armed fault injection (R357). -/
structure Inj where
  typ : Nat
  kind : Nat
  inst : Nat
  deriving DecidableEq, Repr

/-- Sluice's state beside its registers: the held records by record number, the number of the latest record and of the latest SEQ, the
F reset waiting to be applied (R352), the ticks of the counted F resets, the lane strikes (R339), whether LB.0 has fed HEARTBEAT since
the latest boot, the TICK at which the feed window restarted (R356), the armed injections (TYPE 6: an entry stored with P1 inverted and not yet read), and
the words of retired records, which LOG goes on showing until their numbers are used again. -/
structure Sluice where
  log : Store (Option LogRec)
  lastNo : Nat
  seq : Nat
  fPending : Bool
  fResets : List Nat
  strikes : Store (Option Nat)
  fed : Bool
  feedFrom : Nat
  injections : List Inj
  retired : Store (Option LogRec)
  deriving DecidableEq, Repr

/-! ### Wellspring (chapter 13) -/

/-- Wellspring's state beside its registers: the sources that fired during the present entry (R299, R300), the asserted level sources,
the state being left, the tick at which LB.0 parked, edges held through the V_START hold (R303), the retention signatures by logical bank
(R276), whether VMAIN stands below V_START, whether the core domain is off after a brown-out, the reset (as WELL.RESET_CAUSE.WHY) it starts
from, the level of the TESTMODE ball, and the Ripple receivers whose STAMP takes the TICK of the next edge (R306). -/
structure Well where
  fired : BitVec 16
  levels : BitVec 16
  leaving : Nat
  waitFrom : Nat
  held : BitVec 16
  signatures : Store (Option Word)
  mainOff : Bool
  coreOff : Bool
  startWhy : Nat
  testmode : Bool
  stampDue : BitVec 2
  deriving DecidableEq, Repr

/-! ### Basin (chapter 02) -/

/-- The states of a lane (R47). -/
inductive LaneState where
  | idle | pinWait | search | demod | drain | test | fenced
  deriving DecidableEq, Repr

/-- A group with the profile it is received with (R42, R51). -/
structure Group where
  port : Nat
  bin : Nat
  width : Nat
  profile : Nat
  deriving DecidableEq, Repr

/-- The profile copy a lane takes at spawn (R46): the fields of PMATCH and PSYNC it works with. -/
structure ProfileCopy where
  mode : Nat
  minSym : Nat
  edFloor : Int
  syncTimeout : Nat
  syncErr : Nat
  fadeSym : Nat
  deriving DecidableEq, Repr

/-- A record a lane in DRAIN is about to write (R60): its words, the port, the pin slot the lane held, and the buffer it names. -/
structure DrainRec where
  words : List TWord
  port : Nat
  pin : Option Nat
  buf : Option Word
  deriving DecidableEq, Repr

/-- One demodulator lane (R47 to R64). Instants are in 1/1,024 tick; powers in 0.25 dB; `idleAt` orders the idle lanes; a lane in DRAIN
with `waiting` holds the request that chose it as a pre-emption victim (R55); `converted` marks a lane that already runs the new
microcode of a BASIN_UCODE activation (R392); `zSum` and `zCount` are what FOFFSET is the mean of, `evmErr` and `evmRef` the two sums of EVM
(R65). -/
structure Lane where
  state : LaneState
  isShadow : Bool
  spawnedShadow : Bool
  primary : Option Nat
  shadow : Option Nat
  pin : Option Nat
  group : Group
  copy : ProfileCopy
  prio : Nat
  start : Nat
  sync : Option Nat
  detRssi : Int
  syncRssi : Int
  recRssi : Option Int
  foff : Int
  zSum : Int
  zCount : Nat
  evmErr : Nat
  evmRef : Nat
  lqi : Nat
  restarts : Nat
  overlap : Bool
  captMissed : Bool
  shadowed : Bool
  agcStep : Bool
  buf : Option Word
  phrLen : Nat
  fcs32 : Bool
  whitened : Bool
  fec : Bool
  idleAt : Nat
  converted : Bool
  waiting : Bool
  drain : Option DrainRec
  deriving DecidableEq, Repr

/-- An idle, unpinned lane of the pool. -/
def Lane.blank : Lane :=
  { state := .idle, isShadow := false, spawnedShadow := false, primary := none, shadow := none, pin := none, group := ⟨0, 0, 0, 0⟩,
    copy := ⟨0, 0, 0, 0, 0, 0⟩, prio := 0, start := 0, sync := none, detRssi := 0, syncRssi := 0, recRssi := none, foff := 0,
    zSum := 0, zCount := 0, evmErr := 0, evmRef := 0, lqi := 0,
    restarts := 0, overlap := false, captMissed := false, shadowed := false, agcStep := false, buf := none, phrLen := 0, fcs32 := false,
    whitened := false, fec := false, idleAt := 0, converted := false, waiting := false, drain := none }

/-- A declaration that waits for its allocation window to close (R44, R45): its sample index, the detector RSSI, and the sum and the number
of the discriminator samples of its window. -/
structure Decl where
  port : Nat
  bin : Nat
  width : Nat
  profile : Nat
  prio : Nat
  start : Nat
  sample : Nat
  rssi : Int
  zSum : Int
  zCount : Nat
  deriving DecidableEq, Repr

/-- Basin's state beside its registers: the lanes, the lane each pin slot holds, the declarations not yet decided, the
count that orders idle lanes, and the instant from which each port's correlation windows refill after a blanking (R61). -/
structure Basin where
  lanes : Store Lane
  pins : Store (Option Nat)
  decls : List Decl
  idleSeq : Nat
  clearFrom : Store Nat
  deriving DecidableEq, Repr


/-! ### Repair (chapter 15) -/

/-- A single-bit or uncorrectable error noted for R340: physical bank, row, word address and TICK. -/
structure RowErr where
  bank : Nat
  row : Nat
  addr : Nat
  tick : Nat
  deriving DecidableEq, Repr

/-- A live row copy in progress (R273): physical bank, row, spare row. -/
structure RowCopy where
  bank : Nat
  row : Nat
  spare : Nat
  deriving DecidableEq, Repr

/-- A bank rotation in progress (R274): the logical bank, the physical bank it moves to, whether the bank it leaves is fenced, and the
master whose FENCE asked for it (AGENT 0 otherwise). -/
structure BankCopy where
  logical : Nat
  target : Nat
  fenceOld : Bool
  agent : Nat
  agentNo : Nat
  deriving DecidableEq, Repr

/-- A bank whose fence waits for the running rotation to end (R343): the logical bank, whether a FENCE command asked for it, its master. -/
structure BankReq where
  logical : Nat
  forced : Bool
  agent : Nat
  agentNo : Nat
  deriving DecidableEq, Repr

/-- A live test in progress (R345, R346): the unit, and whether a RETEST command runs it. -/
structure TestRun where
  inst : Nat
  retest : Bool
  deriving DecidableEq, Repr

/-- A core rotation under way (R29, R341): the kind (2 Spindle, 3 Bowl), the slot, the unit it moves onto, the unit whose fence caused it
with the agent to name in its FENCED record where that is still to be written, whether it is a live rotation (R346), whether a FENCE command
asked for it, and whether the slot's state cannot be copied. -/
structure CoreRot where
  kind : Nat
  slot : Nat
  target : Nat
  record : Option (Nat × Nat × Nat)
  live : Bool
  cmd : Bool
  lost : Bool
  deriving DecidableEq, Repr

/-- A core rotation that waits (R343): of a kind, the live rotation of a slot onto the spare, or else the fence of a unit with the agent it
names; `lost` as in `CoreRot`. -/
structure CoreReq where
  kind : Nat
  slot : Option Nat
  unit : Nat
  agent : Nat
  agentNo : Nat
  lost : Bool
  deriving DecidableEq, Repr

/-- A slot in ROTATING (R242): the STATE it goes back to, and the CTRL writes that wait for that. -/
structure Paused where
  was : Nat
  ctrl : List Word
  deriving DecidableEq, Repr

/-- The repair engine beside its registers: the physical bank of each logical bank and each group's spare (255 none), the banks out of
service, the row errors of R340, copies and tests in progress and fences waiting for a bank rotation, the order in which units were last
tested, the schedules whose step is held (R346, R347), the Chisel position whose core moves once idle, the fenced units of KIND 12 to
14, which the repair map has no place for, the core rotations under way and waiting with the slots in ROTATING (R341 to R344), and the
retests that wait for the loader (R244).  A schedule is 1 lanes, 2 Spindle, 3 Bowl, 4 Chisel, 5 to 10 the bank groups. -/
structure Repair where
  bankPhys : Store Nat
  bankSpare : Store Nat
  bankOut : List Nat
  rowErrs : List RowErr
  rowCopies : List RowCopy
  bankCopy : Option BankCopy
  bankQueue : List BankReq
  tests : Store (Option TestRun)
  lastTest : Store Nat
  testSeq : Nat
  held : List Nat
  chiselMove : Option Nat
  fencedOther : List (Nat × Nat)
  rots : List CoreRot
  coreQueue : List CoreReq
  paused : Store (Option Paused)
  retests : List (Nat × Nat)
  deriving DecidableEq, Repr

/-! ### Cores (chapters 10 and 11) -/

/-- A pending repeat (R237): the iterations left, the prefix's own address, whether it is REPI, and whether no iteration has begun. -/
structure Rep where
  left : Nat
  prefixPc : Nat
  isRepI : Bool
  fresh : Bool
  deriving DecidableEq, Repr

/-- A pending stalling read (R185): the Flume, the destination register, and the length of the instruction in words. -/
structure PendRead where
  flume : Nat
  dest : Nat
  len : Nat
  deriving DecidableEq, Repr

/-- The architectural state of one slot (R223, R224). `stack` holds the return-stack entries by ring position, `sp` the position the next
push takes, `depth` RSD; `trapNext` is the address of the instruction after the one that trapped, unknown once TPC is written; `passBrk` lets START pass a breakpoint;
`stepping` marks a STEP in progress, `haltAfter` a HALT deferred to the end of a REP repetition; `resume` is the count with which a retried
repeat prefix runs (R235); `resumeDue` a KICK or wake-Flume packet that reached the slot while parked (R241). -/
structure Slot where
  regs : Store TWord
  pc : Nat
  flags : BitVec 10
  tvec : Nat
  tpc : Nat
  tcause : Word
  tinfo : Word
  rcount : Word
  stack : Store Nat
  sp : Nat
  depth : Nat
  rep : Option Rep
  pend : Option PendRead
  trapNext : Option Nat
  passBrk : Bool
  stepping : Bool
  haltAfter : Bool
  resume : Option Nat
  rotations : Nat
  resumeDue : Bool
  deriving DecidableEq, Repr

/-- The reset values of R223. -/
def Slot.reset : Slot := ⟨[], 0, 0#10, 0, 0, 0#32, 0#32, 0#32, [], 0, 0, none, none, none, false, false, false, none, 0, false⟩

/-- The state of the cores beside their registers: the slots; program memory by physical unit (unit × 65,536 + address, Spindle units 0
to 8, Bowl units 16 to 20), decode tables (unit × 32 + entry) and microcode stores (unit × 1,024 + address); the kind that a comparison of R244
runs for, the kinds whose spare an activation holds; and of each word of these memories the physical bits (data below check bits) that differ from what
the loader stored (R272). -/
structure Cores where
  slots : Store Slot
  prog : Store (BitVec 14)
  decode : Store Word
  ucode : Store (BitVec 48)
  checking : Option Nat
  spareHeld : List Nat
  codeFlip : Store (BitVec 55)
  deriving DecidableEq, Repr

/-! ### Lathe (chapter 03) -/

/-- One event of the heap (R86): the slot, the due instant (1/1,024 tick) and the event priority. -/
structure HeapEv where
  slot : Nat
  due : Nat
  eprio : Nat
  deriving DecidableEq, Repr

/-- A lane that hit a window (R92); `gone` once it has left SEARCH. -/
structure Hit where
  lane : Nat
  gone : Bool
  deriving DecidableEq, Repr

/-- A registered window (R91, R92): the context and the counter of its event, the port, the groups (bin, width) it covers, its instants,
the lanes tracked (at most four), how often it was hit, whether a hit was withdrawn by a restart, whether the port was
active at some instant of it, whether it was served past the declaration log's reach, and whether its listen end has passed. -/
structure Window where
  slot : Nat
  ctr : Nat
  port : Nat
  groups : List (Nat × Nat)
  openAt : Nat
  closeAt : Nat
  listenEnd : Nat
  noBoost : Bool
  hits : List Hit
  times : Nat
  withdrawn : Bool
  wasActive : Bool
  late : Bool
  ended : Bool
  deriving DecidableEq, Repr

/-- What became of the lane of an accepted declaration: it searches on it still, it has left SEARCH, it has restarted. -/
inductive DeclFate where
  | searching | gone | restarted
  deriving DecidableEq, Repr

/-- An accepted declaration of the declaration log (R89). -/
structure DeclRec where
  port : Nat
  bin : Nat
  width : Nat
  start : Nat
  lane : Nat
  at_ : Nat
  fate : DeclFate
  deriving DecidableEq, Repr

/-- A span in which a port was active (R38, R90): the instants it began and ended, none while it lasts. -/
structure PortSpan where
  port : Nat
  from_ : Nat
  till : Option Nat
  deriving DecidableEq, Repr

/-- A held event (R95): the handed-off counter, its kind, its monitor, the span it occupies, its priority, whether its context is still
ACTIVE, whether a DISARM is held for it (R74), and whether its window has left the table with a hit or its ramp has started. -/
structure HeldEv where
  slot : Nat
  ctr : Nat
  lead : Bool
  mon : Option Nat
  port : Nat
  occFrom : Nat
  occTo : Nat
  eprio : Nat
  active : Bool
  disarm : Bool
  wasHit : Bool
  deriving DecidableEq, Repr

/-- An event that came due before the core domain had woken (R90), and whether a DISARM is held for it (R74). -/
structure DueEv where
  ev : HeapEv
  disarm : Bool
  deriving DecidableEq, Repr

/-- Lathe's state beside its registers and context SRAM: the heap, the events that wait in DUE for the core domain to wake, the window
table, the declaration log with the acceptance instant of the latest entry overwritten before its time, the held events, the armed
BACKBONE slots, the counter of the latest event of each slot that Lathe cancelled (R95), whether a REBUILD runs, whether one has been
issued since the heap was lost (R76), and the spans in which the ports were active. -/
structure Lathe where
  heap : List HeapEv
  due : List DueEv
  windows : List Window
  declLog : List DeclRec
  logLost : Option Nat
  held : List HeldEv
  backbone : List Nat
  stale : Store (Option Nat)
  rebuilding : Bool
  rebuilt : Bool
  spans : List PortSpan
  deriving DecidableEq, Repr

/-! ### Synthesisers and transmit chains (chapter 04) -/

/-- One port's synthesiser beside its registers: the calibration cache (segment, junction temperature; most recently used first), the centre
frequency in force while an FC write is held (R104), a held CAL request (R107), the frequency of the calibration or lock in progress, and
whether the port is blanked (R61). -/
structure Syn where
  cache : List (Nat × Int)
  fcWas : Option Nat
  heldCal : Option Nat
  calFreq : Nat
  blanked : Bool
  deriving DecidableEq, Repr

/-- A descriptor with its frame as the chain copied it (R108, R109). -/
structure TxDesc where
  power : Int
  fcs32 : Bool
  whiten : Bool
  fec : Bool
  len : Nat
  octets : List Byte
  deriving DecidableEq, Repr

/-- A transmission request (R108, R110, R111): scheduled (ID is the handle) or free, with its frame if it has one.  `res` is RES in µs for
a scheduled start; instants are in 1/1,024 tick. -/
structure TxReq where
  sched : Bool
  id : Word
  ctr : Nat
  asap : Bool
  e : Nat
  freq : Nat
  mode : Nat
  res : Nat
  q : Nat
  desc : Option TxDesc
  deriving DecidableEq, Repr

/-- A ramp-down: the instant it started and its length in µs (R117). -/
structure RampDown where
  at_ : Nat
  us : Nat
  deriving DecidableEq, Repr

/-- A transmission that has claimed the synthesiser (R111): the request, whether a calibration ran, whether a lock failure has been
reported, the grant (predicted µs, covering records, the record of the shortest dwell and that dwell in µs, applied power, clamp), the ramp
copied at G, the symbols the emission puts on the air (set at the ramp start), the instant the ramp started, the ramp-down, and the outcome
that ends it when its ramp-down or calibration completes. -/
structure TxNow where
  req : TxReq
  cal : Bool
  lockFailed : Bool
  granted : Bool
  predicted : Nat
  cover : List Nat
  dwell : Nat × Nat
  power : Int
  clamped : Bool
  ramp : Nat
  shape : List Nat
  onAir : List Int
  rampStart : Option Nat
  down : Option RampDown
  ending : Option (Nat × Nat)
  deriving DecidableEq, Repr

/-- One port's transmit chain: the scheduled starts held, the free transmission held, the claimed transmission. -/
structure Tx where
  scheds : List TxReq
  free : Option TxReq
  now : Option TxNow
  deriving DecidableEq, Repr

/-- One port's synthesiser and transmit chain. -/
structure Rf where
  syn : Syn
  tx : Tx
  deriving DecidableEq, Repr

/-- A port's synthesiser and transmit chain with nothing held, nothing cached. -/
def Rf.idle : Rf := ⟨⟨[], none, none, 0, false⟩, ⟨[], none, none⟩⟩

/-! ### Weir (chapter 05) -/

/-- The Weir beside its registers: the number of the current ledger bucket, the charges (key bucket × 8 + record, µs), the last-off instant
of each record, the bucket of each record's cold-hold charge, and per port the instant from which the supply rule's 1 ms runs and the level
of VPA in mV that the latest command reported (log entry 107). -/
structure Weir where
  bucket : Nat
  ledger : Store Nat
  lastOff : Store (Option Nat)
  cold : Store (Option Nat)
  supplyFrom : Store Nat
  vpa : Store Nat
  deriving DecidableEq, Repr


/-! ### Chisel (chapter 07) -/

/-- A key-table entry (R162): 256 key bits, SIZE and VALID. -/
structure KeyEntry where
  bits : BitVec 256
  size : Nat
  valid : Bool
  deriving DecidableEq, Repr

/-- An entry that no firmware has loaded. -/
def KeyEntry.blank : KeyEntry := ⟨0#256, 0, false⟩

/-- A chaining state (R164, R169): MODE, DIR, KEYIDX, the octets processed, CHAIN and MAC. -/
structure ChainState where
  mode : Nat
  dir : Bool
  key : Nat
  count : Nat
  chain : List Nat
  mac : List Nat
  deriving DecidableEq, Repr

/-- A job a core runs (R155 to R173): queue, descriptor words, the key copied at dispatch, the chaining state it starts from, the status a
check at dispatch gave (none while the job proceeds), a bad word met at dispatch, and for CCM-LINK the nonce, the level, H and B as read
and the new window; `orphan`, whether the lease it ran under has ended (R170). -/
structure Job where
  core : Nat
  queue : Nat
  words : List TWord
  key : List Nat
  chain : ChainState
  status : Option Nat
  badAt : Option Nat
  nonce : List Nat
  level : Nat
  win : Nat × Nat
  newWin : Nat × Nat
  orphan : Bool
  deriving DecidableEq, Repr

/-- Chisel beside its registers: the key table, WSEQ, the lease (token, expiry TICK[31:0]), the internal chaining state of LOCK sharing, the
running jobs, and the physical core of each serving position (255 none). -/
structure Chisel where
  keys : Store KeyEntry
  wseq : Nat
  lease : Option (Nat × Nat)
  inner : Option ChainState
  jobs : List Job
  pos : Store Nat
  deriving DecidableEq, Repr



/-! ### Spout and QSP (chapter 16) -/

/-- A command held by a transport (R369): the transport (0 UART, 1 QSP slave, 2 Aqueduct A, 3 Aqueduct B, 4 over the air), its octets, its
phase (0 waiting for the engine, 1 taken, 2 a pending soft command, 3 its reply is being sent), the reply's octets, the cable address to
answer (R374) or the cookie (R375), the TICK at which a soft request was written, and whether an S reset follows the reply (R367). -/
structure HeldCmd where
  src : Nat
  octets : List Byte
  phase : Nat
  reply : List Byte
  back : Word
  softAt : Nat
  thenReset : Bool
  deriving DecidableEq, Repr

/-- Spout's state beside its registers: the held commands in order of completion, whether the UART ignores octets until a gap, and the QSP
slave's window (R373): buffered octets, reply octets consumed, and the SCOUNT counters. -/
structure Spout where
  held : List HeldCmd
  uartIgnore : Bool
  cmdFifo : List Byte
  replyPos : Nat
  partials : Nat
  shorts : Nat
  busyWr : Nat
  deriving DecidableEq, Repr

/-- An indirect QSP frame that runs (R376): direction, length, buffer, the octets a write frame sends, what the
lanes carry in each SCK cycle of the phases the master drives (none in a dummy cycle); `aborting` once GO.ABORT or a power-state entry ends it at the next octet boundary. -/
structure QspFrame where
  isWrite : Bool
  len : Nat
  buf : Nat
  octets : List Byte
  wire : List (Option Nat)
  aborting : Bool
  deriving DecidableEq, Repr

/-- The QSP masters beside their registers: the running frame of each, the prefetch lines of the direct map (line address, octets; newest
first), and whether continuous mode is entered (R377). -/
structure Qsp where
  frames : Store (Option QspFrame)
  lines : List (Nat × List Byte)
  cont : Bool
  deriving DecidableEq, Repr

/-! ### Aqueduct (chapter 09) -/

/-- A frame being received (R206 to R208, R213): header, stamp (1/1,024 tick), how it is delivered (0 not, 1 as a record, 2 to the Spout
engine), its buffer, an outcome decided at the header, and whether it is repeated, and by cut-through. -/
structure AqRx where
  hdr : BitVec 48
  stamp : Nat
  deliver : Nat
  buf : Option Word
  early : Option Nat
  repeated : Bool
  cut : Bool
  rate : Nat
  deriving DecidableEq, Repr

/-- A frame being sent (R203, R211 to R215): 0 a local descriptor's, 1 from the repeat buffer, 2 by cut-through; `ready` once its payload and
CRC are complete; the amplitude applied. -/
structure AqTx where
  kind : Nat
  id : Word
  hdr : BitVec 48
  octets : List Byte
  crc : BitVec 32
  ready : Bool
  amp : Nat
  clamped : Bool
  stamp : Nat
  deriving DecidableEq, Repr

/-- The repeat buffer of a port's transmitter (R214): the header to send, and once the frame is whole its payload and CRC. -/
structure AqRpt where
  hdr : BitVec 48
  body : Option (List Byte × BitVec 32)
  deriving DecidableEq, Repr

/-- One Aqueduct port beside its registers: the training phase (0 none, 1 wake tone, 2 before EXCHANGE, 3 FULL), the instant of W0 or R0, the
rate being tried, the instant a back-off ends, whether the port is to initiate, and its frames. `burst` counts consecutive repeated
frames (R215); `line` is the latest tone, word, flag, frame or idle run the port has put on the line, symbol by symbol in R197's unit, and
`nextSync` the earliest stamp the sync of its next frame can have (R203). -/
structure AqPort where
  phase : Nat
  since : Nat
  backoff : Option Nat
  want : Bool
  rx : Option AqRx
  tx : Option AqTx
  rpt : Option AqRpt
  burst : Nat
  line : List Int
  nextSync : Nat
  deriving DecidableEq, Repr

/-- A port that does nothing. -/
def AqPort.idle : AqPort := ⟨0, 0, none, false, none, none, none, 0, [], 0⟩


/-! ### Cistern and option area (chapter 12) -/

/-- A program line that is not ERASED (R277): its eight words (word `i` in bits 32i + 31:32i), which bits differ from what was programmed,
and whether it is TORN rather than PROGRAMMED. -/
structure CistLine where
  data : BitVec 256
  flip : BitVec 256
  torn : Bool
  deriving DecidableEq, Repr

/-- The command sequence in progress (R281): none; the first unlock store seen; unlocked; the first command store of ERASE, OPT_WRITE or
LOCK (coded as STATUS.OP) seen, then its second unlock; a PROGRAM with the line address and words stored so far. -/
inductive CistSeq where
  | idle
  | unlock
  | unlocked
  | cmd (op : Nat)
  | cmdUnlock (op : Nat)
  | cmdUnlocked (op : Nat)
  | prog (line : Nat) (words : List Word)
  deriving DecidableEq, Repr

/-- An operation of the Cistern (R282 to R293): coded as STATUS.OP, its target address, the line a PROGRAM writes, the lock bits a LOCK has
still to set (bit 11 TEST_CLOSED), the image an OPT_WRITE programs, an erase's run: accumulated, and the instant it last started, and the
instant until which its journal sector change lasts. -/
structure CistOp where
  op : Nat
  addr : Nat
  line : BitVec 256
  mask : BitVec 12
  image : Store Word
  run : Nat
  since : Nat
  rotTill : Nat
  deriving DecidableEq, Repr

/-- One physical copy of option-area offsets 0x0000 to 0x7FFF (R291): the words by offset ÷ 4 that differ from a part as shipped, its
OPT_SEQ, and whether its commit line and CRC are valid. -/
structure OptCopy where
  words : Store Word
  seq : Nat
  valid : Bool
  deriving DecidableEq, Repr

/-- One entry of the erase journal (R289). -/
structure JEntry where
  seq : Nat
  kind : Nat
  block : Nat
  tick : Nat
  deriving DecidableEq, Repr

/-- The Cistern beside its registers: the lines by number that differ from a part as shipped, the lines the stream buffers hold (latest first), the
sequence and the TICK of its latest step, the running and the suspended operation, whether firmware asked for the suspension (R287), the
INCOMPLETE blocks, the option copies, the two journal sectors, the one in use and the number of the latest entry, and the bits in error of
option-area lines: of copy A from 0, of copy B from 1,024, of the journal from 2,048. -/
structure Cist where
  lines : Store (Option CistLine)
  buffers : List Nat
  seq : CistSeq
  seqTick : Nat
  op : Option CistOp
  susp : Option CistOp
  fwSusp : Bool
  incomplete : List Nat
  optA : OptCopy
  optB : OptCopy
  journal0 : List JEntry
  journal1 : List JEntry
  sector : Nat
  entrySeq : Nat
  optFlips : Store (BitVec 256)
  deriving DecidableEq, Repr

/-! ### Amelaog (chapter 17) -/

/-- A submitted transfer unit (R387): chunk index, its MAC and its octets. -/
structure AmChunk where
  index : Nat
  mac : List Nat
  body : List Nat
  deriving DecidableEq, Repr

/-- Amelaog beside its registers: the header under check or of the open reception, its target slot, the TICK at which the latest Chisel job
was submitted, the MAC of each stored chunk, the chunk in progress; for an activation the groups still to convert (1 Spindle, 2 Bowl, 3 lanes,
5 and 6 the data types), what has been converted (group and slots, latest first), the TICK at which the wait for the next slot began, and for
each type of the set the slot in force before and the new one. -/
structure Am where
  hdr : List Word
  slot : Nat
  jobTick : Nat
  stored : Store (Option (List Nat))
  chunk : Option AmChunk
  order : List Nat
  undo : List (Nat × List Nat)
  since : Nat
  old : Store Nat
  new : Store Nat
  deriving DecidableEq, Repr

/-! ### The whole machine -/

/-- The one-way lock cells of R125, R290 and R293: bit `b` of `lockWord` is 1 once lock `b` is set; `testClosed` once TEST_CLOSED is. -/
structure Cells where
  lockWord : BitVec 11
  testClosed : Bool
  deriving DecidableEq, Repr

/-- The device beside its lock cells and its queue. `regs` holds every register that differs from its reset value; `junction` is the junction
temperature in °C that the latest command reported (R106); `pins` the levels the board gives the GPIO balls;
`readOut`, the MODEL's own field, the value that the latest command that is a read returned to its master. `freeCount` is the
MODEL's own field: it numbers the free values drawn. -/
structure Dev where
  regs : Store Word
  sram : Store SramWord
  flumes : Store Flume
  clep : Clep
  sluice : Sluice
  well : Well
  basin : Basin
  lathe : Lathe
  rf : Store Rf
  weir : Weir
  junction : Int
  chisel : Chisel
  repair : Repair
  cores : Cores
  spout : Spout
  qsp : Qsp
  aqua : Store AqPort
  cist : Cist
  am : Am
  pins : BitVec 24
  readOut : TWord
  freeCount : Nat
  deriving DecidableEq, Repr

/-- The state of the block: the queue of waiting commands, first in first out; the lock cells; the device. -/
structure State where
  pending : List Instr
  cells : Cells
  dev : Dev
  deriving DecidableEq, Repr

/-- Why the machine stops with a fault. -/
inductive Fault where
  /-- No command raises it: every command the queue can hold has an effect, one whose operands fit no word included.  Kept so
  that the type of faults has a name for a command the interface cannot carry.  Safe. -/
  | illFormed
  deriving DecidableEq, Repr

/-- Why a command has no meaning. -/
inductive Refusal where
  /-- A command that has no meaning yet, by its mnemonic in the opcode table.  Safe: nothing runs. -/
  | notModelled (mnemonic : String)
  deriving DecidableEq, Repr

/-- The Clepsydra at a cold start. -/
def Clep.reset : Clep := ⟨0#48, 0#48, 0#48, 0#10, false, 0, 0, [], [], false, false, false, none⟩

/-- Sluice at a cold start. -/
def Sluice.reset : Sluice := ⟨[], 63, 0, false, [], [], false, 0, [], []⟩

/-- Wellspring at a cold start, its supplies present. -/
def Well.reset : Well := ⟨0#16, 0#16, 0, 0, 0#16, [], false, false, 0, false, 0#2⟩

/-- Basin at a cold start. -/
def Basin.reset : Basin := ⟨[], [], [], 0, []⟩

/-- Lathe at a cold start. -/
def Lathe.reset : Lathe := ⟨[], [], [], [], none, [], [], [], false, false, []⟩

/-- The Weir at a cold start. -/
def Weir.reset : Weir := ⟨0, [], [], [], [], []⟩

/-- Chisel at a cold start. -/
def Chisel.reset : Chisel := ⟨[], 0, none, none, [], []⟩

/-- The repair engine at a cold start: every unit serves in its own place (R351). -/
def Repair.reset : Repair := ⟨[], [], [], [], [], none, [], [], [], 0, [], none, [], [], [], [], []⟩

/-- The cores at a cold start. -/
def Cores.reset : Cores := ⟨[], [], [], [], none, [], []⟩

/-- Spout at a cold start. -/
def Spout.reset : Spout := ⟨[], false, [], 0, 0, 0, 0⟩

/-- The QSP masters at a cold start. -/
def Qsp.reset : Qsp := ⟨[], [], false⟩

/-- The Cistern of a part as shipped: copy A of the option area valid. -/
def Cist.reset : Cist := ⟨[], [], .idle, 0, none, none, false, [], ⟨[], 1, true⟩, ⟨[], 0, false⟩, [], [], 0, 0, []⟩

/-- Amelaog idle. -/
def Am.reset : Am := ⟨[], 0, 0, [], none, [], [], 0, [], []⟩

/-- The device after a cold start. -/
def Dev.reset : Dev := ⟨[], [], [], Clep.reset, Sluice.reset, Well.reset, Basin.reset, Lathe.reset, [], Weir.reset, 25, Chisel.reset,
  Repair.reset, Cores.reset, Spout.reset, Qsp.reset, [], Cist.reset, Am.reset, 0#24, ⟨0#32, .raw⟩, 0⟩

/-- The machine right after reset. -/
def State.reset : State := ⟨[], ⟨0#11, false⟩, Dev.reset⟩

end Sys2Proof.Machine
end

