-- ==== Sys2Proof/Machine/Ops.lean ====
section
/-! DEFINITION. The named operations every unit is written with: register fields, free values, time and stamps, the fault log, wake
sources, Flumes, the tagged SRAM, and the deadline monitors. -/

namespace Sys2Proof

/-! ### Agents -/

/-- The AGENT field of a fault record (R333). -/
def Master.agent : Master → Nat
  | .spindle _ => 1
  | .bowl _ => 2
  | .spout _ => 3

/-- The AGENT_NO field of a fault record (R333). -/
def Master.agentNo : Master → Nat
  | .spindle s => s.val
  | .bowl s => s.val
  | .spout t => t.val

/-- The INST of a master (R337): slot 0 to 11, or 12 for the Spout engine. -/
def Master.inst : Master → Nat
  | .spindle s => s.val
  | .bowl s => 8 + s.val
  | .spout _ => 12

/-- LB.0, the power steward (R296, R355). -/
def Master.isLB0 : Master → Bool
  | .bowl s => s.val == 0
  | _ => false

/-- The agent and its number that a record about an access of the master names. -/
def Master.who (m : Master) : Nat × Nat := (m.agent, m.agentNo)

/-- A stamp as an instant in 1/1,024 tick. -/
def Stamp.inst (s : Stamp) : Nat := s.tick.toNat * 1024 + s.frac.toNat

end Sys2Proof

namespace Sys2Proof.Machine

/-! ### Outcomes and register fields -/

/-- The command's effect is `f` on the device; the queue and the lock cells stay. -/
def onDev (s : State) (f : Dev → Dev) : Host.Outcome State Fault Refusal := .next { s with dev := f s.dev }

/-- The command's effect is `f` of the lock cells on the device; the queue and the lock cells stay. -/
def onDevC (s : State) (f : Cells → Dev → Dev) : Host.Outcome State Fault Refusal := .next { s with dev := f s.cells s.dev }

/-- The command's effect is `f` on the lock cells and the device; the queue stays. -/
def onBoth (s : State) (f : Cells → Dev → Cells × Dev) : Host.Outcome State Fault Refusal :=
  .next { s with cells := (f s.cells s.dev).1, dev := (f s.cells s.dev).2 }

/-- The whole register at address `a`. -/
def Dev.reg (d : Dev) (a : Nat) : Word := Store.get (resetWord a) d.regs a

/-- Sets the whole register at address `a`. -/
def Dev.setReg (d : Dev) (a : Nat) (w : Word) : Dev := { d with regs := Store.put (resetWord a) d.regs a w }

/-- Bits `[lo + width - 1 : lo]` of a word. -/
def bitsOf (w : Word) (lo width : Nat) : Nat := w.toNat / 2 ^ lo % 2 ^ width

/-- `w` with bits `[lo + width - 1 : lo]` replaced by the low bits of `v`. -/
def setBits (w : Word) (lo width v : Nat) : Word :=
  BitVec.ofNat 32 (w.toNat - bitsOf w lo width * 2 ^ lo + v % 2 ^ width * 2 ^ lo)

/-- The value of a register field. -/
def Dev.rd (d : Dev) (f : Fld) : Nat := bitsOf (d.reg f.addr) f.lo f.width

/-- Sets a register field to the low bits of `v`. -/
def Dev.wr (d : Dev) (f : Fld) (v : Nat) : Dev := d.setReg f.addr (setBits (d.reg f.addr) f.lo f.width v)

/-- Whether a one-bit field is 1. -/
def Dev.on (d : Dev) (f : Fld) : Bool := d.rd f == 1

/-- Sets a field to all ones: an event flag. -/
def Dev.setF (d : Dev) (f : Fld) : Dev := d.wr f (2 ^ f.width - 1)

/-- Writes a truth value to a one-bit field. -/
def Dev.wrB (d : Dev) (f : Fld) (b : Bool) : Dev := d.wr f (if b then 1 else 0)

/-- Adds `k` to a counter field that saturates at all ones. -/
def Dev.add (d : Dev) (f : Fld) (k : Nat) : Dev := d.wr f (min (d.rd f + k) (2 ^ f.width - 1))

/-- Adds 1 to a saturating counter field. -/
def Dev.inc (d : Dev) (f : Fld) : Dev := d.add f 1

/-- A read command returns `w`, tagged RAW (R225), to its master. -/
def Dev.answer (d : Dev) (w : Word) : Dev := { d with readOut := ⟨w, .raw⟩ }

/-- Reads a field as a signed number in two's complement. -/
def Dev.rdS (d : Dev) (f : Fld) : Int :=
  if d.rd f < 2 ^ (f.width - 1) then (d.rd f : Int) else (d.rd f : Int) - (2 ^ f.width : Nat)

/-- An integer as `width` bits in two's complement. -/
def twos (width : Nat) (v : Int) : Nat := (v % ((2 ^ width : Nat) : Int)).toNat

/-- The signed value of the low `width` bits of `n`. -/
def signed (width n : Nat) : Int :=
  if n % 2 ^ width < 2 ^ (width - 1) then ((n % 2 ^ width : Nat) : Int) else ((n % 2 ^ width : Nat) : Int) - ((2 ^ width : Nat) : Int)

/-- A number limited to the range `lo` to `hi`. -/
def clampN (lo hi v : Nat) : Nat := max lo (min hi v)

/-! ### Free values -/

/-- Draws a free 32-bit value (log entry 3). -/
def Dev.drawWord (d : Dev) : Word × Dev := (Config.freeWord d.freeCount, { d with freeCount := d.freeCount + 1 })

/-- Draws a free truth value (log entry 3). -/
def Dev.drawBool (d : Dev) : Bool × Dev := (Config.freeBool d.freeCount, { d with freeCount := d.freeCount + 1 })

/-- Draws the octets an outside event left in a lane, at most `n` of them (log entry 4). -/
def Dev.drawOctets (d : Dev) (n : Nat) : List Byte × Dev :=
  ((Config.airOctets d.freeCount).take n, { d with freeCount := d.freeCount + 1 })

/-- Draws exactly `n` octets that the air had supplied (log entry 4). -/
def Dev.drawExact (d : Dev) (n : Nat) : List Byte × Dev :=
  ((List.range n).map fun i => (Config.airOctets d.freeCount).getD i 0#8, { d with freeCount := d.freeCount + 1 })

/-- Draws a measured quality value, or another number within bounds that the spec gives, below `bound` (log entries 4, 110, 111). -/
def Dev.drawQuality (d : Dev) (bound : Nat) : Nat × Dev :=
  (Config.airQuality d.freeCount % bound, { d with freeCount := d.freeCount + 1 })

/-- The core slot 0 to 11 as a master: Spindle slots 0 to 7, Bowl slots 8 to 11. -/
def masterOfSlot (s : Nat) : Master :=
  if h : s < 8 then .spindle ⟨s, h⟩ else if h' : s - 8 < 4 then .bowl ⟨s - 8, h'⟩ else .bowl ⟨3, by decide⟩

/-! ### Power state and ports -/

/-- WELL.STATUS.STATE (R315): 0 RUN, 1 DOZE, 2 NAP, 3 HIBERNATE, 4 SHELF, 5 ENTERING, 6 WAKING, 7 WAITING. -/
def Dev.power (d : Dev) : Nat := d.rd WELL.STATUS_STATE

/-- The device is in RUN; a request that waits (WAITING) is still RUN (R296). -/
def Dev.running (d : Dev) : Bool := d.power == 0 || d.power == 7

/-- Whether the non-spared unit of KIND 6 to 9 of a port is fenced (R337, R350: option offset 0x0228). -/
def Dev.fencedPort (d : Dev) (kind p : Nat) : Bool := (d.reg (REPAIR.MAP_at 10)).getLsbD (2 * p + (kind - 6))

/-- Whether the Aqueduct port or Ripple receiver `p` (KIND 10 or 11) is fenced (R350). -/
def Dev.fencedAqRip (d : Dev) (kind p : Nat) : Bool :=
  (d.reg (REPAIR.MAP_at 10)).getLsbD ((if kind == 10 then 8 else 10) + p)

/-- Enters the fence of a non-spared unit in the live repair map (R350): KIND 6 to 9 of a port, an Aqueduct port (10) or a Ripple
receiver (11). -/
def Dev.fencePortUnit (d : Dev) (kind p : Nat) : Dev :=
  let bit := if kind == 10 then 8 + p else if kind == 11 then 10 + p else 2 * p + (kind - 6)
  d.setReg (REPAIR.MAP_at 10) (d.reg (REPAIR.MAP_at 10) ||| Word.ofNat (2 ^ bit))

/-- BASIN.CTRL.PORT_EN of port `p`. -/
def portEnFld (p : Nat) : Fld := if p == 0 then BASIN.CTRL_PORT_EN_A else BASIN.CTRL_PORT_EN_B

/-- RFx.SYN_STATUS.STATE of a synthesiser that is locked at fc (R102). -/
def synRX : Nat := 3

/-- Whether a master can act (R296, R310): the core domain has power and is not asleep in NAP, HIBERNATE or SHELF. -/
def Dev.mastersUp (d : Dev) : Bool := !d.well.coreOff && !(2 ≤ d.power && d.power ≤ 4)

/-- Whether the unit with block number `u` of R33 is held in reset in STOPPED (R353): every unit of the core domain but the Spout engine
and what its hard opcodes work on. -/
def blockHeld (u : Nat) : Bool := !([1, 2, 3, 4, 9, 14, 15, 16].contains u)

/-- Whether an access of a master to block `u` reaches its unit. -/
def Dev.blockOpen (d : Dev) (u : Nat) : Bool := d.mastersUp && !(d.on SLUICE.STATUS_STOPPED && blockHeld u)

/-- A master's access to block `u` has the effect `f` on the device. -/
def onBus (s : State) (u : Nat) (f : Dev → Dev) : Host.Outcome State Fault Refusal :=
  onDev s fun d => if d.blockOpen u then f d else d

/-- A master's access to block `u` has the effect `f` of the lock cells on the device. -/
def onBusC (s : State) (u : Nat) (f : Cells → Dev → Dev) : Host.Outcome State Fault Refusal :=
  onDevC s fun c d => if d.blockOpen u then f c d else d

/-- Whether port `p` is active (R38): enabled, the device in RUN, neither the front end nor the channeliser fenced, and the synthesiser
in state RX. -/
def Dev.portActive (d : Dev) (p : Nat) : Bool :=
  d.on (portEnFld p) && d.running && !d.fencedPort 8 p && !d.fencedPort 9 p && !d.fencedPort 6 p
    && d.rd (RF.SYN_STATUS_STATE p) == synRX

/-- Whether any Basin port is active (R20, R318). -/
def Dev.anyActive (d : Dev) : Bool := d.portActive 0 || d.portActive 1

/-! ### Time and stamps -/

/-- TICK as the units see it: the three copies agree except between an upset and the vote at the next edge (R317), and copy A is read. -/
def Dev.tick (d : Dev) : Nat := d.clep.tickA.toNat

/-- TICK[31:0]. -/
def Dev.tick32 (d : Dev) : Nat := d.tick % 2 ^ 32

/-- The instant as the transmit chain's converter island measures it, in 1/1,024 tick (log entry 7). -/
def Dev.rfNow (d : Dev) : Nat := d.tick * 1024 + (if d.clep.swallowed then 1023 else d.clep.frac.toNat)

/-- The present fraction: 0 while no port is active, 1,023 in a swallowed period (R318). -/
def Dev.frac (d : Dev) : Nat :=
  if !d.anyActive then 0 else if d.clep.swallowed then 1023 else d.clep.frac.toNat

/-- The present instant in 1/1,024 tick. -/
def Dev.now (d : Dev) : Nat := d.tick * 1024 + d.frac

/-- The command's own fraction becomes the present one; time does not run backwards within a period. -/
def Dev.atFrac (d : Dev) (f : BitVec 10) : Dev :=
  { d with clep := { d.clep with frac := if d.clep.frac.toNat ≤ f.toNat then f else d.clep.frac } }

/-- The ticks from instant `a` to instant `b`, both modulo 2^32 ticks. -/
def ticksFrom (a b : Nat) : Nat := (b + 2 ^ 32 - a % 2 ^ 32) % 2 ^ 32

/-! ### Wake sources -/

/-- Which power states a wake source can wake (R302), by source number: a mask over DOZE (bit 1), NAP (bit 2), HIBERNATE (bit 3), SHELF
(bit 4). -/
def wakesFrom : Nat → Nat
  | 0 => 0x1E | 1 => 0x1E | 2 => 0x1E | 3 => 0x06 | 4 => 0x0E | 5 => 0x0E | 6 => 0x0C | 7 => 0x0C | 8 => 0x1E | 9 => 0x1E
  | 10 => 0x06 | 11 => 0x06 | 12 => 0x02 | 13 => 0x02 | 14 => 0x06 | 15 => 0x18 | _ => 0

/-- The level sources (R302); GPW0 and GPW1 are levels where LVL is 1. -/
def Dev.levelSources (d : Dev) : Nat :=
  0xF808 + (if d.on WELL.GPWAKE_LVL0 then 2 ^ 8 else 0) + (if d.on WELL.GPWAKE_LVL1 then 2 ^ 9 else 0)

/-- The enabled sources of `srcs` that can act in state `st` (R302). -/
def Dev.wakers (d : Dev) (srcs st : Nat) : Nat :=
  ((List.range 16).filter fun i => srcs.testBit i && (d.rd WELL.WAKE_EN_SOURCES).testBit i && (wakesFrom i).testBit st).foldl
    (fun n i => n + 2 ^ i) 0

/-- CORES.STATUS[s].STATE (R242): 0 HALTED, 1 RUN, 2 STALLED, 3 WAIT, 4 DOUBLE, 5 ROTATING, 6 UNSERVED, 7 BOOTING. -/
def Dev.slotState (d : Dev) (s : Nat) : Nat := d.rd (CORES.STATUS_STATE s)

/-- What slot `s` goes back to while it is ROTATING (R341). -/
def Dev.pausedAs (d : Dev) (s : Nat) : Option Paused := if d.slotState s == 5 then Store.get none d.repair.paused s else none

/-- The state slot `s` is in, or that the rotation under way takes it back to (R341). -/
def Dev.apparent (d : Dev) (s : Nat) : Nat :=
  match d.pausedAs s with
  | some p => p.was
  | none => d.slotState s

/-- Sets CORES.STATUS[s].STATE; while the slot is ROTATING, the state it goes back to. -/
def Dev.setSlotState (d : Dev) (s v : Nat) : Dev :=
  match d.pausedAs s with
  | some p => { d with repair := { d.repair with paused := Store.put none d.repair.paused s (some { p with was := v }) } }
  | none => d.wr (CORES.STATUS_STATE s) v

/-- The decline of LB.0's request (R296): flags set, STATE back to RUN, LB.0 resumes after its WAIT. -/
def Dev.decline (d : Dev) : Dev :=
  (((d.setF WELL.EVENTS_DECLINED).setF WELL.WAKE_CAUSE_DECLINED).wr WELL.STATUS_STATE 0).setSlotState 8 1

/-- The start of a wake (R303): STATE becomes WAKING and WAKE_CAUSE records the enabled sources `srcs` and the state left. -/
def Dev.beginWake (d : Dev) (srcs : Nat) (replayed early : Bool) : Dev :=
  let from_ := d.well.leaving
  let d := (((d.wr WELL.STATUS_STATE 6).wr WELL.WAKE_CAUSE_SOURCES srcs).wr WELL.WAKE_CAUSE_FROM from_)
  let d := ((d.wrB WELL.WAKE_CAUSE_REPLAYED replayed).wrB WELL.WAKE_CAUSE_EARLY early).wr WELL.WAKE_CAUSE_DECLINED 0
  let d := if replayed then d.setF WELL.EVENTS_REPLAYED else d
  if early then d.setF WELL.EVENTS_EARLY else d

/-- Wake source `src` fires (R296, R297, R299, R302, R303).  In RUN it sets its PEND bit, and in WAITING an enabled one also declines the
request; during an entry it is noted; in a sleeping state an enabled source that can act there starts the wake, or is latched while
the V_START hold of R303 keeps a HIBERNATE or SHELF wake back. -/
def Dev.fireWake (d : Dev) (src : Nat) : Dev :=
  let en := d.rd WELL.WAKE_EN_SOURCES
  let st := d.power
  if st == 0 || st == 6 then d.wr WELL.PEND_SOURCES (d.rd WELL.PEND_SOURCES ||| 2 ^ src)
  else if st == 7 then
    let d := d.wr WELL.PEND_SOURCES (d.rd WELL.PEND_SOURCES ||| 2 ^ src)
    if en.testBit src then d.decline else d
  else if st == 5 then { d with well := { d.well with fired := d.well.fired ||| BitVec.ofNat 16 (2 ^ src) } }
  else if en.testBit src && (wakesFrom src).testBit st then
    if d.well.mainOff && 3 ≤ st then { d with well := { d.well with held := d.well.held ||| BitVec.ofNat 16 (2 ^ src) } }
    else d.beginWake (d.wakers (2 ^ src ||| d.well.levels.toNat) st) false false
  else d

/-- A level source becomes asserted or not; asserting it fires it (R302). -/
def Dev.setLevel (d : Dev) (src : Nat) (on : Bool) : Dev :=
  let l := d.well.levels.toNat
  if on then
    ({ d with well := { d.well with levels := BitVec.ofNat 16 (l ||| 2 ^ src) } } : Dev).fireWake src
  else { d with well := { d.well with levels := BitVec.ofNat 16 (if l.testBit src then l - 2 ^ src else l) } }

/-! ### The fault log (R333 to R337) -/

/-- The class of a fault code (R336): 1 CORRECTED, 2 CONTAINED, 3 FATAL. -/
def faultClass (code : Nat) : Nat :=
  if code == 0x01 || code == 0x0E || code == 0x11 || code == 0x17 || code == 0x18 then 1
  else if 0x20 ≤ code then 3 else 2

/-- The reaction of a fault code whose reaction does not vary (R336). -/
def faultReaction (code : Nat) : Nat :=
  if code == 0x02 || code == 0x03 || code == 0x04 then 2
  else if code == 0x11 then 1
  else if code == 0x14 then 5
  else if code == 0x15 then 4
  else if code == 0x20 || code == 0x21 then 6
  else if code == 0x22 then 7
  else 0

/-- A fault as it is raised. -/
structure FaultInfo where
  code : Nat
  kind : Nat
  inst : Nat
  d0 : Nat
  d1 : Nat
  reaction : Nat
  agent : Nat
  agentNo : Nat
  injected : Bool
  deriving DecidableEq, Repr

/-- A fault with the reaction of its code and no agent. -/
def mkFault (code kind inst d0 d1 : Nat) : FaultInfo := ⟨code, kind, inst, d0, d1, faultReaction code, 0, 0, false⟩

/-- A fault raised by a unit (AGENT 5). -/
def mkUnitFault (code kind inst d0 d1 : Nat) : FaultInfo := ⟨code, kind, inst, d0, d1, faultReaction code, 5, 0, false⟩

/-- The agent that a record names for an access by a unit, and for one by no named agent (log entry 96). -/
def unitAgent : Nat × Nat := (5, 0)
def noAgent : Nat × Nat := (0, 0)

/-- A fault found by the access of agent `who`. -/
def mkFaultBy (who : Nat × Nat) (code kind inst d0 d1 : Nat) : FaultInfo := ⟨code, kind, inst, d0, d1, faultReaction code, who.1, who.2, false⟩

/-- A fault that names a master as its agent. -/
def mkMasterFault (m : Master) (code kind inst d0 d1 : Nat) : FaultInfo :=
  ⟨code, kind, inst, d0, d1, faultReaction code, m.agent, m.agentNo, false⟩

/-- The held records with their numbers, in number order. -/
def Sluice.held (s : Sluice) : List (Nat × LogRec) := s.log.filterMap fun e => e.2.map fun r => (e.1, r)

/-- The number of the record of lowest SEQ among those given (R334). -/
def oldestOf : List (Nat × LogRec) → Option (Nat × LogRec)
  | [] => none
  | e :: r =>
    match oldestOf r with
    | none => some e
    | some b => if b.2.seq < e.2.seq then some b else some e

/-- The record of highest SEQ among those given. -/
def newestOf : List (Nat × LogRec) → Option (Nat × LogRec)
  | [] => none
  | e :: r =>
    match newestOf r with
    | none => some e
    | some b => if e.2.seq < b.2.seq then some b else some e

/-- The next free record number after `n` in ring order, at most `fuel` steps on. -/
def nextFree (log : Store (Option LogRec)) : Nat → Nat → Nat
  | 0, n => n
  | fuel + 1, n =>
    let m := (n + 1) % 64
    match Store.get none log m with
    | none => m
    | some _ => nextFree log fuel m

/-- Writes a record at number `i` under the next SEQ (R333). -/
def Sluice.place (s : Sluice) (i : Nat) (r : LogRec) : Sluice :=
  { s with log := Store.put none s.log i (some { r with seq := s.seq + 1 }), lastNo := i, seq := s.seq + 1 }

/-- The record number a new fault of class `cls` overwrites in a full log (R334). -/
def logVictim (cls : Nat) (held : List (Nat × LogRec)) : Option Nat :=
  let oldest (c : Nat) := (oldestOf (held.filter fun e => e.2.cls == c)).map Prod.fst
  match cls with
  | 2 => oldest 1
  | 3 => match oldest 1 with
         | some i => some i
         | none => match oldest 2 with
                   | some i => some i
                   | none => oldest 3
  | _ => none

/-- Adds 1 to LOG_LOST and sets EVENTS.LOGLOST (R334). -/
def Dev.logLost (d : Dev) : Dev := (d.inc SLUICE.LOG_LOST_COUNT).setF SLUICE.EVENTS_LOGLOST

/-- Counts a fault in its class: counter and event flag (R334, R358). -/
def Dev.countFault (d : Dev) (cls : Nat) : Dev :=
  match cls with
  | 1 => (d.inc SLUICE.CORR_COUNT_COUNT).setF SLUICE.EVENTS_CORR
  | 2 => (d.inc SLUICE.CONT_COUNT_COUNT).setF SLUICE.EVENTS_CONT
  | _ => (d.inc SLUICE.FATAL_COUNT_COUNT).setF SLUICE.EVENTS_FATAL

/-- Whether a new CORRECTED fault is coalesced into the newest record (R334): equal CODE, KIND, INST and DETAIL0, and the record's LAST
within 32,768 ticks. -/
def coalesces (f : FaultInfo) (now32 : Nat) (r : LogRec) : Bool :=
  faultClass f.code == 1 && r.code == f.code && r.kind == f.kind && r.inst == f.inst && r.d0 == f.d0 &&
    ticksFrom r.last now32 ≤ 32768

/-- The new record of a fault. -/
def recOf (d : Dev) (f : FaultInfo) : LogRec :=
  { cls := faultClass f.code, code := f.code, kind := f.kind, inst := f.inst, reaction := f.reaction, late := false, rep := 0,
    tick := d.tick, frac := d.frac, d0 := f.d0, d1 := f.d1, agent := f.agent, agentNo := f.agentNo, injected := f.injected,
    last := d.tick32, seq := 0 }

/-- The SLUICE level source of R302 is asserted while a record is unread. -/
def Dev.sluiceWake (d : Dev) : Dev := if d.sluice.held.isEmpty then d.setLevel 14 false else d.setLevel 14 true

/-- Places a fault in the log (R334): coalesced, in a free record, over an older record of a lower class, or dropped. -/
def Dev.placeFault (d : Dev) (f : FaultInfo) : Dev :=
  let held := d.sluice.held
  match (newestOf held).filter fun e => coalesces f d.tick32 e.2 with
  | some (i, r) => { d with sluice := d.sluice.place i { r with rep := min (r.rep + 1) 255, last := d.tick32 } }
  | none =>
    if held.length < 64 then
      { d with sluice := d.sluice.place (nextFree d.sluice.log 64 d.sluice.lastNo) (recOf d f) }
    else match logVictim (faultClass f.code) held with
      | some i => ({ d with sluice := d.sluice.place i (recOf d f) } : Dev).logLost
      | none => d.logLost

/-- Whether a fault is the one an armed injection causes (R357). -/
def Inj.causes (i : Inj) (f : FaultInfo) : Bool :=
  if i.typ ≤ 2 then (f.code == 0x01 || f.code == 0x02) && f.d0 == i.inst
  else if i.typ == 6 then f.code == 0x04 && f.inst == i.inst
  else (i.typ == 4 || i.typ == 5) && f.kind == i.kind && f.inst == i.inst

/-- A fault that an armed injection causes is marked INJECTED, and the injection has acted (R357). -/
def Dev.takeInjection (d : Dev) (f : FaultInfo) : FaultInfo × Dev :=
  match (d.sluice.injections.filter fun i => i.causes f).head? with
  | some i => ({ f with injected := true }, { d with sluice := { d.sluice with injections := d.sluice.injections.erase i } })
  | none => (f, d)

/-- Sluice receives a fault: it is counted, logged, and asserts the SLUICE wake source (R302, R334). -/
def Dev.fault (d : Dev) (f : FaultInfo) : Dev :=
  let (f, d) := d.takeInjection f
  ((d.countFault (faultClass f.code)).placeFault f).sluiceWake

/-- Latches a FATAL fault (R352 step 1): the latch, the record, FATAL_INFO of the latching fault, HEARTBEAT low; the F reset waits. -/
def Dev.latchFatal (d : Dev) (f : FaultInfo) : Dev :=
  let first := !d.on SLUICE.STATUS_FATAL
  let d := d.fault f
  let d := if first then
      ((d.wr SLUICE.FATAL_INFO_CODE f.code).wr SLUICE.FATAL_INFO_KIND f.kind).wr SLUICE.FATAL_INFO_INST f.inst
    else d
  let d := if d.on SLUICE.STATUS_HB_RUN then d.setF SLUICE.EVENTS_HB_STOP else d
  let d := ((d.setF SLUICE.STATUS_FATAL).wr SLUICE.STATUS_HB_LEVEL 0).wr SLUICE.STATUS_HB_RUN 0
  { d with sluice := { d.sluice with fPending := true } }

/-- A bus-access fault (BUS, R5, R31, R32): the master as INST and as the agent, the address, and the value written or 0. -/
def Dev.busFault (d : Dev) (m : Master) (addr value : Nat) : Dev := d.fault (mkMasterFault m 0x06 21 m.inst addr value)

/-- Marks the DEADLINE record of SEQ `q` LATE and gives it a new SEQ, if it is still held (R24). -/
def Dev.markLate (d : Dev) (q : Nat) : Dev :=
  match (d.sluice.held.filter fun e => e.2.seq == q).head? with
  | some (i, r) => { d with sluice := d.sluice.place i { r with late := true } }
  | none => d

/-- Whether a fault injection of TYPE 4 or 5 for unit (kind, inst) is armed (R357). -/
def Sluice.injected (s : Sluice) (kind inst : Nat) : Option Inj :=
  (s.injections.filter fun i => (i.typ == 4 || i.typ == 5) && i.kind == kind && i.inst == inst).head?

end Sys2Proof.Machine
end

