-- ==== Sys2Proof/Machine/Mem.lean ====
section
/-! DEFINITION. The tagged SRAM: words with their error-correcting code, the faults a read reports, the row errors Sluice counts, and the
cyclic checks of R124 (chapters 00, 12 and 15). -/

namespace Sys2Proof.Machine

/-- Whether an address lies in Pool, context or packet SRAM (R30). -/
def isSram (a : Nat) : Bool := a < 0x600000

/-- The logical bank of an SRAM address: 0 to 63 Pool, 64 to 79 context, 80 to 95 packet (R267, R275). -/
def bankOf (a : Nat) : Nat := a / 0x10000

/-- The physical bank that serves a logical bank (R274, R337). -/
def Dev.physBank (d : Dev) (bank : Nat) : Nat := Store.get (17 * (bank / 16) + bank % 16) d.repair.bankPhys bank

/-- Makes physical bank `phys` serve logical bank `bank`. -/
def Dev.setPhysBank (d : Dev) (bank phys : Nat) : Dev :=
  { d with repair := { d.repair with bankPhys := Store.put (17 * (bank / 16) + bank % 16) d.repair.bankPhys bank phys } }

/-- The spare physical bank of a group; 255 where it has none (R274). -/
def Dev.groupSpare (d : Dev) (g : Nat) : Nat := Store.get (17 * g + 16) d.repair.bankSpare g

/-- Sets a group's spare physical bank. -/
def Dev.setGroupSpare (d : Dev) (g phys : Nat) : Dev :=
  { d with repair := { d.repair with bankSpare := Store.put (17 * g + 16) d.repair.bankSpare g phys } }

/-- The row of an address within its bank (R267). -/
def rowOf (a : Nat) : Nat := a / 0x100 % 256

/-- The number of physical bits in error. -/
def flipCount (f : BitVec 43) : Nat := (List.range 43).countP fun i => f.getLsbD i

/-- The row-repair word of physical bank `b` in the live map (R350: option offset 0x0400 + 4 × b). -/
def rowRepairAddr (b : Nat) : Nat := REPAIR.MAP_at (128 + b)

/-- REPAIR.CFG.STRIKE in ticks; 0 acts as 1 hour (R359). -/
def Dev.strikeTicks (d : Dev) : Nat := max 1 (d.rd REPAIR.CFG_STRIKE) * 3600 * 32768

/-- The first free spare row 0 or 1 of a physical bank, counting copies in progress. -/
def Dev.freeSpareRow (d : Dev) (b : Nat) : Option Nat :=
  let w := d.reg (rowRepairAddr b)
  let taken (k : Nat) := w.getLsbD (16 * k + 15) || d.repair.rowCopies.any fun c => c.bank == b && c.spare == k
  if !taken 0 then some 0 else if !taken 1 then some 1 else none

/-- The bank's rotation begins onto its group's spare bank (R274). -/
def Dev.startBankCopy (d : Dev) (c : BankCopy) : Dev :=
  ((({ d with repair := { d.repair with bankCopy := some c } } : Dev).setGroupSpare (c.logical / 16) 255).wr
    REPAIR.STATUS_BUSY 1).wr REPAIR.STATUS_KIND 5

/-- Sluice decides to replace a row (R273, R340): onto a spare row of its bank, otherwise the logical bank is rotated onto its group's
spare bank and the bank it leaves is fenced, after the rotation that runs if one does (R343), otherwise nothing. -/
def Dev.replaceRow (d : Dev) (logical phys row : Nat) : Dev :=
  if d.repair.rowCopies.any fun c => c.bank == phys && c.row == row then d
  else match d.freeSpareRow phys with
    | some k => { d with repair := { d.repair with rowCopies := d.repair.rowCopies ++ [⟨phys, row, k⟩] } }
    | none =>
      if d.repair.bankCopy.isSome then
        if d.repair.bankQueue.any fun q => q.logical == logical then d
        else { d with repair := { d.repair with bankQueue := d.repair.bankQueue ++ [⟨logical, false, 0, 0⟩] } }
      else if d.groupSpare (logical / 16) == 255 then d
      else d.startBankCopy ⟨logical, d.groupSpare (logical / 16), true, 0, 0⟩

/-- Notes an error in a row (R340): two words corrected, or any uncorrectable error, within STRIKE hours replaces the row. -/
def Dev.noteRowError (d : Dev) (logical phys a : Nat) (uncorr : Bool) : Dev :=
  let row := rowOf a
  let recent := d.repair.rowErrs.filter fun e => d.tick - e.tick ≤ d.strikeTicks
  let other := recent.any fun e => e.bank == phys && e.row == row && e.addr != a
  let d := { d with repair := { d.repair with rowErrs := recent ++ [⟨phys, row, a, d.tick⟩] } }
  if uncorr || other then d.replaceRow logical phys row else d

/-- The word at SRAM address `a` as stored. -/
def Dev.word (d : Dev) (a : Nat) : SramWord := Store.get SramWord.blank d.sram (a / 4)

/-- Stores a word with a fresh code. -/
def Dev.putWord (d : Dev) (a : Nat) (w : TWord) : Dev :=
  { d with sram := Store.put SramWord.blank d.sram (a / 4) ⟨w.data, w.tag, 0#43⟩ }

/-- Whether an address's logical bank is out of service (R340). -/
def Dev.bankDead (d : Dev) (a : Nat) : Bool := d.repair.bankOut.contains (bankOf a)

/-- A checked read of an SRAM word by agent `who` (R269): a single-bit error is corrected and written back, CORRECTED; more make the word
POISON over the data as read, CONTAINED.  A bank out of service reads 0 tagged POISON (R340). -/
def Dev.sramReadBy (d : Dev) (a : Nat) (who : Nat × Nat) : TWord × Dev :=
  if d.bankDead a then (⟨0#32, .poison⟩, d)
  else
    let w := d.word a
    let bank := bankOf a
    let phys := d.physBank bank
    match flipCount w.flip with
    | 0 => (⟨w.data, w.tag⟩, d)
    | 1 => (⟨w.data, w.tag⟩,
            ((d.putWord a ⟨w.data, w.tag⟩).fault (mkFaultBy who 0x01 5 phys a (rowOf a))).noteRowError bank phys a false)
    | _ =>
      let bad : TWord := ⟨w.data ^^^ w.flip.setWidth 32, .poison⟩
      (bad, ((d.putWord a bad).fault (mkFaultBy who 0x02 5 phys a (rowOf a))).noteRowError bank phys a true)

/-- A checked read of an SRAM word by a unit. -/
def Dev.sramRead (d : Dev) (a : Nat) : TWord × Dev := d.sramReadBy a unitAgent

/-- A whole-word store: data, tag and code are replaced without reading the old word (R269); a bank out of service discards it. -/
def Dev.sramWrite (d : Dev) (a : Nat) (w : TWord) : Dev := if d.bankDead a then d else d.putWord a w

/-- A tag-alias write (R32, R269): the word is checked as a read checks it, then its tag is set over the data as checked. -/
def Dev.setTag (d : Dev) (a : Nat) (t : Tag) (who : Nat × Nat) : Dev :=
  let (w, d) := d.sramReadBy a who
  d.sramWrite a ⟨w.data, t⟩

/-- Reads `n` consecutive words. -/
def Dev.sramReads (d : Dev) (a : Nat) : Nat → List TWord × Dev
  | 0 => ([], d)
  | n + 1 =>
    let (w, d) := d.sramRead a
    let (ws, d) := d.sramReads (a + 4) n
    (w :: ws, d)

/-- Writes consecutive words. -/
def Dev.sramWrites (d : Dev) (a : Nat) : List TWord → Dev
  | [] => d
  | w :: ws => (d.sramWrite a w).sramWrites (a + 4) ws

/-- Flips the physical bits in `m` of a word, leaving its code as stored (R357). -/
def Dev.upset (d : Dev) (a : Nat) (m : BitVec 43) : Dev :=
  let w := d.word a
  { d with sram := Store.put SramWord.blank d.sram (a / 4) { w with flip := w.flip ^^^ m } }

/-! ### Octets and words -/

/-- The four octets of a word, the octet of bits 7:0 first (R58). -/
def octetsOf (w : Word) : List Byte := [w.extractLsb' 0 8, w.extractLsb' 8 8, w.extractLsb' 16 8, w.extractLsb' 24 8]

/-- The word of up to four octets, the first in bits 7:0, padded with zero octets (R58). -/
def wordOfOctets (l : List Byte) : Word :=
  let o (i : Nat) : Nat := (l.getD i 0#8).toNat
  BitVec.ofNat 32 (o 0 + o 1 * 2 ^ 8 + o 2 * 2 ^ 16 + o 3 * 2 ^ 24)

/-- Octets packed into words, `fuel` words at most. -/
def packOctets : Nat → List Byte → List Word
  | 0, _ => []
  | _, [] => []
  | fuel + 1, l => wordOfOctets l :: packOctets fuel (l.drop 4)

/-- Octets as BYTES words in the order of R58. -/
def bytesWords (l : List Byte) : List TWord := (packOctets (l.length / 4 + 1) l).map fun w => ⟨w, .bytes⟩

/-! ### CRC-32 of R124 -/

/-- One bit of the reflected IEEE 802.3 polynomial. -/
def crc32Bit (c : Nat) : Nat := if c % 2 == 1 then (c / 2) ^^^ 0xEDB88320 else c / 2

/-- `n` bits of the CRC. -/
def crc32Bits : Nat → Nat → Nat
  | 0, c => c
  | n + 1, c => crc32Bits n (crc32Bit c)

/-- One octet of the CRC. -/
def crc32Octet (c : Nat) (b : Byte) : Nat := crc32Bits 8 (c ^^^ b.toNat)

/-- CRC-32 of R124: IEEE 802.3 polynomial, initial value 0xFFFF_FFFF, result inverted. -/
def crc32 (l : List Byte) : Nat := (l.foldl crc32Octet 0xFFFFFFFF) ^^^ 0xFFFFFFFF

end Sys2Proof.Machine
end

