-- ==== Sys2Proof/Machine/CoreBase.lean ====
section
/-! DEFINITION. What other units need of the cores: a slot's state, its parking and resuming, and the trap entry of R234 (chapter 10). -/

namespace Sys2Proof.Machine

/-- The architectural state of slot `s` (R223). -/
def Dev.slot (d : Dev) (s : Nat) : Slot := Store.get Slot.reset d.cores.slots s

/-- Replaces the architectural state of slot `s`. -/
def Dev.setSlot (d : Dev) (s : Nat) (v : Slot) : Dev :=
  { d with cores := { d.cores with slots := Store.put Slot.reset d.cores.slots s v } }

/-- Changes the architectural state of slot `s`. -/
def Dev.modSlot (d : Dev) (s : Nat) (f : Slot → Slot) : Dev := d.setSlot s (f (d.slot s))

/-- Whether slot `s` is a Bowl slot (R222). -/
def isBowl (s : Nat) : Bool := 8 ≤ s

/-- Program-memory words of the slot's kind (R222). -/
def progSize (s : Nat) : Nat := if isBowl s then 0x10000 else 0x4000

/-- Return-stack entries of the slot's kind (R222). -/
def stackSize (s : Nat) : Nat := if isBowl s then 16 else 8

/-- The key of a slot's serving physical unit in the core memories: Spindle units 0 to 8, Bowl units 16 to 20; none if UNSERVED (R351). -/
def Dev.unitOfSlot (d : Dev) (s : Nat) : Option Nat :=
  if isBowl s then
    let u := d.reg REPAIR.ASSIGN_B_at |>.extractLsb' (4 * (s - 8)) 4 |>.toNat
    if u == 15 then none else some (16 + u)
  else
    let u := d.reg REPAIR.ASSIGN_S_at |>.extractLsb' (4 * s) 4 |>.toNat
    if u == 15 then none else some u

/-- FLAGS bit numbers of R224. -/
def flagC : Nat := 0
def flagV : Nat := 1
def flagVS : Nat := 2
def flagE : Nat := 3
def flagG : Nat := 4
def flagEMPTY : Nat := 5
def flagD : Nat := 6
def flagRSOV : Nat := 7
def flagINTRAP : Nat := 8
def flagINREP : Nat := 9

/-- Sets FLAGS bit `i` to `b`. -/
def Slot.setFlag (v : Slot) (i : Nat) (b : Bool) : Slot :=
  { v with flags := BitVec.ofNat 10 (v.flags.toNat - (if v.flags.getLsbD i then 2 ^ i else 0) + (if b then 2 ^ i else 0)) }

/-- FLAGS bit `i`. -/
def Slot.flag (v : Slot) (i : Nat) : Bool := v.flags.getLsbD i

/-- The trap causes of R233. -/
def causeTAG : Nat := 1
def causePOISON : Nat := 2
def causeALIGN : Nat := 3
def causeCODE : Nat := 4
def causeOVF : Nat := 5
def causeDIV0 : Nat := 6
def causeRSTK : Nat := 7
def causeFLUME : Nat := 8
def causeILLEGAL : Nat := 9
def causeFETCH : Nat := 10
def causeSOFT : Nat := 11
def causeCOUNT : Nat := 12

/-- Taking a trap (R234, R235): TPC, TCAUSE and TINFO are written, INTRAP set, for a repeated instruction RCOUNT and INREP too, and the PC
takes TVEC.  `next` is the address of the instruction after the one that traps.  With INTRAP already 1 the slot stops in DOUBLE and its
control registers keep the first trap. -/
def Dev.trap (d : Dev) (s cause : Nat) (info : Word) (next : Nat) : Dev :=
  let v := d.slot s
  if v.flag flagINTRAP then
    let m := masterOfSlot s
    let d := d.fault { mkFault 0x0D 21 s (v.tcause.toNat * 256 + cause) v.tpc with agent := m.agent, agentNo := m.agentNo }
    ((d.modSlot s fun v => { v with pend := none, stepping := false }).wr CORES.EVENTS_DOUBLE
      (d.rd CORES.EVENTS_DOUBLE ||| 2 ^ s)).setSlotState s 4
  else
    let tpc := match v.rep with
      | some r => r.prefixPc
      | none => v.pc
    let v' := { v with tpc := tpc, tcause := Word.ofNat cause, tinfo := info, pc := v.tvec, pend := none, rep := none, trapNext := some next }
    let v' := match v.rep with
      | some r => ({ v' with rcount := Word.ofNat r.left } : Slot).setFlag flagINREP true
      | none => v'
    let v' := v'.setFlag flagINTRAP true
    (d.setSlot s { v' with stepping := false, haltAfter := false, passBrk := false }).setSlotState s (if v.stepping || v.haltAfter then 0 else 1)

/-- A data register that nothing has written (R223). -/
def voidWord : TWord := ⟨0#32, .void⟩

/-- The end of an instruction of `len` words, or of one iteration (R237, R242): the PC passes it, a repetition counts down, and a STEP or a
deferred HALT takes effect. -/
def Dev.instrDone (d : Dev) (s len : Nat) : Dev :=
  let v := d.slot s
  let next := (v.pc + len) % progSize s
  match v.rep with
  | none => (d.setSlot s { v with pc := next, stepping := false, passBrk := false }).setSlotState s (if v.stepping then 0 else 1)
  | some r =>
    if r.left ≤ 1 then
      (d.setSlot s { v with pc := next, rep := none, stepping := false, haltAfter := false, passBrk := false }).setSlotState s
        (if v.stepping || v.haltAfter then 0 else 1)
    else if v.stepping && r.isRepI then
      (d.setSlot s { v with rep := some { r with left := r.left - 1, fresh := false }, stepping := false }).setSlotState s 0
    else (d.setSlot s { v with rep := some { r with left := r.left - 1, fresh := false } }).setSlotState s 1

/-- The Flume trap's TINFO (R233): the Flume, bit 8 set for DISABLED. -/
def flumeInfo (n : Nat) (disabled : Bool) : Word := Word.ofNat (n + if disabled then 256 else 0)

/-- A slot stalled on Flume `n` takes the Flume trap (R180, R187). -/
def Dev.flumeTrap (d : Dev) (s n : Nat) (disabled : Bool) : Dev :=
  let v := d.slot s
  let len := match v.pend with
    | some p => p.len
    | none => 1
  d.trap s causeFLUME (flumeInfo n disabled) (v.pc + len)

/-- A wake-Flume packet or a KICK reaches slot `s` (R241, R302): a parked slot is due to resume and asserts the SLOT wake source, any other
slot sets its KICKED latch. -/
def Dev.kickSlot (d : Dev) (s : Nat) : Dev :=
  if d.apparent s == 3 then (d.modSlot s fun v => { v with resumeDue := true }).setLevel 12 true
  else d.setF (CORES.STATUS_KICKED s)

/-- Whether parked slot `s` has a reason to resume (R241): a KICK or a wake-Flume packet reached it, or its wake Flume holds a packet. -/
def Dev.dueToResume (d : Dev) (s : Nat) : Bool :=
  (d.slot s).resumeDue ||
    (d.on (CORES.SCFG_WAKEF_EN s) && 1 ≤ (Store.get Flume.empty d.flumes (d.rd (CORES.SCFG_WAKEF s))).pkts)

/-- Slot `s` leaves WAIT for state `v` (R241, R243): the SLOT source stays asserted while another parked slot is due to resume, and a
request of LB.0 that waits ends with its WAIT. -/
def Dev.leaveWait (d : Dev) (s v : Nat) : Dev :=
  let d := (d.modSlot s fun x => { x with resumeDue := false }).setSlotState s v
  let d := d.setLevel 12 ((List.range 12).any fun i => d.apparent i == 3 && d.dueToResume i)
  if s == 8 && d.power == 7 then d.wr WELL.STATUS_STATE 0 else d

/-- A packet has arrived on Flume `n`: every slot whose wake Flume it is, is kicked (R241). -/
def Dev.wakeFlume (d : Dev) (n : Nat) : Dev :=
  (List.range 12).foldl (fun d s =>
    if d.on (CORES.SCFG_WAKEF_EN s) && d.rd (CORES.SCFG_WAKEF s) == n then d.kickSlot s else d) d

end Sys2Proof.Machine
end

