-- ==== Sys2Proof/Machine/FlumeOps.lean ====
section
/-! DEFINITION. The Flume controller: configuration, group writes with gap markers, reads with parity, whole-packet reads by the hardware
consumers, and stalled readers (chapter 08). -/

namespace Sys2Proof.Machine

/-- The contents of Flume `n`. -/
def Dev.flume (d : Dev) (n : Nat) : Flume := Store.get Flume.empty d.flumes n

/-- Replaces the contents of Flume `n`. -/
def Dev.setFlume (d : Dev) (n : Nat) (f : Flume) : Dev := { d with flumes := Store.put Flume.empty d.flumes n f }

/-- Whether Flume `n` is enabled. -/
def Dev.flumeOn (d : Dev) (n : Nat) : Bool := d.on (FLUME.CFG_EN n)

/-- S: the entries of Flume `n`'s range (R179). -/
def Dev.flumeSize (d : Dev) (n : Nat) : Nat := d.rd (FLUME.CFG_SIZE n) * 64

/-- FREE of R181; 0 for a disabled Flume (R239). -/
def Dev.flumeFree (d : Dev) (n : Nat) : Nat := if d.flumeOn n then d.flumeSize n - 1 - (d.flume n).entries.length else 0

/-- Whether the low `k` bits of `n` hold an odd number of ones. -/
def oddParity (k n : Nat) : Bool := (List.range k).countP (fun i => n.testBit i) % 2 == 1

/-- P0 of R177: even parity over DATA[18:0] and P0. -/
def parity0 (data : Word) : Bool := oddParity 19 (data.toNat % 2 ^ 19)

/-- P1 of R177: even parity over DATA[31:19], TAG, END, GAP and P1. -/
def parity1 (data : Word) (t : Tag) (isEnd gap : Bool) : Bool :=
  oddParity 19 (data.toNat / 2 ^ 19 + t.code * 2 ^ 13 + isEnd.toNat * 2 ^ 17 + gap.toNat * 2 ^ 18)

/-- An entry with both parity bits computed (R177). -/
def mkEntry (data : Word) (t : Tag) (isEnd gap : Bool) : FEntry := ⟨data, t, isEnd, gap, parity0 data, parity1 data t isEnd gap⟩

/-- Whether either half of an entry fails its parity (R189). -/
def FEntry.bad (e : FEntry) : Bool := e.p0 != parity0 e.data || e.p1 != parity1 e.data e.tag e.isEnd e.gap

/-- Whether the upper half fails (R189). -/
def FEntry.badHigh (e : FEntry) : Bool := e.p1 != parity1 e.data e.tag e.isEnd e.gap

/-- One word of a group: data, tag, END. -/
structure FWord where
  data : Word
  tag : Tag
  isEnd : Bool
  deriving DecidableEq, Repr

/-- Counts `k` dropped words of Flume `n` (R181, R183). -/
def Dev.dropWords (d : Dev) (n k : Nat) : Dev :=
  let d := d.add (FLUME.DROPS_COUNT n) k
  if n < 32 then d.wr FLUME.DROP_LO_FLUME (d.rd FLUME.DROP_LO_FLUME ||| 2 ^ n)
  else d.wr FLUME.DROP_HI_FLUME (d.rd FLUME.DROP_HI_FLUME ||| 2 ^ (n - 32))

/-- The entry stored for a word of a group; the first entry after an armed injection of TYPE 3 has P1 inverted (R357). -/
def Dev.storeEntry (d : Dev) (n : Nat) (e : FEntry) : FEntry × Dev :=
  if d.sluice.injections.any fun i => i.typ == 3 && i.inst == n then
    ({ e with p1 := !e.p1 },
     { d with sluice := { d.sluice with injections := d.sluice.injections.map fun i => if i.typ == 3 && i.inst == n then { i with typ := 6 } else i } })
  else (e, d)

/-- Appends one entry to Flume `n`. -/
def Dev.append (d : Dev) (n : Nat) (e : FEntry) : Dev :=
  let (e, d) := d.storeEntry n e
  let f := d.flume n
  d.setFlume n { f with entries := f.entries ++ [e], openGap := e.gap, pkts := f.pkts + e.isEnd.toNat }

/-- The gap marker that stands for `k` dropped items (R178). -/
def gapEntry (k : Nat) : FEntry := mkEntry (Word.ofNat (min k 0xFFFFFFFF)) .nat true true

/-- The list with its last entry replaced. -/
def setLast : List FEntry → (FEntry → FEntry) → List FEntry
  | [], _ => []
  | [e], g => [g e]
  | e :: r, g => e :: setLast r g

/-- A gap marker that counts `k` items more (R181). -/
def growGap (k : Nat) (e : FEntry) : FEntry := mkEntry (Word.ofNat (min (e.data.toNat + k) 0xFFFFFFFF)) .nat true true

/-- A write of a group of words to Flume `n` (R181 to R183): appended whole, or dropped into the gap marker at the tail; to a disabled
Flume, discarded. -/
def Dev.flumeWrite (d : Dev) (n : Nat) (ws : List FWord) : Dev :=
  let k := ws.length
  if !d.flumeOn n then (d.dropWords n k).setF FLUME.EVENTS_OFFWRITE
  else if k ≤ d.flumeFree n then
    let d := ws.foldl (fun d w => d.append n (mkEntry w.data w.tag w.isEnd false)) d
    if ws.any FWord.isEnd then d.wakeFlume n else d
  else
    let f := d.flume n
    if f.openGap then
      (d.setFlume n { f with entries := setLast f.entries (growGap k) }).dropWords n k
    else ((d.append n (gapEntry k)).dropWords n k).wakeFlume n

/-- Whether a write of `k` words to Flume `n` is dropped or discarded (R239). -/
def Dev.flumeDrops (d : Dev) (n k : Nat) : Bool := !d.flumeOn n || d.flumeFree n < k

/-- What a read delivers (R185, R189). -/
structure FRead where
  data : Word
  tag : Tag
  isEnd : Bool
  gap : Bool
  parity : Bool
  deriving DecidableEq, Repr

/-- The storage entry number of the entry `k` places behind the head of Flume `n`. -/
def Dev.entryIndex (d : Dev) (n k : Nat) : Nat :=
  d.rd (FLUME.CFG_BASE n) * 64 + (if d.flumeSize n == 0 then 0 else ((d.flume n).headPos + k) % d.flumeSize n)

/-- The storage entry number of the head of Flume `n`. -/
def Dev.headIndex (d : Dev) (n : Nat) : Nat := d.entryIndex n 0

/-- A parity error found in storage entry `i` of Flume `n` by agent `who` (R189). -/
def Dev.parityFault (d : Dev) (n i : Nat) (who : Nat × Nat) : Dev :=
  ((d.inc FLUME.PARITY_COUNT).setF FLUME.EVENTS_PARITY).fault (mkFaultBy who 0x04 15 n i 0)

/-- Removes the head entry of a Flume that holds one, and delivers it to agent `who` (R185, R186, R189). -/
def Dev.takeHead (d : Dev) (n : Nat) (who : Nat × Nat) : Option (FRead × Dev) :=
  let f := d.flume n
  match f.entries with
  | [] => none
  | e :: rest =>
    let pkts := if rest.isEmpty then 0 else f.pkts - e.isEnd.toNat
    let f' : Flume := { f with entries := rest, pkts := pkts, openGap := f.openGap && !rest.isEmpty, headPos := f.headPos + 1,
                               suspect := !rest.isEmpty && (f.suspect || e.badHigh) }
    if e.bad then some (⟨e.data, .poison, e.isEnd, false, true⟩, (d.setFlume n f').parityFault n (d.headIndex n) who)
    else some (⟨e.data, e.tag, e.isEnd, e.gap, false⟩, d.setFlume n f')

/-- Removes stalled reader `s` from Flume `n`. -/
def Dev.unstall (d : Dev) (n s : Nat) : Dev :=
  let f := d.flume n
  d.setFlume n { f with stalled := f.stalled.filter fun x => x.slot != s }

/-- Delivers a Flume entry to a slot's read (R239): the register, E and G; the PC passes the read. -/
def Dev.deliverRead (d : Dev) (s dest len : Nat) (r : FRead) : Dev :=
  (d.modSlot s fun v => ((({ v with
    regs := Store.put voidWord v.regs dest ⟨r.data, r.tag⟩, pend := none } : Slot).setFlag flagE r.isEnd).setFlag flagG r.gap)).instrDone s len

/-- Serves the readers stalled on Flume `n` in the order in which their stalls began (R185, R187): a reader whose limit an edge has passed
traps STALL; otherwise the head entry goes to the first. -/
def Dev.settleStalls (d : Dev) (n : Nat) : Nat → Dev
  | 0 => d
  | k + 1 =>
    match (d.flume n).stalled with
    | [] => d
    | x :: _ =>
      if x.due then (((d.unstall n x.slot).setF FLUME.EVENTS_STALLTRAP).flumeTrap x.slot n false).settleStalls n k
      else match d.takeHead n (masterOfSlot x.slot).who with
        | none => d
        | some (r, d) =>
          match (d.slot x.slot).pend with
          | some p => (((d.unstall n x.slot).setSlotState x.slot 1).deliverRead x.slot p.dest p.len r).settleStalls n k
          | none => (d.unstall n x.slot).settleStalls n k

/-- Serves every stalled reader of Flume `n` that an entry or the stall limit ends. -/
def Dev.settleFlume (d : Dev) (n : Nat) : Dev :=
  let d := d.settleStalls n (d.flume n).stalled.length
  ((d.flume n).stalled.filter Stall.due).foldl (fun d x =>
    ((d.unstall n x.slot).setF FLUME.EVENTS_STALLTRAP).flumeTrap x.slot n false) d

/-- A read of Flume `n` by any master: the readers that stalled before it are served first (R182, R185). -/
def Dev.flumeTake (d : Dev) (n : Nat) (who : Nat × Nat := unitAgent) : Option (FRead × Dev) := (d.settleFlume n).takeHead n who

/-- Removes entries up to and including the first with END, at most `fuel` of them. -/
def Dev.takePacket (d : Dev) (n : Nat) : Nat → List FRead × Dev
  | 0 => ([], d)
  | fuel + 1 =>
    match d.flumeTake n with
    | none => ([], d)
    | some (r, d) =>
      if r.isEnd then ([r], d)
      else
        let (rs, d) := d.takePacket n fuel
        (r :: rs, d)

/-- A hardware consumer reads the whole head packet of Flume `n` (R188): `none` where there is no packet, or the packet was a lone gap
marker or a cut one and has been removed; otherwise the descriptor of `len` words. -/
def Dev.readDescriptor (d : Dev) (n len : Nat) : Option (List FRead) × Dev :=
  let d := d.settleFlume n
  let f := d.flume n
  if !d.flumeOn n || f.pkts == 0 then (none, d)
  else
    let (rs, d) := d.takePacket n f.entries.length
    match rs with
    | [r] => if r.gap then (none, d)
             else if len == 1 then (some rs, d) else (none, (d.inc FLUME.CUTS_COUNT).setF FLUME.EVENTS_CUT)
    | _ => if rs.length == len && !(rs.any FRead.gap) then (some rs, d)
           else (none, (d.inc FLUME.CUTS_COUNT).setF FLUME.EVENTS_CUT)

/-- The length of the head packet of Flume `n`, with its END entry a gap marker or not; none where no END is stored. -/
def headPacket : List FEntry → Option (Nat × Bool)
  | [] => none
  | e :: r => if e.isEnd then some (1, e.gap) else (headPacket r).map fun (k, g) => (k + 1, g)

/-- Whether the head packet of Flume `n` is a whole descriptor of `len` words (R188). -/
def Dev.wholeHead (d : Dev) (n len : Nat) : Bool :=
  d.flumeOn n && 1 ≤ (d.flume n).pkts && headPacket (d.flume n).entries == some (len, false)

/-- Whether a range of units overlaps an enabled Flume other than `n` (R179). -/
def Dev.rangeTaken (d : Dev) (n base size : Nat) : Bool :=
  (List.range 64).any fun m => m != n && d.flumeOn m && base < d.rd (FLUME.CFG_BASE m) + d.rd (FLUME.CFG_SIZE m)
    && d.rd (FLUME.CFG_BASE m) < base + size

/-- Disables and empties Flume `n`, trapping every core stalled on it (R180); reads that an entry or the stall limit ended before end so
(R182, R187). -/
def Dev.flumeDisable (d : Dev) (n : Nat) : Dev :=
  let d := d.settleFlume n
  let stalled := (d.flume n).stalled
  let d := (d.setFlume n Flume.empty).wr (FLUME.CFG_EN n) 0
  stalled.foldl (fun d x => d.flumeTrap x.slot n true) d

/-- A write of FLUME.CFG[n] (R179, R180). -/
def Dev.flumeCfgWrite (d : Dev) (n : Nat) (v : Word) : Dev :=
  let base := bitsOf v 0 10
  let size := bitsOf v 16 11
  let nolimit := bitsOf v 30 1
  let store (d : Dev) : Dev := ((d.wr (FLUME.CFG_BASE n) base).wr (FLUME.CFG_SIZE n) size).wr (FLUME.CFG_NOLIMIT n) nolimit
  if bitsOf v 31 1 == 0 then store (d.flumeDisable n)
  else if d.flumeOn n then
    if base == d.rd (FLUME.CFG_BASE n) && size == d.rd (FLUME.CFG_SIZE n) then d.wr (FLUME.CFG_NOLIMIT n) nolimit
    else d.setF FLUME.EVENTS_BADCFG
  else
    let d := store d
    if 1 ≤ size && base + size ≤ 1024 && !d.rangeTaken n base size then (d.setFlume n Flume.empty).wr (FLUME.CFG_EN n) 1
    else d.setF FLUME.EVENTS_BADCFG

/-- FLUME.SPARE_UNITS (R179): units that no enabled Flume uses. -/
def Dev.spareUnits (d : Dev) : Nat :=
  1024 - ((List.range 64).map fun m => if d.flumeOn m then d.rd (FLUME.CFG_SIZE m) else 0).sum

/-- A write of FLUME.PUSH[n] (R194). -/
def Dev.flumePush (d : Dev) (n : Nat) (v : Word) : Dev :=
  d.flumeWrite n [⟨v, Tag.ofCode (d.rd (FLUME.PUSH_ATTR_TAG n)), d.on (FLUME.PUSH_ATTR_END n)⟩]

/-- A read of FLUME.POP[n] by agent `who` (R185, R194): the data, with the entry's attributes captured into POP_ATTR[n]. -/
def Dev.flumePop (d : Dev) (n : Nat) (who : Nat × Nat) : Word × Dev :=
  let attr (d : Dev) (tag isEnd gap empty par : Nat) : Dev :=
    d.setReg (FLUME.POP_ATTR_at n) (Word.ofNat (tag + isEnd * 16 + gap * 32 + empty * 64 + par * 128))
  if !d.flumeOn n then (0#32, attr d 15 0 0 1 0)
  else match d.flumeTake n who with
    | none => (0#32, attr d 15 0 0 1 0)
    | some (r, d) => (r.data, attr d r.tag.code r.isEnd.toNat r.gap.toNat 0 r.parity.toNat)

/-- The words of a hardware group: END on the last word. -/
def group (ws : List TWord) : List FWord :=
  match ws.reverse with
  | [] => []
  | l :: r => r.reverse.map (fun w => ⟨w.data, w.tag, false⟩) ++ [⟨l.data, l.tag, true⟩]

end Sys2Proof.Machine
end

