-- ==== Sys2Proof/Machine/FlumeExec.lean ====
section
/-! DEFINITION. The commands of the Flume controller (chapter 08). -/

namespace Sys2Proof.Machine

/-- FLUME_ENABLE (R179): a write of CFG[n] with EN = 1. -/
def execFlumeEnable (n : Fin 64) (base : BitVec 10) (size : BitVec 11) (nolimit : Bool) (s : State) : Host.Outcome State Fault Refusal :=
  onBus s 12 fun d =>
    d.flumeCfgWrite n.val (Word.ofNat (base.toNat + size.toNat * 2 ^ 16 + nolimit.toNat * 2 ^ 30 + 2 ^ 31))

/-- FLUME_DISABLE (R180): a write of CFG[n] with EN = 0. -/
def execFlumeDisable (n : Fin 64) (base : BitVec 10) (size : BitVec 11) (nolimit : Bool) (s : State) :
    Host.Outcome State Fault Refusal :=
  onBus s 12 fun d => d.flumeCfgWrite n.val (Word.ofNat (base.toNat + size.toNat * 2 ^ 16 + nolimit.toNat * 2 ^ 30))

/-- FLUME_PUSH (R194). -/
def execFlumePush (n : Fin 64) (data : Word) (s : State) : Host.Outcome State Fault Refusal := onBus s 12 fun d => d.flumePush n.val data

/-- FLUME_POP (R194): the data returns to the master that reads; POP_ATTR[n] keeps the attributes. -/
def execFlumePop (n : Fin 64) (s : State) : Host.Outcome State Fault Refusal := onBus s 12 fun d => (d.flumePop n.val noAgent).2.answer (d.flumePop n.val noAgent).1

/-- STALLED_READ_DONE (R185): entries of Flume `n` go to the cores stalled on it, in the order in which their stalls began. -/
def execStalledReadDone (n : Fin 64) (s : State) : Host.Outcome State Fault Refusal :=
  onDev s fun d => d.settleStalls n.val (d.flume n.val).stalled.length

/-- STALL_TRAP (R187): cores whose stall limit the latest TICK edge reached take the Flume trap with cause STALL. -/
def execStallTrap (n : Fin 64) (s : State) : Host.Outcome State Fault Refusal := onDev s fun d => d.settleFlume n.val

/-- A TICK edge has advanced TICK (R187): every stall whose limit it reaches is marked. -/
def Dev.reachStalls (d : Dev) : Dev :=
  let l := d.rd FLUME.STALL_LIMIT_TICKS
  if l == 0 then d
  else
    (Store.keysWhere (fun _ f => !f.stalled.isEmpty) d.flumes).foldl (fun d n =>
      if d.on (FLUME.CFG_NOLIMIT n) then d
      else
        let f := d.flume n
        d.setFlume n { f with stalled := f.stalled.map fun x => { x with due := x.due || decide (x.start + l + 1 ≤ d.tick) } }) d

/-- Before a TICK edge every stalled read that an entry ends is served (R187). -/
def Dev.settleStalled (d : Dev) : Dev :=
  (Store.keysWhere (fun _ f => !f.stalled.isEmpty) d.flumes).foldl (fun d n => d.settleFlume n) d

end Sys2Proof.Machine
end

