-- ==== Sys2Proof/Machine/Aes.lean ====
section
/-! DEFINITION. AES-128, AES-192 and AES-256 and the CCM mode that Chisel runs (R155, R166, R171): the block cipher and the formatting are
those of the standards the spec names. -/

namespace Sys2Proof.Machine

/-! ### The block cipher -/

/-- The substitution table of AES. -/
def aesSbox : List Nat :=
  [0x63, 0x7C, 0x77, 0x7B, 0xF2, 0x6B, 0x6F, 0xC5, 0x30, 0x01, 0x67, 0x2B, 0xFE, 0xD7, 0xAB, 0x76] ++
  [0xCA, 0x82, 0xC9, 0x7D, 0xFA, 0x59, 0x47, 0xF0, 0xAD, 0xD4, 0xA2, 0xAF, 0x9C, 0xA4, 0x72, 0xC0] ++
  [0xB7, 0xFD, 0x93, 0x26, 0x36, 0x3F, 0xF7, 0xCC, 0x34, 0xA5, 0xE5, 0xF1, 0x71, 0xD8, 0x31, 0x15] ++
  [0x04, 0xC7, 0x23, 0xC3, 0x18, 0x96, 0x05, 0x9A, 0x07, 0x12, 0x80, 0xE2, 0xEB, 0x27, 0xB2, 0x75] ++
  [0x09, 0x83, 0x2C, 0x1A, 0x1B, 0x6E, 0x5A, 0xA0, 0x52, 0x3B, 0xD6, 0xB3, 0x29, 0xE3, 0x2F, 0x84] ++
  [0x53, 0xD1, 0x00, 0xED, 0x20, 0xFC, 0xB1, 0x5B, 0x6A, 0xCB, 0xBE, 0x39, 0x4A, 0x4C, 0x58, 0xCF] ++
  [0xD0, 0xEF, 0xAA, 0xFB, 0x43, 0x4D, 0x33, 0x85, 0x45, 0xF9, 0x02, 0x7F, 0x50, 0x3C, 0x9F, 0xA8] ++
  [0x51, 0xA3, 0x40, 0x8F, 0x92, 0x9D, 0x38, 0xF5, 0xBC, 0xB6, 0xDA, 0x21, 0x10, 0xFF, 0xF3, 0xD2] ++
  [0xCD, 0x0C, 0x13, 0xEC, 0x5F, 0x97, 0x44, 0x17, 0xC4, 0xA7, 0x7E, 0x3D, 0x64, 0x5D, 0x19, 0x73] ++
  [0x60, 0x81, 0x4F, 0xDC, 0x22, 0x2A, 0x90, 0x88, 0x46, 0xEE, 0xB8, 0x14, 0xDE, 0x5E, 0x0B, 0xDB] ++
  [0xE0, 0x32, 0x3A, 0x0A, 0x49, 0x06, 0x24, 0x5C, 0xC2, 0xD3, 0xAC, 0x62, 0x91, 0x95, 0xE4, 0x79] ++
  [0xE7, 0xC8, 0x37, 0x6D, 0x8D, 0xD5, 0x4E, 0xA9, 0x6C, 0x56, 0xF4, 0xEA, 0x65, 0x7A, 0xAE, 0x08] ++
  [0xBA, 0x78, 0x25, 0x2E, 0x1C, 0xA6, 0xB4, 0xC6, 0xE8, 0xDD, 0x74, 0x1F, 0x4B, 0xBD, 0x8B, 0x8A] ++
  [0x70, 0x3E, 0xB5, 0x66, 0x48, 0x03, 0xF6, 0x0E, 0x61, 0x35, 0x57, 0xB9, 0x86, 0xC1, 0x1D, 0x9E] ++
  [0xE1, 0xF8, 0x98, 0x11, 0x69, 0xD9, 0x8E, 0x94, 0x9B, 0x1E, 0x87, 0xE9, 0xCE, 0x55, 0x28, 0xDF] ++
  [0x8C, 0xA1, 0x89, 0x0D, 0xBF, 0xE6, 0x42, 0x68, 0x41, 0x99, 0x2D, 0x0F, 0xB0, 0x54, 0xBB, 0x16]

/-- SubBytes on one octet. -/
def aesSub (a : Nat) : Nat := aesSbox.getD a 0

/-- The inverse substitution: the octet whose substitution is `a`. -/
def aesInvSub (a : Nat) : Nat := aesSbox.idxOf a

/-- Multiplication by x in the field of AES. -/
def aesX (a : Nat) : Nat := if 128 ≤ a then ((a * 2) % 256) ^^^ 0x1B else a * 2

/-- Multiplication of `a` by the low `k` bits of `b` in the field of AES. -/
def aesMul : Nat → Nat → Nat → Nat
  | 0, _, _ => 0
  | k + 1, a, b => (if b % 2 == 1 then a else 0) ^^^ aesMul k (aesX a) (b / 2)

/-- Bitwise sum of two octet strings. -/
def xorOctets (a b : List Nat) : List Nat := List.zipWith (fun x y => x ^^^ y) a b

/-- Octet `i` of a block. -/
def octet (b : List Nat) (i : Nat) : Nat := b.getD i 0

/-- One column of MixColumns with the row coefficients `m`. -/
def aesColumn (m : List Nat) (c : List Nat) : List Nat :=
  (List.range 4).map fun r => ((List.range 4).map fun k => aesMul 4 (octet c k) (octet m ((k + 4 - r) % 4))).foldl (fun x y => x ^^^ y) 0

/-- Applies a column map to the four columns of a block. -/
def aesColumns (m : List Nat) (b : List Nat) : List Nat := (List.range 4).flatMap fun c => aesColumn m ((b.drop (4 * c)).take 4)

/-- ShiftRows. -/
def aesShift (b : List Nat) : List Nat := (List.range 16).map fun i => octet b ((i + 4 * (i % 4)) % 16)

/-- The inverse of ShiftRows. -/
def aesInvShift (b : List Nat) : List Nat := (List.range 16).map fun i => octet b ((i + 16 - 4 * (i % 4)) % 16)

/-- The next word of the key schedule from the words so far, latest first; `i` is its number, `nk` the key length in words. -/
def aesNextWord (nk i rcon : Nat) (ws : List (List Nat)) : List Nat :=
  let t := ws.headD []
  let t := if i % nk == 0 then
      let r := (t.drop 1 ++ t.take 1).map aesSub
      ((octet r 0) ^^^ rcon) :: r.drop 1
    else if 6 < nk && i % nk == 4 then t.map aesSub else t
  xorOctets (ws.getD (nk - 1) []) t

/-- `fuel` more words of the key schedule, latest first. -/
def aesExpand (nk : Nat) : Nat → Nat → Nat → List (List Nat) → List (List Nat)
  | 0, _, _, ws => ws
  | fuel + 1, i, rcon, ws =>
    aesExpand nk fuel (i + 1) (if i % nk == 0 then aesX rcon else rcon) (aesNextWord nk i rcon ws :: ws)

/-- The words of an octet string. -/
def aesWords : Nat → List Nat → List (List Nat)
  | 0, _ => []
  | k + 1, b => b.take 4 :: aesWords k (b.drop 4)

/-- The round keys, 16 octets each, of a key of 16, 24 or 32 octets. -/
def aesRoundKeys (key : List Nat) : List (List Nat) :=
  let nk := key.length / 4
  let ws := (aesExpand nk (4 * (nk + 7) - nk) nk 1 (aesWords nk key).reverse).reverse
  (List.range (nk + 7)).map fun r => ((ws.drop (4 * r)).take 4).flatten

/-- The middle rounds of encryption. -/
def aesRounds : List (List Nat) → List Nat → List Nat
  | [], b => b
  | [k], b => xorOctets (aesShift (b.map aesSub)) k
  | k :: r, b => aesRounds r (xorOctets (aesColumns [2, 3, 1, 1] (aesShift (b.map aesSub))) k)

/-- AES encryption of one block. -/
def aesEncrypt (key b : List Nat) : List Nat :=
  match aesRoundKeys key with
  | [] => b
  | k :: r => aesRounds r (xorOctets b k)

/-- The middle rounds of decryption, round keys latest first. -/
def aesInvRounds : List (List Nat) → List Nat → List Nat
  | [], b => b
  | [k], b => xorOctets ((aesInvShift b).map aesInvSub) k
  | k :: r, b => aesInvRounds r (aesColumns [14, 11, 13, 9] (xorOctets ((aesInvShift b).map aesInvSub) k))

/-- AES decryption of one block. -/
def aesDecrypt (key b : List Nat) : List Nat :=
  match (aesRoundKeys key).reverse with
  | [] => b
  | k :: r => aesInvRounds r (xorOctets b k)

/-! ### Modes (R158) -/

/-- A zero block. -/
def zeroBlock : List Nat := List.replicate 16 0

/-- Cuts an octet string into blocks, the last perhaps short. -/
def blocksOf : Nat → List Nat → List (List Nat)
  | 0, _ => []
  | k + 1, b => if b.isEmpty then [] else b.take 16 :: blocksOf k (b.drop 16)

/-- The number in octets 12 to 15 of a counter block plus one, octets 0 to 11 unchanged (R158). -/
def nextCounter (c : List Nat) : List Nat :=
  let n := (octet c 12 * 2 ^ 24 + octet c 13 * 2 ^ 16 + octet c 14 * 2 ^ 8 + octet c 15 + 1) % 2 ^ 32
  c.take 12 ++ [n / 2 ^ 24, n / 2 ^ 16 % 256, n / 2 ^ 8 % 256, n % 256]

/-- One block of a mode: the chaining value, the input block; the output block and the next chaining value.  Modes 0 ECB, 1 CBC, 2 CTR,
3 CFB-128, 4 OFB. -/
def aesStep (mode : Nat) (decrypt : Bool) (key chain b : List Nat) : List Nat × List Nat :=
  match mode with
  | 0 => (if decrypt then aesDecrypt key b else aesEncrypt key b, chain)
  | 1 => if decrypt then (xorOctets (aesDecrypt key b) chain, b)
         else
           let o := aesEncrypt key (xorOctets b chain)
           (o, o)
  | 2 => (xorOctets b (aesEncrypt key chain), nextCounter chain)
  | 3 =>
    let o := xorOctets b (aesEncrypt key chain)
    (o, if decrypt then b else o)
  | _ =>
    let k := aesEncrypt key chain
    (xorOctets b k, k)

/-- A whole message of a mode, block by block. -/
def aesRun (mode : Nat) (decrypt : Bool) (key : List Nat) : List (List Nat) → List Nat → List Nat × List Nat
  | [], chain => ([], chain)
  | b :: r, chain =>
    let (o, c) := aesStep mode decrypt key chain b
    let (os, c') := aesRun mode decrypt key r c
    (o ++ os, c')

/-- A block completed with zero octets. -/
def padBlock (b : List Nat) : List Nat := b ++ List.replicate (16 - b.length) 0

/-- CBC-MAC over blocks from an accumulator. -/
def cbcMac (key : List Nat) : List (List Nat) → List Nat → List Nat
  | [], m => m
  | b :: r, m => cbcMac key r (aesEncrypt key (xorOctets (padBlock b) m))

/-! ### CCM with L = 2 (R166, R171) -/

/-- Two octets, the more significant first. -/
def be16 (n : Nat) : List Nat := [n / 256 % 256, n % 256]

/-- The counter block A_i. -/
def ccmCounter (nonce : List Nat) (i : Nat) : List Nat := 1 :: nonce ++ be16 i

/-- The authentication tag before encryption, `m` octets. -/
def ccmMac (key nonce aad payload : List Nat) (m : Nat) : List Nat :=
  let b0 := ((if aad.isEmpty then 0 else 64) + 8 * ((m - 2) / 2) + 1) :: nonce ++ be16 payload.length
  let a := if aad.isEmpty then [] else blocksOf 200 (be16 aad.length ++ aad)
  (cbcMac key ([b0] ++ a ++ blocksOf 200 payload) zeroBlock).take m

/-- The payload blocks under the counter blocks A_1 onward. -/
def ccmCrypt (key nonce : List Nat) : List (List Nat) → Nat → List Nat
  | [], _ => []
  | b :: r, i => xorOctets b (aesEncrypt key (ccmCounter nonce i)) ++ ccmCrypt key nonce r (i + 1)

/-- The encrypted tag. -/
def ccmTag (key nonce mac : List Nat) : List Nat := xorOctets mac (aesEncrypt key (ccmCounter nonce 0))

/-- CCM encryption: the ciphertext and the tag. -/
def ccmSeal (key nonce aad payload : List Nat) (m : Nat) : List Nat × List Nat :=
  (ccmCrypt key nonce (blocksOf 200 payload) 1, ccmTag key nonce (ccmMac key nonce aad payload m))

/-- CCM decryption: the plaintext, and whether the tag is right. -/
def ccmOpen (key nonce aad cipher tag : List Nat) : List Nat × Bool :=
  let p := ccmCrypt key nonce (blocksOf 200 cipher) 1
  (p, ccmTag key nonce (ccmMac key nonce aad p tag.length) == tag)

end Sys2Proof.Machine
end

