-- ==== Sys2Proof/Machine/Air.lean ====
section
/-! DEFINITION. The air formats: the mode table, headers, whitening, coding, wake calls and air time (chapter 06). -/

namespace Sys2Proof.Machine

/-- Symbol rate of a receivable mode in symbols per second (R137); 0 for transmit-only and reserved codes. -/
def symbolRate : Nat → Nat
  | 0 => 25000 | 1 => 50000 | 2 => 50000 | 3 => 200000 | 4 => 50000 | 5 => 100000 | 6 => 150000 | 7 => 100000 | _ => 0

/-- Group width code of a mode (R137). -/
def modeWidth : Nat → Nat
  | 2 => 1 | 3 => 2 | 5 => 1 | 6 => 1 | 7 => 1 | _ => 0

/-- Occupied bandwidth of a mode in Hz (R137). -/
def modeBW : Nat → Nat
  | 0 => 37500 | 1 => 87500 | 2 => 200000 | 3 => 440000 | 4 => 100000 | 5 => 150000 | 6 => 225000 | 7 => 200000
  | 8 => 50000 | 9 => 50000 | 10 => 50000 | 11 => 50000 | _ => 0

/-- Outer deviation of an FSK mode in Hz (R137). -/
def outerDev : Nat → Nat
  | 0 => 6250 | 1 => 18750 | 2 => 75000 | 3 => 120000 | 4 => 25000 | 5 => 25000 | 6 => 37500 | 7 => 50000 | _ => 0

/-- Modes whose PSDU has 4-level symbols, two bits each (R137, R139). -/
def fourLevel (m : Nat) : Bool := m == 2 || m == 3 || m == 7

/-- Largest PSDU of a mode in octets (R140, R144, R154); 0 for a reserved code (R138). -/
def modeMax : Nat → Nat
  | 0 => 255 | 1 => 1023 | 2 => 1023 | 3 => 1023 | 4 => 2047 | 5 => 2047 | 6 => 2047 | 7 => 2047
  | 8 => 3 | 9 => 3 | 10 => 1 | 11 => 1 | _ => 0

/-- Codes 0x8 to 0xB (R138). -/
def txOnly (m : Nat) : Bool := 8 ≤ m && m ≤ 11

/-- Codes 0xC to 0xF (R138). -/
def reservedMode (m : Nat) : Bool := 12 ≤ m

/-- Whether a mode builds native frames (R140). -/
def nativeMode (m : Nat) : Bool := m < 4

/-- Symbols of the header of a frame (R140, R142, R144, R145): native 4-level modes send it at 2 levels; coded frames take two code bits for a
bit. -/
def phrSymbols (mode : Nat) (coded : Bool) : Nat :=
  if mode == 0 then 32 else if nativeMode mode then 16 else (if coded then 32 else 16) / (if mode == 7 then 2 else 1)

/-- Symbols of one PSDU octet (R137, R140, R142, R145). -/
def octetSymbols (mode : Nat) (coded : Bool) : Nat :=
  (if mode == 0 || (4 ≤ mode && coded) then 16 else 8) / (if fourLevel mode then 2 else 1)

/-- Bins of a width code (R42). -/
def binsOf : Nat → Nat
  | 0 => 1 | 1 => 2 | 2 => 4 | _ => 0

/-- Air time in whole µs of a PSDU of `len` octets (R149). -/
def airTime (mode : Nat) (fec : Bool) (len : Nat) : Nat :=
  let n := if fec then 128 + 16 * len else 96 + 8 * len
  match mode with
  | 0 => 40 * (124 + 16 * len)
  | 1 => 20 * (64 + 8 * len)
  | 2 => 1280 + 80 * len
  | 3 => 480 + 20 * len
  | 4 => 20 * n
  | 5 => 10 * n
  | 6 => (20 * n + 2) / 3
  | 7 => 5 * n
  | 8 => 56000 | 9 => 7000 | 10 => 48000 | 11 => 6000
  | _ => 0

/-! ### Headers (R141, R144, R146) -/

/-- A decoded header. -/
structure Phr where
  len : Nat
  fcs32 : Bool
  whitened : Bool
  ok : Bool
  deriving DecidableEq, Repr

/-- The low `k` bits of `n` in reverse order. -/
def revBits : Nat → Nat → Nat
  | 0, _ => 0
  | k + 1, n => n % 2 * 2 ^ k + revBits k (n / 2)

/-- The header of a mode (R141, R144): the length field is sent low bit first in native modes and high bit first in SUN-FSK modes.
`ok` is the family's own condition of R146. -/
def decodePhr (mode : Nat) (phr : BitVec 16) : Phr :=
  let n := phr.toNat
  if nativeMode mode then
    let len := n % 1024
    ⟨len, phr.getLsbD 10, phr.getLsbD 11, n / 4096 == (n % 16) ^^^ (n / 16 % 16) ^^^ (n / 256 % 16) && len != 0⟩
  else
    let len := revBits 11 (n / 32)
    ⟨len, !phr.getLsbD 3, phr.getLsbD 4, !phr.getLsbD 0 && len != 0⟩

/-- The header the transmit chain builds (R141, R144). -/
def buildPhr (mode len : Nat) (fcs32 whiten : Bool) : BitVec 16 :=
  if nativeMode mode then
    let low := len % 1024 + fcs32.toNat * 1024 + whiten.toNat * 2048
    BitVec.ofNat 16 (low + ((low % 16) ^^^ (low / 16 % 16) ^^^ (low / 256 % 16)) * 4096)
  else BitVec.ofNat 16 ((!fcs32).toNat * 8 + whiten.toNat * 16 + revBits 11 len * 32)

/-! ### Bits on the air -/

/-- The bits of a number, bit 0 first. -/
def bitsLow : Nat → Nat → List Bool
  | 0, _ => []
  | k + 1, n => (n % 2 == 1) :: bitsLow k (n / 2)

/-- The bits of a number, highest bit first (R139, R152). -/
def bitsHigh (k n : Nat) : List Bool := (bitsLow k n).reverse

/-- The first `k` output bits of the PN9 sequence of R147 from shift-register state `r`. -/
def pn9 : Nat → Nat → List Bool
  | 0, _ => []
  | k + 1, r => (r % 2 == 1) :: pn9 k (r / 2 + ((r % 2) ^^^ (r / 32 % 2)) * 256)

/-- PSDU bits, whitened if asked (R147). -/
def psduBits (whiten : Bool) (octets : List Byte) : List Bool :=
  let bits := octets.flatMap fun b => bitsLow 8 b.toNat
  if whiten then List.zipWith xor bits (pn9 bits.length 0x1FF) else bits

/-- The parity of the bits of `n` below bit 7. -/
def parity7 (n : Nat) : Bool := (n % 2 + n / 2 % 2 + n / 4 % 2 + n / 8 % 2 + n / 16 % 2 + n / 32 % 2 + n / 64 % 2) % 2 == 1

/-- The convolutional code of R142, constraint length 7, from encoder state `st` (the latest bit in bit 6): for each input bit the output
of 0o171, then that of 0o133. -/
def convEncode : Nat → List Bool → List Bool
  | _, [] => []
  | st, b :: r =>
    let reg := b.toNat * 64 + st / 2
    parity7 (reg &&& 0o171) :: parity7 (reg &&& 0o133) :: convEncode reg r

/-- The octets of bits, bit 0 first. -/
def octetsOfBits : Nat → List Bool → List Byte
  | 0, _ => []
  | n + 1, bits => BitVec.ofNat 8 ((bits.take 8).foldr (fun b v => v * 2 + b.toNat) 0) :: octetsOfBits n (bits.drop 8)

/-- The octets a lane writes for the PSDU octets it has received (R147): in the clear. -/
def dewhiten (whitened : Bool) (octets : List Byte) : List Byte :=
  if whitened then octetsOfBits octets.length (psduBits true octets) else octets

/-- One bit of the CRC-8 of R152, most significant bit first. -/
def crc8Bit (c : Nat) (b : Bool) : Nat :=
  if (128 ≤ c) != b then ((c * 2) % 256) ^^^ 0x07 else (c * 2) % 256

/-- CRC-8 over the 24 address bits (R152). -/
def crc8 (addr : Nat) : Nat := (bitsHigh 24 addr).foldl crc8Bit 0

/-- An addressed wake call (R152, R154): the address octets, completed with zero octets at the low end. -/
def wakeCall (octets : List Byte) : List Bool :=
  let o (i : Nat) : Nat := (octets.getD i 0#8).toNat
  let addr := o 0 * 65536 + o 1 * 256 + o 2
  bitsHigh 16 0 ++ bitsHigh 8 0xD3 ++ bitsHigh 24 addr ++ bitsHigh 8 (crc8 addr)

/-- A fixed-pattern call (R153). -/
def patternCall : List Bool := bitsHigh 16 0 ++ bitsHigh 32 0x5A3C96E1

/-! ### Symbols on the air (R139, R143, R152) -/

/-- A 2-level symbol in thirds of the outer deviation (R139). -/
def level2 (b : Bool) : Int := if b then 3 else -3

/-- 4-level symbols in thirds of the outer deviation, from consecutive bits (R139). -/
def levels4 : List Bool → List Int
  | a :: b :: r => (if a then (if b then -3 else -1) else if b then 3 else 1) :: levels4 r
  | _ => []

/-- The chips of Manchester-coded bits (R152), true for carrier on: a bit 0 is on then off, a bit 1 off then on. -/
def bitChips (bits : List Bool) : List Bool := bits.flatMap fun b => [!b, b]

/-- The bits that chips spell, up to the first pair that spells none (R152). -/
def chipBits : List Bool → List Bool
  | a :: b :: r => if a == b then [] else b :: chipBits r
  | _ => []

/-- The chips of Manchester-coded bits as what an emission puts on the air: 1 carrier on, 0 off. -/
def chips (bits : List Bool) : List Int := (bitChips bits).map fun b => if b then 1 else 0

/-- Alternating preamble bits, the first 0 (R140). -/
def preambleBits (k : Nat) : List Bool := (List.range k).map fun i => i % 2 == 1

/-- The sync word of a mode as symbols (R139, R140, R143), in thirds of the outer deviation: of a SUN-FSK mode the SFD of a coded or an
uncoded frame, in the 4-level mode as dibits (log entry 104). -/
def syncLevels (mode : Nat) (coded : Bool) : List Int :=
  let sfd := bitsHigh 16 (if coded then 0x632D else 0x7A0E)
  if nativeMode mode then (bitsHigh 16 0x9C63).map level2 else if mode == 7 then levels4 sfd else sfd.map level2

/-- The preamble of a mode as symbols (R140, R143; log entry 104). -/
def preambleLevels (mode : Nat) : List Int :=
  match mode with
  | 0 => (preambleBits 64).map level2
  | 1 => (preambleBits 32).map level2
  | 2 => (preambleBits 32).map level2
  | 3 => (preambleBits 64).map level2
  | 7 => (preambleBits 32).map fun b => -level2 b
  | _ => (preambleBits 64).map level2

/-- The header and PSDU of a frame as symbols (R139 to R147): HN-L and coded SUN-FSK frames send code bits; the code of the latter is the
standard's, which the spec does not give (R145; log entry 104). -/
def bodyLevels (mode : Nat) (octets : List Byte) (fcs32 whiten fec : Bool) : List Int :=
  let phr := bitsLow 16 (buildPhr mode octets.length fcs32 whiten).toNat
  let psdu := psduBits whiten octets
  let form (bits : List Bool) : List Int := if mode == 7 then levels4 bits else bits.map level2
  if mode == 0 then (convEncode 0 (phr ++ psdu ++ List.replicate 6 false)).map level2
  else if nativeMode mode then phr.map level2 ++ (if fourLevel mode then levels4 psdu else psdu.map level2)
  else if fec then form ((List.range (48 + 16 * octets.length)).map fun i => Config.sunCode (phr ++ psdu) i)
  else form (phr ++ psdu)

/-- What a transmission puts on the air, symbol by symbol (R137 to R147, R152 to R154): in an FSK mode the deviation of each symbol in
thirds of the mode's outer deviation; for a wake call 1 for each chip with carrier and 0 for each without. -/
def airSymbols (mode : Nat) (octets : List Byte) (fcs32 whiten fec : Bool) : List Int :=
  match mode with
  | 8 => chips (wakeCall octets) | 9 => chips (wakeCall octets)
  | 10 => chips patternCall | 11 => chips patternCall
  | _ => preambleLevels mode ++ syncLevels mode (!nativeMode mode && fec) ++ bodyLevels mode octets fcs32 whiten fec

end Sys2Proof.Machine
end

