-- ==== Sys2Proof/Machine/ClepOps.lean ====
section
/-! DEFINITION. Clepsydra: timers, deadline monitors, calendar and the trim measurement (chapter 14, R22 to R25). -/

namespace Sys2Proof.Machine

/-! ### Timers (R320 to R323) -/

/-- What timer `n` still has to do at the present instant. -/
def Dev.timerDue (d : Dev) (n : Nat) : TimerDue := Store.get ⟨0, false⟩ d.clep.timers n

/-- Sets what timer `n` still has to do. -/
def Dev.setTimerDue (d : Dev) (n : Nat) (t : TimerDue) : Dev :=
  { d with clep := { d.clep with timers := Store.put ⟨0, false⟩ d.clep.timers n t } }

/-- TIM[n].COUNT. -/
def Dev.count (d : Dev) (n : Nat) : Nat := d.rd (TIM.COUNT_COUNT n)

/-- TIM[n].PERIOD. -/
def Dev.period (d : Dev) (n : Nat) : Nat := d.rd (TIM.PERIOD_PERIOD n)

/-- Whether the next unit step of timer `n` sets COUNT to 0 (R321). -/
def Dev.wrapsNext (d : Dev) (n : Nat) : Bool := d.count n == d.period n || d.count n == 0xFFFFFFFF

/-- CMP advanced by INTERVAL modulo PERIOD + 1 from `c` (R322). -/
def Dev.nextCmp (d : Dev) (n c : Nat) : Nat := (c + d.rd (TIM.INTERVAL_INTERVAL n)) % (d.period n + 1)

/-- One unit step of timer `n` (R321): COUNT advances or wraps; a run-on that wraps sets PASSED; reaching CMP leaves a match to serve. -/
def Dev.unitStep (d : Dev) (n : Nat) : Dev :=
  let c := d.count n
  let c' := if d.wrapsNext n then 0 else c + 1
  let d' := d.wr (TIM.COUNT_COUNT n) c'
  let d' := if c == 0xFFFFFFFF && c != d.period n then d'.setF (TIM.STATUS_PASSED n) else d'
  if d.on (TIM.CFG_CMP_EN n) && c' == d.rd (TIM.CMP_CMP n) then d'.setTimerDue n { d'.timerDue n with matchDue := true } else d'

/-- A match of timer `n` (R322), CMP advancing from `c`. -/
def Dev.matchAt (d : Dev) (n c : Nat) : Dev :=
  let d' := d.setF (TIM.STATUS_MATCH n)
  let d' := d'.wr (TIM.STATUS_MATCHES n) (d'.rd (TIM.STATUS_MATCHES n) + 1)
  let d' := d'.wr (TIM.CMP_CMP n) (d.nextCmp n c)
  let d' := if d.on (TIM.CFG_STOP n) then d'.wr (TIM.CFG_CMP_EN n) 0 else d'
  if d.on (TIM.CFG_WAKE n) then d'.fireWake 0 else d'

/-- Serves the match of timer `n` that waits (R322). -/
def Dev.serveMatch (d : Dev) (n : Nat) : Dev :=
  if (d.timerDue n).matchDue then
    (d.setTimerDue n { d.timerDue n with matchDue := false }).matchAt n (d.rd (TIM.CMP_CMP n))
  else d

/-- Takes one owed unit step of timer `n`. -/
def Dev.takeStep (d : Dev) (n : Nat) : Dev :=
  let t := d.timerDue n
  (d.setTimerDue n { t with owed := t.owed - 1 }).unitStep n

/-- Carries out owed unit steps of timer `n` up to the first wrap or match, each of which has a command of its own. -/
def Dev.runTimer (d : Dev) (n : Nat) : Nat → Dev
  | 0 => d
  | k + 1 =>
    let t := d.timerDue n
    if t.matchDue || t.owed == 0 || d.wrapsNext n then d else (d.takeStep n).runTimer n k

/-- Carries out every owed unit step of timer `n`, wraps and matches included, in order. -/
def Dev.settleSteps (d : Dev) (n : Nat) : Nat → Dev
  | 0 => d.serveMatch n
  | k + 1 =>
    let d := d.serveMatch n
    if (d.timerDue n).owed == 0 then d else (d.takeStep n).settleSteps n k

/-- Everything timer `n` owes at the present instant is carried out. -/
def Dev.settleTimer (d : Dev) (n : Nat) : Dev := d.settleSteps n (d.timerDue n).owed

/-- Gives timer `n` `k` unit steps. -/
def Dev.owe (d : Dev) (n k : Nat) : Dev :=
  if k == 0 then d
  else
    let d := d.setTimerDue n { d.timerDue n with owed := (d.timerDue n).owed + k }
    d.runTimer n (d.timerDue n).owed

/-- A write of TIM[n].CMP (R323): an owed match is served first, then the value goes to the comparator; behind COUNT it sets BEHIND and
under CATCHUP counts as one match at once. -/
def Dev.cmpWrite (d : Dev) (n : Nat) (v : Word) : Dev :=
  let d := d.settleTimer n
  let dist := (v.toNat + 2 ^ 32 - d.count n) % 2 ^ 32
  let d := d.wr (TIM.CMP_CMP n) v.toNat
  if dist == 0 || 2 ^ 31 ≤ dist then
    let d := d.setF (TIM.STATUS_BEHIND n)
    if d.on (TIM.CFG_CATCHUP n) then d.matchAt n v.toNat else d
  else d

/-- A write of TIM[n].ARM (R323): CMP becomes (COUNT + DELTA) modulo (PERIOD + 1), a DELTA of 0 acting as 1. -/
def Dev.timerArm (d : Dev) (n : Nat) (delta : Word) : Dev :=
  let d := d.settleTimer n
  d.wr (TIM.CMP_CMP n) ((d.count n + max 1 delta.toNat) % (d.period n + 1))

/-! ### Deadline monitors (R22 to R24, R324, R325) -/

/-- The marks of monitor `m`. -/
def Dev.mon (d : Dev) (m : Nat) : DMon := Store.get DMon.idle d.clep.dmon m

/-- Sets the marks of monitor `m`. -/
def Dev.setMon (d : Dev) (m : Nat) (v : DMon) : Dev :=
  { d with clep := { d.clep with dmon := Store.put DMon.idle d.clep.dmon m v } }

/-- Whether monitor `m` is assigned to Lathe (R97). -/
def Dev.latheMon (d : Dev) (m : Nat) : Bool :=
  if m < 32 then (d.reg LATHE.DMON_LO_at).getLsbD m else (d.reg LATHE.DMON_HI_at).getLsbD (m - 32)

/-- The instant of an event at the present TICK edge: the fraction is 0. -/
def Dev.atEdge (d : Dev) (f : Dev → Dev) : Dev :=
  let fr := d.clep.frac
  let d' := f { d with clep := { d.clep with frac := 0#10 } }
  { d' with clep := { d'.clep with frac := fr } }

/-- The expiry of monitor `m` (R23, R325): the DEADLINE record with the arming agent, DMON_MISSES, EVENTS.MISS, the DMON wake source; the
monitor becomes idle and stays marked EXPIRED. -/
def Dev.expire (d : Dev) (m : Nat) : Dev :=
  let v := d.mon m
  let seq := d.sluice.seq
  let d := d.atEdge fun d =>
    d.fault { mkFault 0x07 20 m (d.rd (CLEP.DMON_DEADLINE m)) v.handle.toNat with agent := v.agent, agentNo := v.agentNo }
  let rec_ := if d.sluice.seq == seq then none else some d.sluice.seq
  (((d.setMon m { v with armed := false, expired := true, due := false, atNext := false, recSeq := rec_ }).inc
    CLEP.DMON_MISSES_COUNT).setF CLEP.EVENTS_MISS).fireWake 2

/-- Serves the expiry of monitor `m` that the latest edge left, if any (R24). -/
def Dev.settleMon (d : Dev) (m : Nat) : Dev := if (d.mon m).due then d.expire m else d

/-- Arms monitor `m` with a deadline for an agent (R324): an expiry at the same edge is served first; a deadline at or behind TICK
expires at the next edge. -/
def Dev.armMon (d : Dev) (m : Nat) (deadline : Nat) (agent agentNo : Nat) (handle : Word) : Dev :=
  let d := d.settleMon m
  let dist := (deadline + 2 ^ 32 - d.tick32) % 2 ^ 32
  (d.setMon m { armed := true, expired := false, agent := agent, agentNo := agentNo, handle := handle, due := false,
                atNext := dist == 0 || 2 ^ 31 ≤ dist, recSeq := none }).wr (CLEP.DMON_DEADLINE m) deadline

/-- Disarms monitor `m` (R24): an expiry at the same edge is served first; a monitor marked EXPIRED has its record marked LATE. -/
def Dev.disarmMon (d : Dev) (m : Nat) : Dev :=
  let d := d.settleMon m
  let v := d.mon m
  if v.armed then d.setMon m { v with armed := false, atNext := false }
  else if v.expired then
    match v.recSeq with
    | some q =>
      let d' := d.markLate q
      if d'.sluice.seq == d.sluice.seq then d else d'.setMon m { v with recSeq := some d'.sluice.seq }
    | none => d
  else d

/-- Disarms the monitor that the event of context slot `s` armed (R96): one that has since been armed for another event is left alone. -/
def Dev.disarmEvent (d : Dev) (m s : Nat) : Dev :=
  if (d.mon m).agent == 4 && (d.mon m).handle == Word.ofNat s then d.disarmMon m else d

/-- Makes monitor `m` idle without a miss (R298, R325). -/
def Dev.idleMon (d : Dev) (m : Nat) : Dev := d.setMon m { d.mon m with armed := false, due := false, atNext := false }

/-- A write of DMON[m] by a master (R324): ignored, with OWNED set, for a monitor assigned to Lathe. -/
def Dev.dmonWrite (d : Dev) (ms : Master) (m : Nat) (v : Word) : Dev :=
  if d.latheMon m then d.setF CLEP.EVENTS_OWNED else d.armMon m v.toNat ms.agent ms.agentNo 0xFFFFFFFF#32

/-- A write of DMON_DISARM_LO (`hi` = 0) or _HI (`hi` = 1) (R324). -/
def Dev.dmonDisarm (d : Dev) (hi : Nat) (v : Word) : Dev :=
  (List.range 32).foldl (fun d j =>
    if v.getLsbD j then
      if d.latheMon (32 * hi + j) then d.setF CLEP.EVENTS_OWNED else d.disarmMon (32 * hi + j)
    else d) d

/-- DMON_ARMED_LO or _HI as read. -/
def Dev.dmonArmed (d : Dev) (hi : Nat) : Nat :=
  ((List.range 32).map fun j => if (d.mon (32 * hi + j)).armed then 2 ^ j else 0).sum

/-- An advance of TICK from `t` by `adv` reaches armed deadlines (R325): every monitor reached is left to be served. -/
def Dev.reachMons (d : Dev) (t adv : Nat) : Dev :=
  (Store.keysWhere (fun _ v => v.armed) d.clep.dmon).foldl (fun d m =>
    let v := d.mon m
    let gone := (d.rd (CLEP.DMON_DEADLINE m) + 2 ^ 32 - t % 2 ^ 32) % 2 ^ 32
    if v.atNext || (1 ≤ gone && gone ≤ adv) then d.setMon m { v with due := true } else d) d

/-! ### Calendar (R326 to R329) -/

/-- Whether a year of the calendar is a leap year (R326). -/
def leapYear (y : Nat) : Bool := y % 4 == 0 && (y % 100 != 0 || y % 400 == 0)

/-- The days of a month (R326). -/
def daysIn (y m : Nat) : Nat :=
  if m == 2 then (if leapYear y then 29 else 28)
  else if m == 4 || m == 6 || m == 9 || m == 11 then 30 else 31

/-- The calendar's next day (R326). -/
def Dev.nextDay (d : Dev) : Dev :=
  let wd := d.rd CAL.WEEKDAY_DAY
  let d := d.wr CAL.WEEKDAY_DAY (if 6 ≤ wd then 0 else wd + 1)
  let y := d.rd CAL.DATE_YEAR
  let m := d.rd CAL.DATE_MONTH
  if d.rd CAL.DATE_DAY < daysIn y m then d.wr CAL.DATE_DAY (d.rd CAL.DATE_DAY + 1)
  else
    let d := d.wr CAL.DATE_DAY 1
    if m < 12 then d.wr CAL.DATE_MONTH (m + 1)
    else
      let d := d.wr CAL.DATE_MONTH 1
      if y < 9999 then d.wr CAL.DATE_YEAR (y + 1) else (d.wr CAL.DATE_YEAR 0).setF CAL.STATUS_WRAP

/-- Whether the alarm's enabled fields all equal the calendar (R329). -/
def Dev.alarmHits (d : Dev) : Bool :=
  let ok (en v f : Fld) : Bool := !d.on en || d.rd v == d.rd f
  (d.on CAL.ALARM_SEC_EN || d.on CAL.ALARM_MIN_EN || d.on CAL.ALARM_HOUR_EN || d.on CAL.ALARM_DAY_EN) &&
    ok CAL.ALARM_SEC_EN CAL.ALARM_SEC CAL.TIME_SEC && ok CAL.ALARM_MIN_EN CAL.ALARM_MIN CAL.TIME_MIN &&
    ok CAL.ALARM_HOUR_EN CAL.ALARM_HOUR CAL.TIME_HOUR && ok CAL.ALARM_DAY_EN CAL.ALARM_DAY CAL.DATE_DAY

/-- A second boundary (R326, R329): the fields carry, and the alarm fires where its enabled fields match. -/
def Dev.nextSecond (d : Dev) : Dev :=
  let d :=
    if d.rd CAL.TIME_SEC < 59 then d.wr CAL.TIME_SEC (d.rd CAL.TIME_SEC + 1)
    else
      let d := d.wr CAL.TIME_SEC 0
      if d.rd CAL.TIME_MIN < 59 then d.wr CAL.TIME_MIN (d.rd CAL.TIME_MIN + 1)
      else
        let d := d.wr CAL.TIME_MIN 0
        if d.rd CAL.TIME_HOUR < 23 then d.wr CAL.TIME_HOUR (d.rd CAL.TIME_HOUR + 1)
        else (d.wr CAL.TIME_HOUR 0).nextDay
  if d.alarmHits then (d.setF CAL.STATUS_ALARM).fireWake 1 else d

/-- Serves the second boundary that the latest edge left, if any. -/
def Dev.settleSecond (d : Dev) : Dev :=
  if d.clep.secondDue then ({ d with clep := { d.clep with secondDue := false } } : Dev).nextSecond else d

/-- SUBSEC counts `adv` TICK advances (R326). -/
def Dev.countSubsec (d : Dev) (adv : Nat) : Dev :=
  let n := d.rd CAL.SUBSEC_SUBSEC + adv
  let d := d.wr CAL.SUBSEC_SUBSEC (n % 32768)
  if 32768 ≤ n then { d with clep := { d.clep with secondDue := true } } else d

/-- A write of CAL.TIME (R327). -/
def Dev.timeWrite (d : Dev) (v : Word) : Dev :=
  let d := d.settleSecond
  if bitsOf v 16 5 ≤ 23 && bitsOf v 8 6 ≤ 59 && bitsOf v 0 6 ≤ 59 then
    (((d.wr CAL.TIME_HOUR (bitsOf v 16 5)).wr CAL.TIME_MIN (bitsOf v 8 6)).wr CAL.TIME_SEC (bitsOf v 0 6)).wr CAL.SUBSEC_SUBSEC 0
  else d.setF CAL.STATUS_REJECT

/-- A write of CAL.DATE (R327). -/
def Dev.dateWrite (d : Dev) (v : Word) : Dev :=
  let d := d.settleSecond
  let y := bitsOf v 16 14
  let m := bitsOf v 8 4
  let dd := bitsOf v 0 5
  if y ≤ 9999 && 1 ≤ m && m ≤ 12 && 1 ≤ dd && dd ≤ daysIn y m then
    ((d.wr CAL.DATE_YEAR y).wr CAL.DATE_MONTH m).wr CAL.DATE_DAY dd
  else d.setF CAL.STATUS_REJECT

/-- A write of CAL.WEEKDAY (R327). -/
def Dev.weekdayWrite (d : Dev) (v : Word) : Dev :=
  let d := d.settleSecond
  if bitsOf v 0 3 ≤ 6 then d.wr CAL.WEEKDAY_DAY (bitsOf v 0 3) else d.setF CAL.STATUS_REJECT

/-- A read of CAL.SUBSEC captures TIME and DATE (R328). -/
def Dev.subsecRead (d : Dev) : Dev :=
  let d := d.settleSecond
  (d.setReg CAL.TIME_SNAP_at (d.reg CAL.TIME_at)).setReg CAL.DATE_SNAP_at (d.reg CAL.DATE_at)

/-- A read of CLEP.TICK_LO captures TICK[47:32] and the fraction (R319). -/
def Dev.tickLoRead (d : Dev) : Dev :=
  (d.wr CLEP.TICK_HI_SNAP_HI (d.tick / 2 ^ 32)).wr CLEP.TICK_HI_SNAP_FRAC d.frac

/-! ### Trim measurement (R330, R331) -/

/-- TRIM as it acts: signed, limited to −16,384 to 16,384 (R332). -/
def Dev.trim (d : Dev) : Int := max (-16384) (min 16384 (signed 16 (d.rd CLEP.TRIM_VALUE)))

/-- Ends the running measurement FAILED with a reason: 1 NOREF, 2 RANGE, 3 ABORTED. -/
def Dev.measFail (d : Dev) (why : Nat) : Dev :=
  (({ d with clep := { d.clep with meas := none } } : Dev).wr CLEP.MEAS_STATUS_STATE 3).wr CLEP.MEAS_STATUS_WHY why

/-- MEAS_CTRL.GO: a measurement starts or restarts (R330). -/
def Dev.measGo (d : Dev) : Dev :=
  let m : Meas := ⟨d.on CLEP.MEAS_CTRL_SRC, if d.on CLEP.MEAS_CTRL_HZ60 then 60 else 50, max 16 (d.rd CLEP.MEAS_CTRL_WINDOW), false,
    0, d.now, 0, 0, 0⟩
  ((({ d with clep := { d.clep with meas := some m } } : Dev).wr CLEP.MEAS_STATUS_STATE 1).wr CLEP.MEAS_STATUS_WHY 0).wr
    CLEP.MEAS_STATUS_APPLIED 0

/-- A quotient rounded to the nearest integer, halves away from zero. -/
def roundDiv (a : Int) (b : Nat) : Int :=
  if 0 ≤ a then ((2 * a.toNat + b) / (2 * b) : Nat) else -(((2 * (-a).toNat + b) / (2 * b) : Nat) : Int)

/-- The window closes with local span `m` and expected span `x`, both in 1/1,024 tick (R330, R331): PROPOSAL, or FAILED with RANGE; with
AUTO a proposal within 8 × MAXSTEP of TRIM is applied. -/
def Dev.measClose (d : Dev) (m x : Nat) : Dev :=
  let prop := d.trim - roundDiv (32000000 * ((m : Int) - (x : Int))) x
  if prop < -16384 || 16384 < prop then d.measFail 2
  else
    let near := (prop - d.trim).natAbs ≤ 8 * d.rd CLEP.MEAS_CTRL_MAXSTEP
    let d := ((({ d with clep := { d.clep with meas := none } } : Dev).wr CLEP.MEAS_STATUS_STATE 2).wr CLEP.MEAS_STATUS_WHY 0).wr
      CLEP.PROPOSAL_VALUE (twos 16 prop)
    if d.on CLEP.MEAS_CTRL_AUTO && near then (d.wr CLEP.TRIM_VALUE (twos 16 prop)).setF CLEP.MEAS_STATUS_APPLIED else d

/-- A rising MAINS_REF edge (R330). -/
def Dev.mainsEdge (d : Dev) : Dev :=
  match d.clep.meas with
  | none => d
  | some m =>
    if m.net then d
    else if !m.started then
      { d with clep := { d.clep with meas := some { m with started := true, first := d.now, last := d.now, edges := 0 } } }
    else if (d.now - m.last) * m.hz * 10 < 4 * 2 ^ 25 then d
    else
      let e := m.edges + 1
      if e == m.window * m.hz then d.measClose (d.now - m.first) (m.window * 32768 * 1024)
      else { d with clep := { d.clep with meas := some { m with last := d.now, edges := e } } }

/-- No mains edge for 2 nominal periods (R330): the measurement fails, if that time has passed. -/
def Dev.noRef (d : Dev) : Dev :=
  match d.clep.meas with
  | none => d
  | some m => if !m.net && 2 * 2 ^ 25 ≤ (d.tick * 1024 + 1023 - m.last) * m.hz then d.measFail 1 else d

/-- A write of LOC_RX commits a network mark (R330). -/
def Dev.netMark (d : Dev) (v : Word) : Dev :=
  let d := d.setReg CLEP.LOC_RX_at v
  let net := (d.reg CLEP.NET_TX_at).toNat
  match d.clep.meas with
  | none => d
  | some m =>
    if !m.net then d
    else if !m.started then
      { d with clep := { d.clep with meas := some { m with started := true, net0 := net, loc0 := v.toNat } } }
    else
      let dn := (net + 2 ^ 32 - m.net0) % 2 ^ 32
      let dl := signed 32 (v.toNat + 2 ^ 32 - m.loc0)
      if 2 ^ 31 ≤ dn || dl ≤ 0 then d.measFail 2
      else if m.window * 32768 ≤ dn then d.measClose (dl.toNat * 1024) (dn * 1024)
      else d

/-- MEAS_CTRL.APPROVE (R331): PROPOSAL is copied into TRIM while the measurement is DONE. -/
def Dev.approve (d : Dev) : Dev :=
  if d.rd CLEP.MEAS_STATUS_STATE == 2 then d.wr CLEP.TRIM_VALUE (d.rd CLEP.PROPOSAL_VALUE) else d

/-- A write of CLEP.TRIM (R330): a running measurement ends ABORTED. -/
def Dev.trimWrite (d : Dev) (v : Word) : Dev :=
  let d := d.wr CLEP.TRIM_VALUE (bitsOf v 0 16)
  match d.clep.meas with
  | some _ => d.measFail 3
  | none => d

/-- A write of CLEP.MEAS_CTRL: its RW fields, then GO and APPROVE. -/
def Dev.measCtrlWrite (d : Dev) (v : Word) : Dev :=
  let d := d.setReg CLEP.MEAS_CTRL_at (v &&& 0xFFFFFF0E#32)
  let d := if v.getLsbD 4 then d.approve else d
  if v.getLsbD 0 then d.measGo else d

end Sys2Proof.Machine
end

