-- ==== Sys2Proof/Machine/LatheBase.lean ====
section
/-! DEFINITION. Lathe's context records, notices, window table and declaration log: what Basin and the transmit chain need of Lathe
(chapter 03). -/

namespace Sys2Proof.Machine

/-! ### Context records (R68 to R72) -/

/-- The address of word `off` of context slot `s` (R68). -/
def ctxAddr (s off : Nat) : Nat := 0x400000 + 0x80 * s + off

/-- The offsets of the words whose tags Lathe checks (R72). -/
def ctxChecked : List Nat := [0x00, 0x04, 0x08, 0x0C, 0x10, 0x14, 0x18, 0x1C, 0x20, 0x24, 0x28, 0x2C, 0x40, 0x48]

/-- A context record as Lathe reads it (R70). -/
structure Ctx where
  slot : Nat
  w00 : Word
  w0C : Word
  map : Nat
  counter : Nat
  anchor : Nat
  interval : Nat
  w28 : Word
  superv : Nat
  w40 : Word
  w48 : Word
  deriving DecidableEq, Repr

/-- STATE of a context. -/
def Ctx.state (c : Ctx) : Nat := bitsOf c.w00 0 8
/-- ROLE: whether a context is LEAD. -/
def Ctx.lead (c : Ctx) : Bool := c.w00.getLsbD 8
/-- RESYNC_EN. -/
def Ctx.resyncEn (c : Ctx) : Bool := c.w00.getLsbD 9
/-- NOBOOST. -/
def Ctx.noBoost (c : Ctx) : Bool := c.w00.getLsbD 10
/-- FORCE_RS. -/
def Ctx.forceRs (c : Ctx) : Bool := c.w00.getLsbD 11
/-- KIND. -/
def Ctx.kind (c : Ctx) : Nat := bitsOf c.w00 16 8
/-- MISSES. -/
def Ctx.misses (c : Ctx) : Nat := bitsOf c.w00 24 8
/-- PLAN. -/
def Ctx.plan (c : Ctx) : Nat := bitsOf c.w0C 16 4
/-- PHY. -/
def Ctx.phy (c : Ctx) : Nat := bitsOf c.w0C 20 4
/-- SEED. -/
def Ctx.seed (c : Ctx) : Nat := bitsOf c.w0C 24 6
/-- EPRIO. -/
def Ctx.eprio (c : Ctx) : Nat := bitsOf c.w48 8 2
/-- RES in µs. -/
def Ctx.res (c : Ctx) : Nat := bitsOf c.w48 16 16
/-- DCLASS. -/
def Ctx.dclass (c : Ctx) : Nat := bitsOf c.w48 0 4
/-- HFLUME. -/
def Ctx.hflume (c : Ctx) : Nat := bitsOf c.w40 16 6
/-- ENTRY. -/
def Ctx.entry (c : Ctx) : Nat := bitsOf c.w40 0 14

/-- Reads the checked words of context `s`: the record, and whether any of them is POISON or VOID (R72). -/
def Dev.readCtx (d : Dev) (s : Nat) : Ctx × Bool × Dev :=
  let step (acc : List TWord × Dev) (off : Nat) : List TWord × Dev :=
    let (w, d) := acc.2.sramRead (ctxAddr s off)
    (acc.1 ++ [w], d)
  let (ws, d) := ctxChecked.foldl step ([], d)
  let g (i : Nat) : Word := (ws.getD i ⟨0#32, .raw⟩).data
  ({ slot := s, w00 := g 0, w0C := g 3, map := (g 4).toNat + (g 5).toNat * 2 ^ 32, counter := (g 6).toNat,
     anchor := ((g 7).toNat + bitsOf (g 8) 0 16 * 2 ^ 32) * 1024 + bitsOf (g 8) 16 10, interval := (g 9).toNat, w28 := g 10,
     superv := (g 11).toNat, w40 := g 12, w48 := g 13 },
   ws.any fun w => w.tag.bad, d)

/-- Lathe writes word 0x00 of a context with a new STATE and MISSES. -/
def Ctx.with00 (c : Ctx) (state misses : Nat) : Ctx := { c with w00 := setBits (setBits c.w00 0 8 state) 24 8 misses }

/-- An instant modulo the 58 bits Lathe works in (R79). -/
def wrap58 (n : Nat) : Nat := n % 2 ^ 58

/-- Writes back the words Lathe owns: 0x00 and COUNTER (R70). -/
def Dev.writeCtx (d : Dev) (c : Ctx) : Dev :=
  let d := d.sramWrite (ctxAddr c.slot 0x00) ⟨c.w00, .raw⟩
  d.sramWrite (ctxAddr c.slot 0x18) ⟨Word.ofNat c.counter, .nat⟩

/-- Writes the anchor words of a context. -/
def Dev.writeAnchor (d : Dev) (c : Ctx) : Dev :=
  let d := d.sramWrite (ctxAddr c.slot 0x1C) ⟨Word.ofNat (c.anchor / 1024), .time⟩
  d.sramWrite (ctxAddr c.slot 0x20) ⟨Word.ofNat (c.anchor / 1024 / 2 ^ 32 % 65536 + c.anchor % 1024 * 65536), .raw⟩

/-- A context handle (R68). -/
def ctxHandle (s : Nat) : TWord := ⟨Word.ofNat s, .ctx⟩

/-! ### Time units (R79) -/

/-- Microseconds as 1/1,024 ticks, rounded down. -/
def usFloor (us : Nat) : Nat := us * 524288 / 15625

/-- Microseconds as 1/1,024 ticks, rounded up. -/
def usCeil (us : Nat) : Nat := (us * 524288 + 15624) / 15625

/-- Nanoseconds as 1/1,024 ticks, rounded down. -/
def nsFloor (ns : Nat) : Nat := ns * 524288 / 15625000

/-- Nanoseconds as 1/1,024 ticks, rounded up. -/
def nsCeil (ns : Nat) : Nat := (ns * 524288 + 15624999) / 15625000

/-- 1/1,024 ticks as whole microseconds, rounded to the nearest. -/
def unitsToUs (u : Nat) : Nat := (u * 15625 + 262144) / 524288

/-! ### Notices (R93) -/

/-- Lathe writes a notice for a context to the notice Flume of port `p`; one that does not fit is dropped whole. -/
def Dev.notice (d : Dev) (p slot note reason ctr : Nat) : Dev :=
  let n := d.rd (if p == 0 then LATHE.NOTE_FLUME_PORT_A else LATHE.NOTE_FLUME_PORT_B)
  let ws : List TWord := [ctxHandle slot, ⟨Word.ofNat (ctr % 2 ^ 24 + reason * 2 ^ 24 + note * 2 ^ 28), .raw⟩]
  let lost := d.flumeDrops n 2
  let d := d.flumeWrite n (group ws)
  if lost then d.setF LATHE.EVENTS_NOTEDROP else d

/-! ### Windows (R91, R92) -/

/-- Whether the group (bin, width code) overlaps bins `b` to `b + w − 1`. -/
def binsOverlap (b1 w1 b2 w2 : Nat) : Bool := b1 < b2 + w2 && b2 < b1 + w1

/-- Whether a group of a port overlaps a window's groups. -/
def Window.covers (w : Window) (port bin width : Nat) : Bool :=
  w.port == port && w.groups.any fun g => binsOverlap bin (binsOf width) g.1 (binsOf g.2)

/-- Whether a START stamp lies in a window. -/
def Window.inside (w : Window) (start : Nat) : Bool := w.openAt ≤ start && start ≤ w.closeAt

/-- An accepted declaration hits a window (R92): its lane is tracked, up to four. -/
def Window.hit (w : Window) (lane : Nat) (gone : Bool) : Window :=
  let w := { w with times := w.times + 1 }
  if (w.hits.any fun h => h.lane == lane && !h.gone) || 4 ≤ w.hits.length then w else { w with hits := w.hits ++ [⟨lane, gone⟩] }

/-- A hit is withdrawn (R92). -/
def Window.withdraw (w : Window) (lane : Nat) : Window :=
  { w with hits := w.hits.filter fun h => !(h.lane == lane && !h.gone), withdrawn := true }

/-- The EMPTY reason of a window without a hit (R89, R90, R92); where several hold, the first of WITHDRAWN, PORTOFF, LATE and NOHIT (log
entry 106). -/
def Window.reason (w : Window) : Nat := if w.withdrawn then 1 else if !w.wasActive then 2 else if w.late then 3 else 0

/-- Whether a window has ended empty (R92): one hit five times or more never does. -/
def Window.isEmpty (w : Window) : Bool := w.ended && w.hits.isEmpty && w.times < 5

/-- Whether a window leaves the table (R91): its listen end has passed and every lane that hit it has left SEARCH. -/
def Window.over (w : Window) : Bool := w.ended && w.hits.all Hit.gone

/-- Replaces the windows, writing the EMPTY notice of each window that has ended empty and removing each that is over. -/
def Dev.setWindows (d : Dev) (ws : List Window) : Dev :=
  let gone := ws.filter fun w => w.over && !w.isEmpty
  let held := d.lathe.held.map fun h =>
    if !h.lead && gone.any (fun w => w.slot == h.slot && w.ctr == h.ctr) then { h with wasHit := true } else h
  let d := { d with lathe := { d.lathe with windows := ws.filter fun w => !w.over, held := held } }
  ws.foldl (fun d w => if w.isEmpty then d.notice w.port w.slot 1 w.reason w.ctr else d) d

/-- What became of `lane` is noted in the declarations it searched on (R89). -/
def Dev.noteFate (d : Dev) (lane : Nat) (f : DeclFate) : Dev :=
  { d with lathe := { d.lathe with
      declLog := d.lathe.declLog.map fun r => if r.lane == lane && r.fate == .searching then { r with fate := f } else r } }

/-- A lane leaves SEARCH (R91). -/
def Dev.leaveSearch (d : Dev) (lane : Nat) : Dev :=
  (d.noteFate lane .gone).setWindows (d.lathe.windows.map fun w =>
    { w with hits := w.hits.map fun h => if h.lane == lane then { h with gone := true } else h })

/-- A tracked lane restarts (R92): where its new START lies outside a window it stops hitting it. -/
def Dev.restartHits (d : Dev) (lane start : Nat) : Dev :=
  (d.noteFate lane .restarted).setWindows (d.lathe.windows.map fun w =>
    if !w.inside start && w.hits.any (fun h => h.lane == lane && !h.gone) then w.withdraw lane else w)

/-- 1 ms in 1/1,024 ticks. -/
def oneMs : Nat := usFloor 1000

/-- Basin accepts a declaration (R89, R92): it enters the declaration log and hits every window it lies in. -/
def Dev.acceptDecl (d : Dev) (port bin width start lane : Nat) : Dev :=
  let young := d.lathe.declLog.filter fun r => d.now < r.at_ + oneMs
  let lost := if 128 ≤ young.length then (young.head?.map DeclRec.at_) else d.lathe.logLost
  let log := (if 128 ≤ young.length then young.drop 1 else young) ++ [⟨port, bin, width, start, lane, d.now, .searching⟩]
  let ws := d.lathe.windows.map fun w => if w.covers port bin width && w.inside start then w.hit lane false else w
  { d with lathe := { d.lathe with declLog := log, logLost := lost, windows := ws } }

/-- Whether a group overlaps a group on which Lathe holds an open receive window that boosts (R46, R91). -/
def Dev.boosted (d : Dev) (port bin width : Nat) : Bool :=
  d.lathe.windows.any fun w => !w.noBoost && w.openAt ≤ d.now && d.now ≤ w.listenEnd && w.covers port bin width

/-- A port that has become active begins a span of activity (R38), and the windows open on it take note (R90). -/
def Dev.noteActive (d : Dev) : Dev :=
  let ws := d.lathe.windows.map fun w =>
    if w.openAt ≤ d.now && d.now ≤ w.closeAt && d.portActive w.port then { w with wasActive := true } else w
  let begun := [0, 1].filter fun p => d.portActive p && !d.lathe.spans.any fun x => x.port == p && x.till.isNone
  { d with lathe := { d.lathe with windows := ws, spans := d.lathe.spans ++ begun.map fun p => ⟨p, d.now, none⟩ } }

/-- A port stops being active: its span of activity ends. -/
def Dev.noteInactive (d : Dev) (p : Nat) : Dev :=
  { d with lathe := { d.lathe with spans := d.lathe.spans.map fun x =>
    if x.port == p && x.till.isNone then { x with till := some d.now } else x } }

/-- Whether a port was active at some instant from `a` to `b`, up to the present (R90). -/
def Dev.activeIn (d : Dev) (p a b : Nat) : Bool :=
  d.lathe.spans.any fun x => x.port == p && x.from_ ≤ b && match x.till with
    | some t => a ≤ t
    | none => true

end Sys2Proof.Machine
end

