-- ==== Sys2Proof/Machine/Chisel.lean ====
section
/-! DEFINITION. Chisel: job dispatch and its checks, the chained modes and their sharing, link CCM, results, the key table and the lease
(chapter 07). -/

namespace Sys2Proof.Machine

/-! ### Descriptors (R157, R158) -/

/-- MODE of a job. -/
def Job.mode (j : Job) : Nat := bitsOf (j.words.getD 0 ⟨0#32, .raw⟩).data 28 4
/-- DIR: decrypt or verify. -/
def Job.dir (j : Job) : Bool := (j.words.getD 0 ⟨0#32, .raw⟩).data.getLsbD 27
/-- FIRST. -/
def Job.first (j : Job) : Bool := (j.words.getD 0 ⟨0#32, .raw⟩).data.getLsbD 26
/-- LAST. -/
def Job.last (j : Job) : Bool := (j.words.getD 0 ⟨0#32, .raw⟩).data.getLsbD 25
/-- WRAP. -/
def Job.wrap (j : Job) : Bool := (j.words.getD 0 ⟨0#32, .raw⟩).data.getLsbD 24
/-- MACLEN in octets; 0 means 16. -/
def Job.macLen (j : Job) : Nat :=
  let m := bitsOf (j.words.getD 0 ⟨0#32, .raw⟩).data 16 4
  if m == 0 then 16 else m
/-- AADLEN. -/
def Job.aadLen (j : Job) : Nat := bitsOf (j.words.getD 0 ⟨0#32, .raw⟩).data 0 11
/-- Descriptor word `i` as a number. -/
def Job.w (j : Job) (i : Nat) : Nat := (j.words.getD i ⟨0#32, .raw⟩).data.toNat
/-- The tag of descriptor word `i`. -/
def Job.tag (j : Job) (i : Nat) : Tag := (j.words.getD i ⟨0#32, .raw⟩).tag
/-- SRC, DST, LEN, STATE and AUX. -/
def Job.src (j : Job) : Nat := j.w 2
def Job.dst (j : Job) : Nat := j.w 3
def Job.len (j : Job) : Nat := j.w 4
def Job.stateAt (j : Job) : Nat := j.w 5
def Job.aux (j : Job) : Nat := j.w 6
/-- A chained mode (R158). -/
def Job.chained (j : Job) : Bool := 1 ≤ j.mode && j.mode ≤ 5
/-- A chained job that is not self-contained uses chaining state (R158). -/
def Job.usesState (j : Job) : Bool := j.chained && !(j.first && j.last)
/-- Whether word 5 is used (R157, R165, R169): in CONTEXT sharing by the record or the IV of a chained job; in LOCK sharing by the IV of a
FIRST job alone.  CBC-MAC has no IV. -/
def Job.usesRecord (j : Job) (lock : Bool) : Bool :=
  if lock then j.chained && j.first && j.mode != 5 else j.usesState || (j.chained && j.mode != 5)
/-- CCM-LINK. -/
def Job.ccm (j : Job) : Bool := j.mode == 6
/-- MIC octets of a security level; 0 for a level that R160 refuses (R171). -/
def micLen (level : Nat) : Nat :=
  if level == 1 || level == 5 then 4 else if level == 2 || level == 6 then 8 else if level == 3 || level == 7 then 16 else 0
/-- The output length in octets (R158, R171). -/
def Job.outLen (j : Job) : Nat :=
  if j.ccm then (if j.dir then j.len - micLen j.level else j.len + micLen j.level)
  else if j.mode == 5 then (if j.last then j.macLen else 0)
  else j.len

/-- An octet count rounded up to words. -/
def wordBytes (n : Nat) : Nat := (n + 3) / 4 * 4

/-- CFG.SHARING = LOCK. -/
def Dev.lockSharing (d : Dev) : Bool := d.on CHISEL.CFG_SHARING

/-- The check BADDESC (R157, R159, R160). -/
def Job.badDesc (j : Job) (lock : Bool) : Bool :=
  let w0 := j.w 0
  let okTag := j.tag 0 == .raw && j.tag 1 == (if j.ccm then .ctx else .key) && j.tag 2 == .dptr && j.tag 3 == .dptr
    && j.tag 4 == .nat && (!j.usesRecord lock || j.tag 5 == .dptr) && j.tag 6 == .nat
  let reserved := 7 ≤ j.mode || w0 / 2 ^ 20 % 16 != 0 || w0 / 2 ^ 11 % 32 != 0
  let mac := j.mode == 5 && (j.macLen < 4 || j.macLen % 2 == 1)
  let n := wordBytes j.len
  let m := wordBytes j.outLen
  let place := j.src % 4 == 0 && j.dst % 4 == 0 && j.src + n ≤ 0x600000 && j.dst + m ≤ 0x600000
    && (!j.usesRecord lock || (j.stateAt % 64 == 0 && j.stateAt + (if lock then 16 else 64) ≤ 0x600000))
  let overlap := j.dst != j.src && j.dst < j.src + n && j.src < j.dst + m
  !okTag || reserved || mac || !place || overlap

/-- The check BADLEN (R158, R171). -/
def Job.badLen (j : Job) : Bool :=
  if j.ccm then
    2047 < j.len || 2047 < j.outLen || (if j.dir then j.len < micLen j.level + j.aadLen else j.len < j.aadLen)
  else if j.mode ≤ 1 then j.len % 16 != 0
  else if j.mode ≤ 4 then j.len % 16 != 0 && !j.last
  else false

/-! ### Keys (R162) -/

/-- Key-table entry `i`. -/
def Dev.keyEntry (d : Dev) (i : Nat) : KeyEntry := Store.get KeyEntry.blank d.chisel.keys i

/-- The octets of an entry's key, by its SIZE. -/
def KeyEntry.octets (k : KeyEntry) : List Nat :=
  (List.range (if k.size == 0 then 16 else if k.size == 1 then 24 else 32)).map fun i => (k.bits.extractLsb' (8 * i) 8).toNat

/-- The wrap key of CHISEL.WRAPKEY. -/
def Dev.wrapKey (d : Dev) : List Nat :=
  (List.range 8).flatMap fun i => (octetsOf (d.reg (CHISEL.WRAPKEY_at i))).map BitVec.toNat

/-- KCTRL.WRITE (R162): the entry changes in one step; SIZE 3 makes it invalid. -/
def Dev.keyWrite (d : Dev) (size : Nat) : Dev :=
  let i := d.rd CHISEL.KSEL_INDEX
  let bits := ((List.range 8).map fun k => (d.reg (CHISEL.KDATA_at k)).toNat * 2 ^ (32 * k)).sum
  let e : KeyEntry := ⟨BitVec.ofNat 256 bits, size, size != 3⟩
  let d := { d with chisel := { d.chisel with keys := Store.put KeyEntry.blank d.chisel.keys i e } }
  (d.wr CHISEL.KCTRL_SIZE size).wr CHISEL.KCTRL_VALID (if size != 3 then 1 else 0)

/-- KCTRL.READ (R162). -/
def Dev.keyRead (d : Dev) : Dev :=
  let e := d.keyEntry (d.rd CHISEL.KSEL_INDEX)
  let d := (List.range 8).foldl (fun d k => d.setReg (CHISEL.KDATA_at k) (e.bits.extractLsb' (32 * k) 32)) d
  (d.wr CHISEL.KCTRL_SIZE e.size).wr CHISEL.KCTRL_VALID (if e.valid then 1 else 0)

/-- A write of CHISEL.KCTRL (R162, R176): WRITE, then READ; SIZE reads back as the entry last read or written has it. -/
def Dev.kctrlWrite (d : Dev) (v : Word) : Dev :=
  let d := if v.getLsbD 3 then d.keyWrite (bitsOf v 0 2) else d
  if v.getLsbD 4 then d.keyRead else d

/-! ### The cores (R155, R156, R174) -/

/-- The physical core of serving position `i`; 255 where it has none. -/
def Dev.corePos (d : Dev) (i : Nat) : Nat := Store.get i d.chisel.pos i

/-- Whether physical core `c` serves jobs. -/
def Dev.coreServes (d : Dev) (c : Nat) : Bool := (List.range 8).any fun i => d.corePos i == c

/-- Whether physical core `c` runs a job. -/
def Dev.coreBusy (d : Dev) (c : Nat) : Bool := d.chisel.jobs.any fun j => j.core == c

/-! ### Waiting descriptors and the interlock (R156, R168, R169) -/

/-- The descriptor of queue `q` with words `ws`, before any core has it. -/
def Job.fresh (q : Nat) (ws : List TWord) : Job :=
  { core := 15, queue := q, words := ws, key := [], chain := ⟨0, false, 0, 0, [], []⟩, status := none, badAt := none, nonce := [], level := 0,
    win := (0, 0), newWin := (0, 0), orphan := false }

/-- The head packet of a job Flume as a descriptor, where it is a whole one. -/
def Dev.headJob (d : Dev) (q : Nat) : Option Job :=
  let n := d.rd (CHISEL.QCFG_JOB_FLUME q)
  if d.wholeHead n 8 then some (.fresh q (((d.flume n).entries.take 8).map fun e => ⟨e.data, e.tag⟩)) else none

/-- Cuts a Flume's entries into packets. -/
def packetsOf : List FEntry → List FEntry → List (List FEntry)
  | [], [] => []
  | cur, [] => [cur.reverse]
  | cur, e :: r => if e.isEnd then (e :: cur).reverse :: packetsOf [] r else packetsOf (e :: cur) r

/-- A packet as a waiting descriptor of queue `q` (R188); an entry that fails its parity reads as POISON (R189). -/
def packetJob (q : Nat) (es : List FEntry) : Option Job :=
  if es.length == 8 && !(es.any FEntry.gap) && (es.getLast?.map FEntry.isEnd) == some true then
    some (.fresh q (es.map fun e => ⟨e.data, if e.bad then .poison else e.tag⟩))
  else none

/-- The whole descriptors that wait in queue `q`, wherever they stand in its Flume. -/
def Dev.waitingJobs (d : Dev) (q : Nat) : List Job :=
  if d.on (CHISEL.QCFG_EN q) then (packetsOf [] (d.flume (d.rd (CHISEL.QCFG_JOB_FLUME q))).entries).filterMap (packetJob q) else []

/-- Whether a waiting descriptor is held (R168, R169). -/
def Dev.jobHeld (d : Dev) (j : Job) : Bool :=
  if d.lockSharing then
    (j.usesState && d.chisel.jobs.any Job.usesState) || (j.ccm && d.chisel.jobs.any fun r => r.ccm && r.w 1 == j.w 1)
  else
    (j.usesRecord false && d.chisel.jobs.any fun r => r.usesRecord false && r.stateAt == j.stateAt)
      || (j.ccm && d.chisel.jobs.any fun r => r.ccm && r.w 1 == j.w 1)

/-- The first queue whose head is whole and not held (R156). -/
def Dev.nextQueue (d : Dev) : Option Nat :=
  (List.range 4).find? fun q =>
    d.on (CHISEL.QCFG_EN q) && (match d.headJob q with
      | some j => !d.jobHeld j
      | none => false)

/-- Whether any job waits or runs (R163). -/
def Dev.anyJob (d : Dev) : Bool :=
  !d.chisel.jobs.isEmpty || (List.range 4).any fun q => !(d.waitingJobs q).isEmpty

/-- A write of CHISEL.CFG (R163). -/
def Dev.chiselCfgWrite (d : Dev) (v : Word) : Dev :=
  if v.getLsbD 0 != d.lockSharing && d.anyJob then d.setF CHISEL.EVENTS_CFGBUSY else d.wrB CHISEL.CFG_SHARING (v.getLsbD 0)

/-! ### Results (R161) -/

/-- EXH of a result (R161, R173): a CCM-LINK job whose word 3 is 0xFFFF_FFFF, or that received that counter (log entry 111). -/
def Job.exh (j : Job) (counter : Nat) : Bool := j.ccm && (counter == 0xFFFFFFFF || (j.dir && j.aux == 0xFFFFFFFF))

/-- Writes a result, or drops it whole (R156, R161), and counts the job. -/
def Dev.jobResult (d : Dev) (j : Job) (status outLen counter bitmap : Nat) : Dev :=
  let exh := j.exh counter
  let fl := d.rd (CHISEL.QCFG_RES_FLUME j.queue)
  let w1 := status * 2 ^ 27 + j.mode * 2 ^ 23 + j.dir.toNat * 2 ^ 22 + j.core * 2 ^ 18 + j.queue * 2 ^ 16 + exh.toNat * 2 ^ 15
  let lost := d.flumeDrops fl 5
  let d := d.flumeWrite fl (group [j.words.getD 7 ⟨0#32, .raw⟩, ⟨Word.ofNat w1, .raw⟩, ⟨Word.ofNat outLen, .nat⟩,
    ⟨Word.ofNat counter, .nat⟩, ⟨Word.ofNat bitmap, .raw⟩])
  let d := if lost then d.setF CHISEL.EVENTS_RESDROP else d
  let d := if status == 0 then d.inc CHISEL.JOBS_COUNT else d.inc CHISEL.FAILS_COUNT
  let d := if status == 1 then d.setF CHISEL.EVENTS_MICFAIL else d
  let d := if status == 2 || status == 3 then d.setF CHISEL.EVENTS_REPLAY else d
  let d := if exh then d.setF CHISEL.EVENTS_EXH else d
  if status == 0xE || status == 0xF then d.setF CHISEL.EVENTS_FAULT else d

/-! ### Chaining-state records (R164 to R166) -/

/-- Reads 64 octets of a record with the address of the lowest bad word. -/
def Dev.readOctets (d : Dev) (a n : Nat) : List Nat × Option Nat × Dev :=
  let (ws, d) := d.sramReads a ((n + 3) / 4)
  let bad := ((List.range ws.length).find? fun i => (ws.getD i ⟨0#32, .raw⟩).tag.bad).map fun i => a + 4 * i
  ((ws.flatMap fun w => (octetsOf w.data).map BitVec.toNat).take n, bad, d)

/-- A word of an octet string, octet `i` in bits 7:0. -/
def leWord (b : List Nat) (i : Nat) : Nat := octet b i + octet b (i + 1) * 2 ^ 8 + octet b (i + 2) * 2 ^ 16 + octet b (i + 3) * 2 ^ 24

/-- The octets of a word, the low octet first. -/
def leOctets (n w : Nat) : List Nat := (List.range n).map fun i => w / 2 ^ (8 * i) % 256

/-- HDR of a record (R164). -/
def hdrWord (format : Nat) (c : ChainState) : Nat := format * 2 ^ 28 + c.mode * 2 ^ 24 + c.dir.toNat * 2 ^ 23 + c.key

/-- The nonce of a wrapped record (R166). -/
def wrapNonce (rec_ : List Nat) : List Nat := (rec_.drop 8).take 8 ++ rec_.take 4 ++ [0]

/-- Restores a record for a job (R165, R166): the chaining state, or BADSTATE. -/
def Dev.restoreRecord (d : Dev) (j : Job) (rec_ : List Nat) : Option ChainState :=
  let hdr := leWord rec_ 0
  let format := hdr / 2 ^ 28
  let ok := format == (if j.wrap then 2 else 1) && hdr / 2 ^ 24 % 16 == j.mode && (hdr / 2 ^ 23 % 2 == 1) == j.dir
    && hdr % 1024 == j.w 1 % 1024
  if !ok then none
  else
    let body := (rec_.drop 16).take 32
    let state (p : List Nat) : ChainState :=
      ⟨j.mode, j.dir, j.w 1 % 1024, leWord rec_ 4, p.take 16, if j.mode == 5 then p.drop 16 else zeroBlock⟩
    if j.wrap then
      match ccmOpen d.wrapKey (wrapNonce rec_) (rec_.take 16) body ((rec_.drop 56).take 8) with
      | (p, true) => some (state p)
      | (_, false) => none
    else some (state body)

/-- Writes 16 record words tagged RAW (R159). -/
def Dev.writeRecord (d : Dev) (a : Nat) (rec_ : List Nat) : Dev :=
  d.sramWrites a ((List.range 16).map fun i => ⟨Word.ofNat (leWord rec_ (4 * i)), .raw⟩)

/-- Saves a chaining state (R165 to R167): CLEAR, or WRAPPED under the next SEQ. -/
def Dev.saveRecord (d : Dev) (a : Nat) (wrap : Bool) (c : ChainState) : Dev :=
  let body := c.chain ++ c.mac
  if wrap then
    let seq := d.chisel.wseq
    let d := { d with chisel := { d.chisel with wseq := (seq + 1) % 2 ^ 64 } }
    let head := leOctets 4 (hdrWord 2 c) ++ leOctets 4 c.count ++ leOctets 8 seq
    let (x, tag) := ccmSeal d.wrapKey (wrapNonce head) head body 8
    d.writeRecord a (head ++ x ++ List.replicate 8 0 ++ tag)
  else
    d.writeRecord a (leOctets 4 (hdrWord 1 c) ++ leOctets 4 c.count ++ List.replicate 8 0 ++ body ++ List.replicate 16 0)

/-! ### The checks at dispatch (R160, R172, R173) -/

/-- The replay test of R172: a status, or the new window. -/
def replayTest (c h b : Nat) : Except Nat (Nat × Nat) :=
  if c == 0 then .error 4
  else if h < c then
    let k := c - h
    if k ≤ 32 then .ok (c, (b * 2 ^ k + 2 ^ (k - 1)) % 2 ^ 32) else .ok (c, 0)
  else if c == h then .error 2
  else
    let i := h - 1 - c
    if i < 32 then (if b.testBit i then .error 2 else .ok (h, b + 2 ^ i)) else .error 3

/-- The transmit counter rules of R173. -/
def transmitTest (c fc : Nat) : Except Nat (Nat × Nat) :=
  if c == 0 then .error 4 else if c < fc then .error 6 else if c == 0xFFFFFFFF then .error 5 else .ok (c + 1, 0)

/-- The chaining state a FIRST job starts from, its IV read as the sharing model says (R165, R169). -/
def Job.firstChain (j : Job) (iv : List Nat) : ChainState :=
  ⟨j.mode, j.dir, j.w 1 % 1024, 0, if j.mode == 5 then zeroBlock else iv, zeroBlock⟩

/-- A FIRST job, or one that no sharing touches, starts from its IV: the 16 octets at `a`, which CBC-MAC and ECB do without. -/
def Dev.firstState (d : Dev) (j : Job) (a : Nat) : Except Nat ChainState × Option Nat × Dev :=
  if !j.chained || j.mode == 5 then (.ok (j.firstChain zeroBlock), none, d)
  else
    let (iv, bad, d) := d.readOctets a 16
    (.ok (j.firstChain iv), bad, d)

/-- NOWRAPKEY (R160): WRAP = 1 and the wrap key is all zeros or all ones; LOCK sharing ignores WRAP (R169). -/
def Dev.noWrapKey (d : Dev) (j : Job) : Bool :=
  !d.lockSharing && j.wrap && (d.wrapKey.all (· == 0) || d.wrapKey.all (· == 255))

/-- The chaining state of a job, the lowest bad word read, and the status of checks 4 and 5 (R160). -/
def Dev.jobState (d : Dev) (j : Job) : Except Nat ChainState × Option Nat × Dev :=
  if d.lockSharing then
    let held := match d.chisel.lease with
      | some (t, _) => t == j.aux % 65536
      | none => false
    if j.usesState && !held then (.error 0xC, none, d)
    else if j.first || !j.chained then d.firstState j j.stateAt
    else match d.chisel.inner with
      | some c => if c.mode == j.mode && c.dir == j.dir && c.key == j.w 1 % 1024 then (.ok c, none, d) else (.error 0xB, none, d)
      | none => (.error 0xB, none, d)
  else
    let (st, bad, d) :=
      if j.first || !j.chained then d.firstState j (j.stateAt + 16)
      else
        let (r, bad, d) := d.readOctets j.stateAt 64
        (match d.restoreRecord j r with
          | some c => .ok c
          | none => .error 0xB, bad, d)
    match st with
    | .error e => (.error e, none, d)
    | .ok c => if d.noWrapKey j then (.error 0x10, none, d) else (.ok c, bad, d)

/-- The context words of a CCM-LINK job (R171): KEYIDX, SECLVL, the address octets, TX_FC, H and B, and the lowest bad word. -/
def Dev.ccmContext (d : Dev) (j : Job) : Nat × Nat × List Nat × Nat × Nat × Nat × Option Nat × Dev :=
  let s := j.w 1 % 8192
  let (a, bad1, d) := d.readOctets (ctxAddr s 0x04) 8
  let (b, bad2, d) := d.readOctets (ctxAddr s 0x30) 16
  let w := leWord b 12
  (w % 1024, w / 65536 % 256, a, leWord b 0, leWord b 4, leWord b 8, bad1.or bad2, d)

/-- Starts a job on a core (R156, R160): the descriptor's checks 1 to 6 in order, with the key, the context and the chaining state read
now. -/
def Dev.startJob (d : Dev) (j : Job) : Job × Dev :=
  let (keyIdx, level, addr, txFc, h, b, bad1, d) :=
    if j.ccm then d.ccmContext j else (j.w 1 % 1024, 0, [], 0, 0, 0, none, d)
  let j := { j with level := level, win := (h, b), nonce := addr ++ [j.aux / 2 ^ 24 % 256, j.aux / 2 ^ 16 % 256, j.aux / 256 % 256,
    j.aux % 256, level] }
  let key := d.keyEntry keyIdx
  let fail (st : Nat) : Job := { j with status := some st }
  if j.badDesc d.lockSharing then (fail 7, d)
  else if !key.valid then (fail 9, d)
  else if j.ccm && micLen level == 0 then (fail 0xA, d)
  else if j.badLen then (fail 8, d)
  else
    match d.jobState j with
    | (.error e, _, d) => (fail e, d)
    | (.ok c, bad2, d) =>
      let j := { j with key := key.octets, chain := c, badAt := bad1.or bad2 }
      if !j.ccm then (j, d)
      else match (if j.dir then replayTest j.aux h b else transmitTest j.aux txFc) with
        | .error e => ({ j with status := some e }, d)
        | .ok w => ({ j with newWin := w }, d)

/-! ### Running a job (R158, R160, R171) -/

/-- The words of `n` octets at a destination, tagged BYTES, zero octets past the end (R159). -/
def Dev.writeOut (d : Dev) (a : Nat) (o : List Nat) : Dev := d.sramWrites a (bytesWords (o.map fun x => BitVec.ofNat 8 x))

/-- Free values over an output range that R160 leaves undefined. -/
def Dev.writeFree (d : Dev) (a : Nat) : Nat → Dev
  | 0 => d
  | n + 1 =>
    let (w, d) := d.drawWord
    (d.sramWrite a ⟨w, .bytes⟩).writeFree (a + 4) n

/-- The end of a chained job's state: saved to its record or kept inside, or left empty by a LAST job (R165, R169); a job whose lease has
ended leaves the internal state zeroed (R170). -/
def Dev.saveChain (d : Dev) (j : Job) (c : ChainState) : Dev :=
  if !j.usesState then d
  else if d.lockSharing then
    if j.orphan then d else { d with chisel := { d.chisel with inner := if j.last then none else some c } }
  else if j.last then d.writeRecord j.stateAt (List.replicate 64 0)
  else d.saveRecord j.stateAt j.wrap c

/-- A job of mode 0 to 5 on its source octets. -/
def Dev.runChained (d : Dev) (j : Job) (src : List Nat) : Dev :=
  let blocks := blocksOf (src.length / 16 + 1) src
  let count := (j.chain.count + j.len) % 2 ^ 32
  if j.mode == 5 then
    let m := cbcMac j.key blocks j.chain.mac
    let d := if j.last then d.writeOut j.dst (m.take j.macLen) else d
    (d.saveChain j { j.chain with count := count, mac := m }).jobResult j 0 j.outLen 0 0
  else
    let (o, c) := aesRun j.mode j.dir j.key blocks j.chain.chain
    ((d.writeOut j.dst o).saveChain j { j.chain with count := count, chain := c }).jobResult j 0 j.len 0 0

/-- A CCM-LINK job on its source octets (R171). -/
def Dev.runCcm (d : Dev) (j : Job) (src : List Nat) : Dev :=
  let m := micLen j.level
  let seals := 5 ≤ j.level
  if j.dir then
    let text := src.take (j.len - m)
    let tag := src.drop (j.len - m)
    let aad := if seals then text.take j.aadLen else text
    let (p, ok) := ccmOpen j.key j.nonce aad (if seals then text.drop j.aadLen else []) tag
    let hdr := text.take j.aadLen
    let body := if seals then p else text.drop j.aadLen
    if ok then (d.writeOut j.dst (hdr ++ body)).jobResult j 0 j.outLen j.newWin.1 j.newWin.2
    else (d.writeOut j.dst (hdr ++ body.map fun _ => 0)).jobResult j 1 j.outLen j.win.1 j.win.2
  else
    let aad := if seals then src.take j.aadLen else src
    let (x, tag) := ccmSeal j.key j.nonce aad (if seals then src.drop j.aadLen else []) m
    let out := (if seals then src.take j.aadLen ++ x else src) ++ tag
    (d.writeOut j.dst out).jobResult j 0 j.outLen j.newWin.1 0

/-- Words 3 and 4 of a result that did not end OK: a CCM-LINK receive returns the window as read (R161). -/
def Job.window (j : Job) : Nat × Nat := if j.ccm && j.dir then j.win else (0, 0)

/-- The result of a job that had begun and left its output range undefined (R160): free octets there, and OUT_LEN free up to the range's
length (R161, log entry 111). -/
def Dev.brokenResult (d : Dev) (j : Job) (status : Nat) : Dev :=
  let (n, d) := (d.writeFree j.dst ((j.outLen + 3) / 4)).drawQuality (j.outLen + 1)
  d.jobResult j status n j.window.1 j.window.2

/-- Removes a running job. -/
def Dev.dropJob (d : Dev) (c : Nat) : Dev := { d with chisel := { d.chisel with jobs := d.chisel.jobs.filter fun j => j.core != c } }

/-- A job ends with its status (R160). -/
def Dev.finishJob (d : Dev) (j : Job) : Dev :=
  let d := d.dropJob j.core
  match j.status with
  | some st => d.jobResult j st 0 j.window.1 j.window.2
  | none =>
    let (src, bad, d) := d.readOctets j.src j.len
    match j.badAt.or bad with
    | some a =>
      (d.fault (mkUnitFault 0x05 4 j.core a (if j.ccm then j.w 1 else 0))).brokenResult j 0xE
    | none => if j.ccm then d.runCcm j src else d.runChained j src

/-- A job cut by its core's failure or a unit reset (R160, R174): its output range is undefined. -/
def Dev.cutJob (d : Dev) (j : Job) (status : Nat) : Dev :=
  let d := d.dropJob j.core
  if j.status.isNone then d.brokenResult j status else d.jobResult j status 0 j.window.1 j.window.2

/-! ### Waiting jobs that end in their queue (R170, R174) -/

/-- A waiting job ends with a status (R161, R170, R174).  No window was read for a CCM-LINK receive that was never dispatched: words 3 and 4
are free (log entry 111). -/
def Dev.waitingResult (d : Dev) (status : Nat) (j : Job) : Dev :=
  if j.ccm && j.dir then
    let (h, d) := d.drawWord
    let (b, d) := d.drawWord
    d.jobResult j status 0 h.toNat b.toNat
  else d.jobResult j status 0 0 0

/-- The waiting descriptors of queue `q` that satisfy `p` leave its Flume and end with a status; an entry among them that fails its parity is
recorded as at any read (R189). -/
def Dev.endWaiting (d : Dev) (q status : Nat) (p : Job → Bool) : Dev :=
  if !d.on (CHISEL.QCFG_EN q) then d
  else
    let n := d.rd (CHISEL.QCFG_JOB_FLUME q)
    let d := d.settleFlume n
    let f := d.flume n
    let pk := packetsOf [] f.entries
    let hit (es : List FEntry) : Bool := match packetJob q es with
      | some j => p j
      | none => false
    let gone := (pk.filter hit).flatten
    let rest := (pk.filter fun es => !hit es).flatten
    let bad := (List.range f.entries.length).zip (pk.flatMap fun es => es.map fun e => hit es && e.bad)
    let old := d
    let d := bad.foldl (fun d (i, b) => if b then d.parityFault n (old.entryIndex n i) unitAgent else d) d
    let d := d.setFlume n { f with
      entries := rest, pkts := rest.countP FEntry.isEnd, openGap := f.openGap && !rest.isEmpty,
      headPos := f.headPos + (pk.takeWhile hit).flatten.length,
      suspect := !rest.isEmpty && (f.suspect || gone.any FEntry.badHigh) }
    ((pk.filter hit).filterMap (packetJob q)).foldl (fun d j => d.waitingResult status j) d

/-- The lease ends (R170): the holder's waiting chained jobs end EXPIRED and the internal state is zeroed; a job that runs on it
completes and leaves it so. -/
def Dev.endLease (d : Dev) : Dev :=
  match d.chisel.lease with
  | none => d
  | some (t, _) =>
    let d := { d with chisel := { d.chisel with lease := none, inner := none,
                                                jobs := d.chisel.jobs.map fun j => { j with orphan := j.orphan || j.usesState } } }
    if d.lockSharing then
      (List.range 4).foldl (fun d q => d.endWaiting q 0xD fun j => j.usesState && j.aux % 65536 == t) d
    else d

/-- LEASE in ticks as it acts. -/
def Dev.leaseTicks (d : Dev) : Nat := max 16 (d.rd CHISEL.LEASE_TICKS)

/-- A write of CHISEL.LOCK (R170). -/
def Dev.lockWrite (d : Dev) (token op : Nat) : Dev :=
  let holder := match d.chisel.lease with
    | some (t, _) => t == token
    | none => false
  let take (d : Dev) : Dev := { d with chisel := { d.chisel with lease := some (token, (d.tick + d.leaseTicks) % 2 ^ 32) } }
  match op with
  | 1 => if d.chisel.lease.isNone then take d else d
  | 2 => if holder then take d else d
  | 3 => if holder then d.endLease else d
  | 4 => d.endLease
  | _ => d

/-- Whether the lease's expiry tick has come. -/
def Dev.leaseOver (d : Dev) : Bool :=
  match d.chisel.lease with
  | some (_, e) => (d.tick32 + 2 ^ 32 - e) % 2 ^ 32 < 2 ^ 31
  | none => false

/-- A unit reset of Chisel ends every waiting and running job ABORTED (R174). -/
def Dev.abortJobs (d : Dev) : Dev :=
  let d := d.chisel.jobs.foldl (fun d j => d.cutJob j 0x11) d
  (List.range 4).foldl (fun d q => d.endWaiting q 0x11 fun _ => true) d

/-! ### The commands of Chisel -/

/-- Lone gap markers and cut packets leave the head of Flume `n` until a whole descriptor or no packet stands there (R188). -/
def Dev.clearHead (d : Dev) (n : Nat) : Nat → Dev
  | 0 => d
  | k + 1 =>
    let d := d.settleFlume n
    if d.flumeOn n && 1 ≤ (d.flume n).pkts && !d.wholeHead n 8 then ((d.readDescriptor n 8).2).clearHead n k else d

/-- The scheduler looks at the head of every enabled queue (R156, R188). -/
def Dev.lookAtHeads (d : Dev) : Dev :=
  (List.range 4).foldl (fun d q =>
    let n := d.rd (CHISEL.QCFG_JOB_FLUME q)
    if d.on (CHISEL.QCFG_EN q) then d.clearHead n ((d.flume n).entries.length + 1) else d) d

/-- Core `c` takes the head of queue `q`. -/
def Dev.dispatchHead (d : Dev) (c q : Nat) : Dev :=
  match d.readDescriptor (d.rd (CHISEL.QCFG_JOB_FLUME q)) 8 with
  | (none, d) => d
  | (some rs, d) =>
    let (j, d) := d.startJob { Job.fresh q (rs.map fun r => ⟨r.data, r.tag⟩) with core := c }
    { d with chisel := { d.chisel with jobs := d.chisel.jobs ++ [j] } }

/-- JOB_DISPATCH: core `c` takes the first head that is whole and not held (R156). -/
def execJobDispatch (c : Fin 9) (s : State) : Host.Outcome State Fault Refusal :=
  onDev s fun d =>
    if !d.coreServes c.val || d.coreBusy c.val then d
    else
      let d := d.lookAtHeads
      match d.nextQueue with
      | none => d
      | some q => d.dispatchHead c.val q

/-- JOB_COMPLETE: the job of core `c` ends (R160, R161). -/
def execJobComplete (c : Fin 9) (s : State) : Host.Outcome State Fault Refusal :=
  onDev s fun d =>
    match (d.chisel.jobs.filter fun j => j.core == c.val).head? with
    | some j => d.finishJob j
    | none => d

/-- KEY_WRITE. -/
def execKeyWrite (size : BitVec 2) (s : State) : Host.Outcome State Fault Refusal := onBus s 11 fun d => d.keyWrite size.toNat

/-- KEY_READ. -/
def execKeyRead (s : State) : Host.Outcome State Fault Refusal := onBus s 11 fun d => d.keyRead

/-- ACQUIRE. -/
def execAcquire (token : BitVec 16) (s : State) : Host.Outcome State Fault Refusal := onBus s 11 fun d => d.lockWrite token.toNat 1

/-- RENEW. -/
def execRenew (token : BitVec 16) (s : State) : Host.Outcome State Fault Refusal := onBus s 11 fun d => d.lockWrite token.toNat 2

/-- RELEASE. -/
def execRelease (token : BitVec 16) (s : State) : Host.Outcome State Fault Refusal := onBus s 11 fun d => d.lockWrite token.toNat 3

/-- BREAK. -/
def execLockBreak (token : BitVec 16) (s : State) : Host.Outcome State Fault Refusal := onBus s 11 fun d => d.lockWrite token.toNat 4

/-- LEASE_EXPIRY (R170): the lease's expiry tick has come. -/
def execLeaseExpiry (s : State) : Host.Outcome State Fault Refusal :=
  onDev s fun d =>
    if d.leaseOver then ((d.endLease).inc CHISEL.LOCK_EXPIRIES_COUNT).setF CHISEL.EVENTS_LEASE_EXP else d

/-- A read of WSEQ_LO captures WSEQ[63:32] (R167). -/
def Dev.wseqRead (d : Dev) : Dev := d.wr CHISEL.WSEQ_HI_SEQ (d.chisel.wseq / 2 ^ 32)

/-- WSEQ_LO_READ. -/
def execWseqLoRead (s : State) : Host.Outcome State Fault Refusal := onBus s 11 fun d => d.wseqRead.answer (Word.ofNat d.chisel.wseq)

end Sys2Proof.Machine
end

