-- ==== Sys2Proof/Machine/Signal.lean ====
section
/-! DEFINITION. What a receiver measures from samples: the correlation of R44, and the RSSI, FOFFSET, LQI and EVM of R65. -/

namespace Sys2Proof.Machine

/-- The greatest number below `2 ^ k`, added to `acc`, that satisfies `p`, for a `p` that holds up to some number and not beyond. -/
def greatest (p : Nat → Bool) : Nat → Nat → Nat
  | 0, acc => acc
  | k + 1, acc => greatest p k (if p (acc + 2 ^ k) then acc + 2 ^ k else acc)

/-- The sum of products of a pattern with samples. -/
def dotProduct (p z : List Int) : Int := (List.zipWith (fun a b => a * b) p z).sum

/-- The sum of squares. -/
def energy (z : List Int) : Nat := (z.map fun a => a.natAbs * a.natAbs).sum

/-- Whether the normalised correlation of samples `z` with pattern `p` is at least `num / den` (R44); it has no value where every sample
is 0, and is then not at least anything. -/
def correlates (p z : List Int) (num den : Nat) : Bool :=
  0 < energy z && num * num * (energy p * energy z) ≤ den * den * ((dotProduct p z).natAbs * (dotProduct p z).natAbs)

/-- The preamble pattern of every receivable mode over `m` symbols (R140; log entry 103): alternating outer symbols. -/
def preamblePattern (m : Nat) : List Int := (List.range m).map fun i => if i % 2 == 0 then 1 else -1

/-- A mean power `m` in units of 10 ^ -20 mW as dBm in 0.25 dB, rounded to the nearest: 40 × log10 m, less 800 (R65). -/
def quarterDbm (m : Nat) : Int := (greatest (fun q => 10 ^ (2 * q) ≤ 10 * m ^ 80) 11 0 : Int) - 800

/-- RSSI of port `p` in 0.25 dB (R65): the mean of |x|² of the gain-scaled samples, plus GAINCAL, less the gain at the index in force, 6 dB an
index; x is scaled so that the gain at index 0 is 0 dB (log entry 103). -/
def Dev.rssiOf (d : Dev) (p m : Nat) : Int := quarterDbm m + d.rdS (BASIN.GAINCAL_GAINCAL p) - 24 * (d.rd (BASIN.AGC_INDEX p) : Int)

/-- A sum of `n` values as their mean, rounded to the nearest; 0 for none. -/
def meanOf (s : Int) (n : Nat) : Int := if n == 0 then 0 else (2 * s + n).fdiv (2 * n)

/-- LQI (R65): floor of 255 times the correlation of the sync-word samples with the sync pattern. -/
def lqiOf (p z : List Int) : Nat := if energy z == 0 then 0 else greatest (fun k => correlates p z k 255) 8 0

/-- The ideal symbol nearest to a deviation `y` in Hz, in thirds of the outer deviation `f` (R65, R139). -/
def idealSymbol (four : Bool) (f : Nat) (y : Int) : Int :=
  if four then (if 2 * f ≤ 3 * y then 3 else if 0 ≤ y then 1 else if -(2 * f : Int) ≤ 3 * y then -1 else -3) else if 0 ≤ y then 3 else -3

/-- What samples add to the two sums of R65's EVM, in 1/9 Hz²: Σ e(k)² and Σ (d(k) × f_dev)², for the offset `foff`. -/
def evmSums (four : Bool) (f : Nat) (foff : Int) (z : List Int) : Nat × Nat :=
  z.foldl (fun (e, r) a =>
    let s := idealSymbol four f (a - foff) * f
    (e + (3 * (a - foff) - s).natAbs * (3 * (a - foff) - s).natAbs, r + s.natAbs * s.natAbs)) (0, 0)

/-- EVM in 0.1 % from the two sums, rounded to the nearest and saturating at 4,095 (R63, R65; log entry 103). -/
def evmOf (e r : Nat) : Nat := if r == 0 then 0 else greatest (fun k => k == 0 || (2 * k - 1) * (2 * k - 1) * r ≤ 4000000 * e) 12 0

end Sys2Proof.Machine
end

