-- ==== Sys2Proof/Machine/SpoutOps.lean ====
section
/-! DEFINITION. What other units need of Spout: the commands its transports hold, and the release of a transport (R369, R374). -/

namespace Sys2Proof.Machine

/-- The command a transport holds, if any. -/
def Dev.heldCmd (d : Dev) (src : Nat) : Option HeldCmd := (d.spout.held.filter fun h => h.src == src).head?

/-- Replaces Spout's held commands. -/
def Dev.setHeldCmds (d : Dev) (hs : List HeldCmd) : Dev := { d with spout := { d.spout with held := hs } }

/-- Changes the command a transport holds. -/
def Dev.modHeld (d : Dev) (src : Nat) (f : HeldCmd → HeldCmd) : Dev :=
  d.setHeldCmds (d.spout.held.map fun h => if h.src == src then f h else h)

/-- Frees a transport. -/
def Dev.freeTransport (d : Dev) (src : Nat) : Dev := d.setHeldCmds (d.spout.held.filter fun h => h.src != src)

/-- A packet or reply is dropped (R378). -/
def Dev.spoutDrop (d : Dev) : Dev := (d.inc SPOUT.DROPS_COUNT).setF SPOUT.EVENTS_DROP

/-- A whole packet arrives on a transport (R363, R369): held if the transport is free, otherwise dropped and counted. -/
def Dev.packetArrives (d : Dev) (src : Nat) (octets : List Byte) (back : Word) : Dev :=
  match d.heldCmd src with
  | some _ => d.spoutDrop
  | none => d.setHeldCmds (d.spout.held ++ [⟨src, octets, 0, [], back, 0, false⟩])

/-- A MGMT frame delivered to the engine from Aqueduct port `p` (R374): a frame that is not OK is dropped and counted; otherwise its first
two octets are the cable address to answer and the rest the packet. -/
def Dev.mgmtArrives (d : Dev) (p : Nat) (ok : Bool) (payload : List Byte) : Dev :=
  if ok then
    d.packetArrives (2 + p) (payload.drop 2) (Word.ofNat ((payload.getD 0 0#8).toNat + (payload.getD 1 0#8).toNat * 256))
  else d.spoutDrop

/-- The Aqueduct transmitter has dealt with the descriptor of ID `id` on port `p`: an engine reply with that ID counts as sent (R374). -/
def Dev.mgmtReplySent (d : Dev) (p : Nat) (id : Word) : Dev :=
  match d.heldCmd (2 + p) with
  | some h =>
    if h.phase == 3 && id.toNat == 0xFFFF0000 + (h.octets.getD 1 0#8).toNat then
      (if h.thenReset then d.modHeld (2 + p) fun h => { h with phase := 4 } else d.freeTransport (2 + p))
    else d
  | none => d

end Sys2Proof.Machine
end

