-- ==== Sys2Proof/Machine/Aqueduct.lean ====
section
/-! DEFINITION. The Aqueduct cable ports: link training, receiving, transmitting and repeating (chapter 09). -/

namespace Sys2Proof.Machine

/-! ### Line signalling (R196 to R205) -/

/-- A rate code as it acts: 10 to 15 act as 9 (R196). -/
def rateOf (c : Nat) : Nat := min 9 c

/-- Bits per symbol of a rate (R196). -/
def rateBits (r : Nat) : Nat := if r % 2 == 0 then 2 else 3

/-- The training pass SNR of a rate, in 0.25 dB (R196). -/
def passSnr (r : Nat) : Nat := if r % 2 == 0 then 84 else 110

/-- The level of a group of bits, first bit most significant (R197). -/
def lineLevel : List Bool → Int
  | [false, false] => -3 | [false, true] => -1 | [true, true] => 1 | [true, false] => 3
  | [false, false, false] => -7 | [false, false, true] => -5 | [false, true, true] => -3 | [false, true, false] => -1
  | [true, true, false] => 1 | [true, true, true] => 3 | [true, false, true] => 5 | [true, false, false] => 7
  | _ => 0

/-- The additive scrambler of R205 with the generator x¹⁵ + x¹⁴ + 1: `n` output bits from state `st`, the newest bit lowest. -/
def scrambler : Nat → Nat → List Bool
  | 0, _ => []
  | n + 1, st =>
    let b := st.testBit 14 != st.testBit 13
    b :: scrambler n (st * 2 % 2 ^ 15 + b.toNat)

/-- The bits of octets, octet 0 first and bit 0 first (R203). -/
def octetBits (l : List Byte) : List Bool := l.flatMap fun b => bitsLow 8 b.toNat

/-- Bits in groups of `k`, the last padded with zero data bits (R203). -/
def groupsOf (k : Nat) : Nat → List Bool → List (List Bool)
  | 0, _ => []
  | _, [] => []
  | fuel + 1, l => ((l.take k) ++ List.replicate (k - l.length) false) :: groupsOf k fuel (l.drop k)

/-- CRC-8 over octets in order, computed as R152 computes the wake-call CRC. -/
def crc8Octets (l : List Byte) : Nat := (l.flatMap fun b => bitsHigh 8 b.toNat).foldl crc8Bit 0

/-- The octets of a header. -/
def hdrOctets (h : BitVec 48) : List Byte := (List.range 6).map fun i => h.extractLsb' (8 * i) 8

/-- DEST, LEN, TYPE and HOPS of a header (R204). -/
def hdrDest (h : BitVec 48) : Nat := (h.extractLsb' 0 16).toNat
/-- LEN of a header (R204). -/
def hdrLen (h : BitVec 48) : Nat := (h.extractLsb' 16 12).toNat
/-- TYPE of a header (R204). -/
def hdrType (h : BitVec 48) : Nat := (h.extractLsb' 28 2).toNat
/-- HOPS of a header (R204). -/
def hdrHops (h : BitVec 48) : Nat := (h.extractLsb' 32 4).toNat

/-- A header with its HCS computed over octets 0 to 4 (R204). -/
def withHcs (h : BitVec 48) : BitVec 48 :=
  let low := h.toNat % 2 ^ 40
  BitVec.ofNat 48 (low + crc8Octets ((hdrOctets (BitVec.ofNat 48 low)).take 5) * 2 ^ 40)

/-- Whether a received header is good: its HCS matches and LEN is 16 to 2,048 (R206). -/
def hdrGood (h : BitVec 48) : Bool :=
  h == withHcs h && 16 ≤ hdrLen h && hdrLen h ≤ 2048

/-- The header of a descriptor's frame. -/
def mkHdr (dest len typ hops : Nat) : BitVec 48 :=
  withHcs (BitVec.ofNat 48 (dest + len * 2 ^ 16 + typ * 2 ^ 28 + hops * 2 ^ 32))

/-- The repeated header: HOPS − 1 with a new HCS, every other bit unchanged (R213). -/
def repeatHdr (h : BitVec 48) : BitVec 48 := withHcs (h - BitVec.ofNat 48 (2 ^ 32))

/-- Symbols a second at a rate (R196). -/
def symbolsPerSecond (r : Nat) : Nat :=
  if r < 2 then 250000 else if r < 4 then 500000 else if r < 6 then 1250000 else if r < 8 then 2500000 else 5000000

/-- The outer level at a rate (R197). -/
def outerLevel (r : Nat) : Int := if rateBits r == 2 then 3 else 7

/-- The length of `n` symbols at a rate in 1/1,024 tick, rounded down. -/
def symbolsTime (r n : Nat) : Nat := n * 2 ^ 25 / symbolsPerSecond r

/-- Symbols of a header (R203). -/
def hdrSymbols (r : Nat) : Nat := 48 / rateBits r

/-- The earliest sync stamp of the frame after this one (R203): its own symbols after the sync, at least 8 idle symbols and a sync later, less
1/1,024 for the difference between the line's clock and TICK's (log entry 112). -/
def AqTx.nextSync (t : AqTx) (rate : Nat) : Nat :=
  let u := symbolsTime rate ((8 * (t.octets.length + 10) + rateBits rate - 1) / rateBits rate + 24)
  t.stamp + (u - (u / 1024 + 1))

/-- Idle symbols (R203): scrambled zero data from the free-running scrambler, in state `st`. -/
def idleSymbols (rate st n : Nat) : List Int :=
  (groupsOf (rateBits rate) n (scrambler (rateBits rate * n) st)).map lineLevel

/-- Symbols of two outer levels (R200, R201, R203). -/
def outerSymbols (rate : Nat) (bits : List Bool) : List Int := bits.map fun b => if b then outerLevel rate else -outerLevel rate

/-- One period of the wake tone and of the reply tone (R200). -/
def tone : List Int := outerSymbols 0 [true, true, false, false]

/-- The flag symbols a side sends (R201). -/
def flagSymbols (rate : Nat) (pass : Bool) : List Int := outerSymbols rate ((List.range 64).map fun i => decide (i % 4 < 2) == pass)

/-- The level a slicer decides for an input in 1/256 of R197's unit (R197, R210): the nearest. -/
def decideLevel (k : Nat) (y : Int) : Int :=
  let m : Int := if k == 2 then 3 else 7
  max (-m) (min m (2 * y.fdiv 512 + 1))

/-- SNR in 0.25 dB and EVM in 0.1 % of slicer inputs (R210), rounded to the nearest and saturating (log entry 112); 0 of none. -/
def lineQuality (k : Nat) (y : List Int) : Nat × Nat :=
  let e := (y.map fun v => (v - 256 * decideLevel k v).natAbs * (v - 256 * decideLevel k v).natAbs).sum
  let n := y.length * 65536
  let x := n * (if k == 2 then 5 else 21)
  let a := n * (if k == 2 then 9 else 49)
  if y.isEmpty then (0, 0)
  else (greatest (fun q => q == 0 || 10 ^ (2 * q - 1) * e ^ 80 ≤ x ^ 80) 10 0,
        greatest (fun q => q == 0 || (2 * q - 1) * (2 * q - 1) * a ≤ 4000000 * e) 12 0)

/-- The symbols of a frame at a rate (R197, R203, R205): the sync on the outer levels, then the scrambled header, payload, CRC and pad. -/
def AqTx.symbols (t : AqTx) (rate : Nat) : List Int :=
  let k := rateBits rate
  let data := octetBits (hdrOctets t.hdr ++ t.octets ++ (List.range 4).map fun i => t.crc.extractLsb' (8 * i) 8)
  let padded := data ++ List.replicate ((k - data.length % k) % k) false
  let bits := List.zipWith (fun a b => a != b) padded (scrambler padded.length 0x7FFF)
  outerSymbols rate (bitsHigh 16 0xF350) ++ (groupsOf k bits.length bits).map lineLevel

/-- A 64-bit EXCHANGE word as a side sends it (R201). -/
def exchangeWord (rateMax addr : Nat) : BitVec 64 :=
  let low := 0xC5A3 + rateOf rateMax * 2 ^ 16 + 2 ^ 20 + addr * 2 ^ 24
  let crc := crc8Octets ((List.range 6).map fun i => BitVec.ofNat 8 (low / 2 ^ (8 * i)))
  BitVec.ofNat 64 (low + crc * 2 ^ 48)

/-- The symbols of EXCHANGE (R201): the word twice, bit 0 first, on the outer levels. -/
def exchangeSymbols (w : BitVec 64) : List Int := outerSymbols 0 (bitsLow 64 w.toNat ++ bitsLow 64 w.toNat)

/-- RATE_MAX and ADDR of a received EXCHANGE word whose MARK, VER, CRC and reserved bits are right (R201). -/
def readExchange (w : BitVec 64) : Option (Nat × Nat) :=
  let rate := (w.extractLsb' 16 4).toNat
  let addr := (w.extractLsb' 24 16).toNat
  let crc := crc8Octets ((List.range 6).map fun i => w.extractLsb' (8 * i) 8)
  if (w.extractLsb' 0 16).toNat == 0xC5A3 && (w.extractLsb' 20 4).toNat == 1 && (w.extractLsb' 40 8).toNat == 0
    && (w.extractLsb' 56 8).toNat == 0 && (w.extractLsb' 48 8).toNat == crc
  then some (rateOf rate, addr) else none

/-- Whether the 64 received flag symbols (1 positive, bit 0 first) mean pass: at least 56 agree with +, +, −, − (R201). -/
def flagPass (f : BitVec 64) : Bool := 56 ≤ (List.range 64).countP fun i => f.getLsbD i == decide (i % 4 < 2)

/-! ### Ports -/

/-- Port `p` beside its registers. -/
def Dev.aq (d : Dev) (p : Nat) : AqPort := Store.get AqPort.idle d.aqua p

/-- Replaces port `p`'s internal state. -/
def Dev.setAq (d : Dev) (p : Nat) (v : AqPort) : Dev := { d with aqua := Store.put AqPort.idle d.aqua p v }

/-- Changes port `p`'s internal state. -/
def Dev.modAq (d : Dev) (p : Nat) (f : AqPort → AqPort) : Dev := d.setAq p (f (d.aq p))

/-- AQUA.LINK[p].STATE (R199): 0 OFF, 1 QUIET, 2 WAKE, 3 TRAIN, 4 UP, 5 FENCED. -/
def Dev.link (d : Dev) (p : Nat) : Nat := d.rd (AQUA.LINK_STATE p)

/-- Whether port `p` is UP. -/
def Dev.aqUp (d : Dev) (p : Nat) : Bool := d.link p == 4

/-- Whether the Weir is SILENT. -/
def Dev.silent (d : Dev) : Bool := d.on WEIR.STATUS_SILENT

/-- AMP as requested, above 200 acting as 200. -/
def Dev.ampAsked (d : Dev) (p : Nat) : Nat := min 200 (d.rd (AQUA.AMP_AMP p))

/-- AMP_EFF (R216): 0 while the Weir is SILENT. -/
def Dev.ampEff (d : Dev) (p : Nat) : Nat := if d.silent then 0 else min (d.ampAsked p) (d.rd WEIR.CABLE_CABLE_MAX)

/-- CLAMPED (R216): AMP exceeds CABLE_MAX. -/
def Dev.ampClamped (d : Dev) (p : Nat) : Bool := decide (d.rd WEIR.CABLE_CABLE_MAX < d.ampAsked p)

/-- A write of AQUA.AMP[p] (R216). -/
def Dev.ampWrite (d : Dev) (p : Nat) (v : Word) : Dev :=
  let d := d.wr (AQUA.AMP_AMP p) (bitsOf v 0 8)
  if d.ampClamped p then (d.setF AQUA.EVENTS_CLAMP).setF WEIR.EVENTS_CABLE_CLAMP else d

/-- The clamp check after CABLE_MAX changes (R135): a setting above the limit is driven at the limit and reported. -/
def Dev.cableCheck (d : Dev) : Dev :=
  if d.ampClamped 0 || d.ampClamped 1 then (d.setF AQUA.EVENTS_CLAMP).setF WEIR.EVENTS_CABLE_CLAMP else d

/-- AMP_EFF as AMP[p] shows it (R216): a change applies at the next frame boundary, so a frame in progress keeps its amplitude. -/
def Dev.ampInForce (d : Dev) (p : Nat) : Nat :=
  match (d.aq p).tx with
  | some t => if d.silent then 0 else t.amp
  | none => d.ampEff p

/-- Whether Aqueduct works: in RUN and DOZE, and while the device enters DOZE or leaves it (R217). -/
def Dev.aqLive (d : Dev) : Bool := d.running || d.power == 1 || ((d.power == 5 || d.power == 6) && d.well.leaving == 1)

/-- The per-port event flags LINKUP_x and LINKDOWN_x. -/
def linkUpFld (p : Nat) : Fld := if p == 0 then AQUA.EVENTS_LINKUP_A else AQUA.EVENTS_LINKUP_B
/-- LINKDOWN_x. -/
def linkDownFld (p : Nat) : Fld := if p == 0 then AQUA.EVENTS_LINKDOWN_A else AQUA.EVENTS_LINKDOWN_B

/-- A frame is dropped from the repeat path of receiving port `p` (R213, R214). -/
def Dev.repeatDrop (d : Dev) (p : Nat) : Dev := (d.inc (AQUA.RPTDROP_COUNT p)).setF AQUA.EVENTS_RPTDROP

/-! ### Receiving (R206 to R210) -/

/-- BUF_SIZE of port `p` in octets; 0 and 65 to 127 act as 64. -/
def Dev.aqBufBytes (d : Dev) (p : Nat) : Nat :=
  let n := d.rd (AQUA.BUFCFG_BUF_SIZE p)
  (if n == 0 || 64 < n then 64 else n) * 32

/-- Port `p` takes one word from its free-buffer Flume (R207). -/
def Dev.aqBuffer (d : Dev) (p : Nat) : Option Word × Dev :=
  let fl := d.rd (AQUA.FLUMES_BUF_FLUME p)
  match d.flumeTake fl with
  | none => (none, d)
  | some (r, d) =>
    if r.tag == .poison then (none, d.fault (mkUnitFault 0x05 10 p r.data.toNat fl))
    else
      let a := r.data.toNat
      if r.tag == .dptr && a % 32 == 0 && 0x500000 ≤ a && a + d.aqBufBytes p ≤ 0x600000 then (some r.data, d) else (none, d)

/-- The receive record of R208. -/
def AqRx.record (x : AqRx) (p outcome rxLen snr evm : Nat) (clkoff : Int) : List TWord :=
  let b (v : Bool) (k : Nat) : Nat := if v then 2 ^ k else 0
  let buf := match x.buf with
    | some w => w
    | none => 0#32
  [⟨Word.ofNat (outcome * 2 ^ 28 + p * 2 ^ 27 + hdrType x.hdr * 2 ^ 25 + x.rate * 2 ^ 21 + b x.repeated 20 + b x.cut 19
      + b (hdrDest x.hdr == 0xFFFF) 18 + hdrHops x.hdr * 2 ^ 14), .raw⟩,
   ⟨Word.ofNat (x.stamp / 1024), .time⟩,
   ⟨Word.ofNat (x.stamp % 1024 * 2 ^ 22 + min snr 1023 * 2 ^ 12 + min evm 4095), .raw⟩,
   ⟨Word.ofNat (hdrDest x.hdr * 2 ^ 16 + hdrLen x.hdr), .raw⟩,
   ⟨buf, .dptr⟩,
   ⟨Word.ofNat (rxLen * 2 ^ 20 + twos 16 clkoff), .raw⟩]

/-- Writes a record, or drops it whole and returns its buffer (R208). -/
def Dev.aqRecord (d : Dev) (p : Nat) (buf : Option Word) (ws : List TWord) : Dev :=
  let fl := d.rd (AQUA.FLUMES_REC_FLUME p)
  let lost := d.flumeDrops fl 6
  let d := d.flumeWrite fl (group ws)
  if lost then
    let d := match buf with
      | some w => d.flumeWrite (d.rd (AQUA.FLUMES_BUF_FLUME p)) [⟨w, .dptr, false⟩]
      | none => d
    d.setF AQUA.EVENTS_RECDROP
  else d

/-- Ends the delivery of a frame whose payload is `octets` and whose CRC was right or not (R207, R208, R374). -/
def Dev.aqDeliver (d : Dev) (p : Nat) (x : AqRx) (octets : List Byte) (crcOk : Bool) (snr evm : Nat) (clkoff : Int) : Dev :=
  if x.deliver == 2 then d.mgmtArrives p crcOk octets
  else if x.deliver == 0 then d
  else match x.early, x.buf with
    | some o, _ => d.aqRecord p none (x.record p o 0 snr evm clkoff)
    | none, none => d
    | none, some w =>
      let d := d.sramWrites w.toNat (bytesWords octets)
      let d := if crcOk then d.inc (AQUA.RXOK_COUNT p) else d.inc (AQUA.RXERR_COUNT p)
      d.aqRecord p x.buf (x.record p (if crcOk then 0 else 1) octets.length snr evm clkoff)

/-- A frame being received is cut (R208): ABORTED with the octets written so far, or FAULT; `octets` are those that had arrived. -/
def Dev.aqCutRx (d : Dev) (p : Nat) (outcome : Nat) (octets : List Byte) : Dev :=
  match (d.aq p).rx with
  | none => d
  | some x =>
    let d := d.modAq p fun a => { a with rx := none }
    if x.deliver == 2 then d.spoutDrop
    else if x.deliver == 0 then d
    else
      let (snr, d) := d.drawQuality 1024
      let (evm, d) := d.drawQuality 4096
      let (off, d) := d.drawWord
      match x.early, x.buf with
      | some o, _ => d.aqRecord p none (x.record p o 0 snr evm (signed 16 off.toNat))
      | none, some w =>
        if outcome == 5 then d.aqRecord p x.buf (x.record p 5 0 snr evm (signed 16 off.toNat))
        else
          let d := d.sramWrites w.toNat (bytesWords octets)
          d.aqRecord p x.buf (x.record p outcome octets.length snr evm (signed 16 off.toNat))
      | none, none => d

/-! ### Transmitting (R211, R212) -/

/-- Writes a transmit report (R212). -/
def Dev.aqReport (d : Dev) (p : Nat) (id : Word) (outcome : Nat) (clamped : Bool) (amp stamp : Nat) : Dev :=
  let fl := d.rd (AQUA.FLUMES_RES_FLUME p)
  let lost := d.flumeDrops fl 3
  let d := d.flumeWrite fl (group
    [⟨id, .nat⟩, ⟨Word.ofNat (outcome * 2 ^ 28 + p * 2 ^ 27 + clamped.toNat * 2 ^ 26 + stamp % 1024 * 2 ^ 8 + amp), .raw⟩,
     ⟨Word.ofNat (stamp / 1024), .time⟩])
  let d := if outcome == 0 then d.inc (AQUA.TXOK_COUNT p) else d
  if lost then d.setF AQUA.EVENTS_REPDROP else d

/-- The frame that port `p` receives is not repeated after all: its record will not say so (R214). -/
def Dev.notRepeated (d : Dev) (p : Nat) : Dev :=
  d.modAq p fun a => { a with rx := a.rx.map fun x => { x with repeated := false, cut := false } }

/-- A frame being sent is cut with an outcome: a local one is reported; a repeated one is dropped from its repeat path. -/
def Dev.aqCutTx (d : Dev) (p outcome : Nat) : Dev :=
  match (d.aq p).tx with
  | none => d
  | some t =>
    let d := d.modAq p fun a => { a with tx := none }
    if t.kind == 0 then d.aqReport p t.id outcome t.clamped t.amp t.stamp
    else (if t.ready then d else d.notRepeated (1 - p)).repeatDrop (1 - p)

/-- The repeat buffer of port `p` is emptied: the frame is dropped from its repeat path (R213, R214). -/
def Dev.dropRepeat (d : Dev) (p : Nat) : Dev :=
  match (d.aq p).rpt with
  | some r =>
    let d := d.modAq p fun a => { a with rpt := none }
    (if r.body.isSome then d else d.notRepeated (1 - p)).repeatDrop (1 - p)
  | none => d

/-- The body of the cut-through frame that port `p` sends is complete. -/
def Dev.completeCut (d : Dev) (p : Nat) (octets : List Byte) (crc : BitVec 32) : Dev :=
  d.modAq p fun a =>
    match a.tx with
    | some t =>
      if t.kind == 2 && !t.ready then
        let t := { t with octets := octets, crc := crc, ready := true }
        { a with tx := some t, line := t.symbols (d.rd (AQUA.LINK_RATE p)) }
      else a
    | none => a

/-- The input of a repeated frame is lost after `octets` (R214): a cut-through frame is completed to LEN with zero octets and a wrong CRC; a
frame being stored is dropped from the repeat path. -/
def Dev.aqInputLost (d : Dev) (p : Nat) (octets : List Byte) : Dev :=
  match (d.aq p).rx with
  | none => d
  | some x =>
    if x.cut then
      let body := octets ++ List.replicate (hdrLen x.hdr - octets.length) 0#8
      d.completeCut (1 - p) body (BitVec.ofNat 32 (crc32 body ^^^ 0xFFFFFFFF))
    else if x.repeated then d.dropRepeat (1 - p)
    else d

/-- The octets that the line had supplied of the frame in progress (log entry 4). -/
def Dev.aqArrived (d : Dev) (p : Nat) : List Byte × Dev :=
  match (d.aq p).rx with
  | some x => d.drawOctets (hdrLen x.hdr)
  | none => ([], d)

/-! ### Link states (R199, R202) -/

/-- Port `p`'s link ends for a reason, the port going to a state; frames in progress end with the outcomes given (R199, R208, R212). -/
def Dev.linkEnds (d : Dev) (p state reason rxOutcome txOutcome : Nat) : Dev :=
  let was := d.link p
  let (octets, d) := d.aqArrived p
  let d := (((d.aqInputLost p octets).aqCutRx p rxOutcome octets).aqCutTx p txOutcome).dropRepeat p
  let d := d.modAq p fun a => { a with phase := 0, backoff := none, burst := 0, want := false, line := [], nextSync := 0 }
  let d := d.wr (AQUA.LINK_STATE p) state
  if 2 ≤ was && was ≤ 4 then
    ((d.wr (AQUA.LINK_REASON p) reason).inc (AQUA.DOWNS_COUNT p)).setF (linkDownFld p)
  else d

/-- A training fails or a link is lost by itself: the port is QUIET, and initiates again where AUTO_RETRAIN is 1 (R202). -/
def Dev.linkLost (d : Dev) (p reason : Nat) : Dev :=
  (d.linkEnds p 1 reason 4 4).modAq p fun a => { a with want := d.on (AQUA.PCFG_AUTO_RETRAIN p) }

/-- The Weir has become SILENT (R216): every enabled port is QUIET with reason SILENT. -/
def Dev.aqSilent (d : Dev) : Dev :=
  (List.range 2).foldl (fun d p => if 1 ≤ d.link p && d.link p ≤ 4 then d.linkLost p 6 else d) d

/-- Entry to NAP or a deeper state (R217). -/
def Dev.aqPower (d : Dev) : Dev :=
  (List.range 2).foldl (fun d p => if 1 ≤ d.link p && d.link p ≤ 4 then d.linkLost p 5 else d) d

/-- A write of AQUA.PCTRL[p] (R221). -/
def Dev.pctrlWrite (d : Dev) (p : Nat) (v : Word) : Dev :=
  let was := d.on (AQUA.PCTRL_EN p)
  let en := v.getLsbD 0
  let d := (d.wrB (AQUA.PCTRL_EN p) en).wrB (AQUA.PCTRL_ROLE p) (v.getLsbD 1)
  if d.link p == 5 then d
  else if !en then if was then d.linkEnds p 0 4 4 4 else d
  else
    let d := if was then d
      else ((d.wr (AQUA.LINK_STATE p) 1).wr (AQUA.LINK_REASON p) 0).modAq p fun a => { a with want := true }
    let d := if v.getLsbD 2 then (d.linkEnds p 1 4 4 4).modAq p fun a => { a with want := true } else d
    if v.getLsbD 3 then d.linkEnds p 1 4 4 4 else d

/-- The latest instant of the present crystal period, in 1/1,024 tick: what a command without a fraction of its own may mean. -/
def Dev.latestNow (d : Dev) : Nat := d.tick * 1024 + 1023

/-- WAKE_MS in ms; 0 acts as 1. -/
def Dev.wakeMs (d : Dev) (p : Nat) : Nat := max 1 (d.rd (AQUA.PCFG_WAKE_MS p))

/-- LQ[p] takes the quality of a span (R210). -/
def Dev.showQuality (d : Dev) (p rate : Nat) (y : List Int) : Dev :=
  (d.wr (AQUA.LQ_SNR p) (lineQuality (rateBits rate) y).1).wr (AQUA.LQ_EVM p) (lineQuality (rateBits rate) y).2

/-- One event of link training, or the end of a span of symbols (R200, R201, R210). -/
def Dev.train (d : Dev) (p : Nat) (ev : TrainEvent) : Dev :=
  let a := d.aq p
  let live := d.on (AQUA.PCTRL_EN p) && !d.silent && d.aqLive
  if !live then d
  else match ev with
    | .wakeTone =>
      if d.link p == 1 && d.on (AQUA.PCTRL_ROLE p) && a.want && a.backoff.isNone then
        ((d.wr (AQUA.LINK_STATE p) 2).wr (AQUA.LINK_INIT p) 1).setAq p { a with phase := 1, since := d.tick * 1024, want := false, line := tone }
      else d
    | .activity =>
      if d.link p == 1 then
        ((d.wr (AQUA.LINK_STATE p) 3).wr (AQUA.LINK_INIT p) 0).setAq p
          { a with phase := 2, since := d.tick * 1024, want := false, backoff := none, line := tone }
      else d
    | .reply => if d.link p == 2 then (d.wr (AQUA.LINK_STATE p) 3).setAq p { a with phase := 2 } else d
    | .exchange w1 w2 =>
      if d.link p == 3 && a.phase == 2 then
        match (match readExchange w1 with
          | some r => some r
          | none => readExchange w2) with
        | some (rate, addr) =>
          ((d.wr (AQUA.LINK_RATE p) (min (rateOf (d.rd (AQUA.PCFG_RATE_MAX p))) rate)).wr (AQUA.LINK_PEER p) addr).setAq p
            { a with phase := 3, line := exchangeSymbols (exchangeWord (d.rd (AQUA.PCFG_RATE_MAX p)) (d.rd AQUA.ADDR_ADDR)) }
        | none => d.linkLost p 2
      else d
    | .full y flag =>
      if d.link p == 3 && a.phase == 3 then
        let rate := d.rd (AQUA.LINK_RATE p)
        let own := decide (passSnr rate + 4 * d.rd (AQUA.PCFG_MARGIN_DB p) ≤ (lineQuality (rateBits rate) y).1)
        let d := d.showQuality p rate y
        let a := { a with line := flagSymbols rate own }
        if own && flagPass flag then
          let ms := (d.tick * 1024 - a.since) * 1000 / 2 ^ 25
          (((d.wr (AQUA.LINK_STATE p) 4).setF (linkUpFld p)).wr (AQUA.TRAIN_MS_MS p) (min ms 65535)).setAq p { a with phase := 0 }
        else if rate == 0 then d.linkLost p 2
        else (d.wr (AQUA.LINK_RATE p) (rate - 1)).setAq p a
      else d
    | .peerGone => if d.link p == 3 then d.linkLost p 2 else d
    | .span y => if d.aqUp p then d.showQuality p (d.rd (AQUA.LINK_RATE p)) y else d

/-- LINK_TRAINING (R200). -/
def execLinkTraining (p : Fin 2) (ev : TrainEvent) (s : State) : Host.Outcome State Fault Refusal := onDev s fun d => d.train p.val ev

/-- NOREPLY (R202): no reply tone has come within WAKE_MS of W0; with AUTO_RETRAIN a back-off runs. -/
def execNoreply (p : Fin 2) (s : State) : Host.Outcome State Fault Refusal :=
  onDev s fun d =>
    let a := d.aq p.val
    if d.link p.val == 2 && a.since + usFloor (d.wakeMs p.val * 1000) ≤ d.latestNow then
      let k := (d.tick % 16) ^^^ (d.rd AQUA.ADDR_ADDR % 16)
      let us := k * d.wakeMs p.val * 1000 / 16 + d.wakeMs p.val * 1000
      let d := d.linkEnds p.val 1 3 4 4
      if d.on (AQUA.PCFG_AUTO_RETRAIN p.val) then
        d.modAq p.val fun a => { a with want := true, backoff := some (d.tick * 1024 + usCeil us) }
      else d
    else d

/-- BACKOFF_END (R202): the back-off has passed and the initiator tries again. -/
def execBackoffEnd (p : Fin 2) (s : State) : Host.Outcome State Fault Refusal :=
  onDev s fun d =>
    match (d.aq p.val).backoff with
    | some t =>
      if t ≤ d.latestNow then
        (d.modAq p.val fun a => { a with backoff := none }).train p.val .wakeTone
      else d
    | none => d

/-- LOSS_OF_SIGNAL (R199): the live SNR has stayed below the rate's pass SNR, or nothing was decodable, for LOS_MS. -/
def execLossOfSignal (p : Fin 2) (s : State) : Host.Outcome State Fault Refusal :=
  onDev s fun d => if d.aqUp p.val then d.linkLost p.val 1 else d

/-- Whether port `p`'s transmitter owes a waiting local descriptor its turn before the next repeated frame (R215). -/
def Dev.localTurn (d : Dev) (p : Nat) : Bool :=
  let fl := d.rd (AQUA.FLUMES_TX_FLUME p)
  decide (max 1 (d.rd AQUA.CFG_RPT_BURST) ≤ (d.aq p).burst) && d.flumeOn fl && (d.flume fl).pkts != 0

/-- AQ_RX_HEADER (R206, R207, R213, R214): a header `hdr` has been decoded after a sync stamped `stamp`. -/
def execAqRxHeader (p : Fin 2) (hdr : BitVec 48) (stamp : Stamp) (s : State) : Host.Outcome State Fault Refusal :=
  onDev s fun d =>
    let p := p.val
    let o := 1 - p
    if !d.aqUp p || (d.aq p).rx.isSome then d
    else if !hdrGood hdr then (d.inc (AQUA.RXERR_COUNT p)).setF AQUA.EVENTS_BADHDR
    else
      let own := hdrDest hdr == d.rd AQUA.ADDR_ADDR
      let here := own || hdrDest hdr == 0xFFFF || d.on AQUA.CFG_PROMISC
      let deliver := if !here then 0 else if hdrType hdr == 1 && d.on AQUA.CFG_MGMT_EN then 2 else 1
      let tooLong := d.aqBufBytes p < hdrLen hdr
      let (buf, d) := if deliver == 1 && !tooLong then d.aqBuffer p else (none, d)
      let early := if deliver != 1 then none else if tooLong then some 2 else if buf.isNone then some 3 else none
      let x : AqRx := ⟨hdr, stamp.inst, deliver, buf, early, false, false, d.rd (AQUA.LINK_RATE p)⟩
      let hold (x : AqRx) (d : Dev) : Dev := d.modAq p fun a => { a with rx := some x }
      if !d.on AQUA.CFG_REPEAT_EN || own || hdrHops hdr == 0 then hold x d
      else if !d.aqUp o then hold x (d.repeatDrop p)
      else
        let b := d.aq o
        if d.rd (AQUA.LINK_RATE o) == x.rate && b.tx.isNone && b.rpt.isNone && !d.localTurn o then
          let t : AqTx := ⟨2, 0#32, repeatHdr hdr, [], 0#32, false, d.ampEff o, d.ampClamped o,
            stamp.inst + symbolsTime x.rate (hdrSymbols x.rate + 24)⟩
          hold { x with repeated := true, cut := true } (d.setAq o { b with tx := some t, burst := b.burst + 1 })
        else if b.rpt.isNone then
          hold { x with repeated := true } (d.setAq o { b with rpt := some ⟨repeatHdr hdr, none⟩ })
        else hold x (d.repeatDrop p)

/-- The repeat path of a frame whose input has ended whole (R213, R214). -/
def Dev.aqForward (d : Dev) (p : Nat) (x : AqRx) (octets : List Byte) (crc : BitVec 32) (crcOk : Bool) : Dev :=
  if x.cut then d.completeCut (1 - p) octets (if crcOk then crc else ~~~crc)
  else if x.repeated then
    d.modAq (1 - p) fun a => { a with rpt := a.rpt.map fun r => { r with body := some (octets, crc) } }
  else d

/-- AQ_RX_FRAME_END (R208): the frame's payload and CRC have been received. -/
def execAqRxFrameEnd (p : Fin 2) (octets : List Byte) (crc : BitVec 32) (y : List Int) (clkoff : Int) (f : BitVec 10) (s : State) :
    Host.Outcome State Fault Refusal :=
  onDev s fun d =>
    let d := d.atFrac f
    match (d.aq p.val).rx with
    | some x =>
      if octets.length == hdrLen x.hdr then
        let ok := crc.toNat == crc32 octets
        let d := d.modAq p.val fun a => { a with rx := none }
        let q := lineQuality (rateBits x.rate) y
        (d.aqForward p.val x octets crc ok).aqDeliver p.val x octets ok q.1 q.2 clkoff
      else d
    | none => d

/-- Whether the transmitter of port `p` would take its repeat buffer at a frame boundary (R215). -/
def Dev.takesRepeat (d : Dev) (p : Nat) : Bool :=
  let whole := match (d.aq p).rpt with
    | some r => r.body.isSome
    | none => false
  whole && !d.localTurn p

/-- AQ_FRAME_BOUNDARY (R203, R215): at a frame boundary, once the least idle symbols have gone, the transmitter takes its repeat buffer,
unless it is a local descriptor's turn. -/
def execAqFrameBoundary (p : Fin 2) (stamp : Stamp) (s : State) : Host.Outcome State Fault Refusal :=
  onDev s fun d =>
    let p := p.val
    let a := d.aq p
    if d.aqUp p && a.tx.isNone && d.takesRepeat p && a.nextSync ≤ stamp.inst then
      match a.rpt with
      | some ⟨hdr, some (octets, crc)⟩ =>
        let t : AqTx := ⟨1, 0#32, hdr, octets, crc, true, d.ampEff p, d.ampClamped p, stamp.inst⟩
        d.setAq p { a with tx := some t, rpt := none, burst := a.burst + 1, line := t.symbols (d.rd (AQUA.LINK_RATE p)) }
      | _ => d
    else d

/-- The payload of a descriptor (R211): BADDESC, POISONED, or the octets. -/
def Dev.aqPayload (d : Dev) (p : Nat) (ws : List FRead) : Option (Option (List Byte)) × Dev :=
  let w (i : Nat) : FRead := ws.getD i ⟨0#32, .void, false, false, false⟩
  let buf := (w 1).data.toNat
  let len := bitsOf (w 2).data 4 12
  let words := (len + 3) / 4
  let placed := buf % 4 == 0 && ((0x500000 ≤ buf && buf + 4 * words ≤ 0x600000) || buf + 4 * words ≤ 0x400000)
  if (w 0).tag != .nat || (w 1).tag != .dptr || (w 2).tag != .raw || (w 3).tag != .raw || bitsOf (w 2).data 0 2 != 0
    || bitsOf (w 3).data 4 28 != 0 || len < 16 || 2048 < len || !placed then (none, d)
  else
    let (t, d) := d.sramReads buf words
    if t.any fun x => x.tag != .bytes && !x.tag.bad then (none, d)
    else match (List.range words).find? fun i => (t.getD i ⟨0#32, .bytes⟩).tag.bad with
      | some i => (some none, d.fault (mkUnitFault 0x05 10 p (buf + 4 * i) (w 0).data.toNat))
      | none => (some (some ((t.flatMap fun x => octetsOf x.data).take len)), d)

/-- AQ_TX_DESCRIPTOR (R188, R211, R216): the transmitter reads the head of TX_FLUME; the frame it starts is stamped `stamp`. -/
def execAqTxDescriptor (p : Fin 2) (stamp : Stamp) (s : State) : Host.Outcome State Fault Refusal :=
  onDev s fun d =>
    let p := p.val
    if !d.on (AQUA.PCTRL_EN p) || (d.aq p).tx.isSome || (d.aqUp p && (d.takesRepeat p || stamp.inst < (d.aq p).nextSync)) then d
    else match d.readDescriptor (d.rd (AQUA.FLUMES_TX_FLUME p)) 4 with
      | (none, d) => d
      | (some ws, d) =>
        let w (i : Nat) : Word := (ws.getD i ⟨0#32, .void, false, false, false⟩).data
        let amp := d.ampEff p
        let clamped := d.ampClamped p
        let d := if d.silent then d.aqReport p (w 0) 5 clamped amp 0
          else if !d.aqUp p then d.aqReport p (w 0) 3 clamped amp 0
          else match d.aqPayload p ws with
            | (none, d) => d.aqReport p (w 0) 1 clamped amp 0
            | (some none, d) => d.aqReport p (w 0) 2 clamped amp 0
            | (some (some octets), d) =>
              let hdr := mkHdr (bitsOf (w 2) 16 16) (bitsOf (w 2) 4 12) (bitsOf (w 2) 2 2) (bitsOf (w 3) 0 4)
              let d := if clamped then d.setF AQUA.EVENTS_CLAMP else d
              let t : AqTx := ⟨0, w 0, hdr, octets, BitVec.ofNat 32 (crc32 octets), true, amp, clamped, stamp.inst⟩
              d.modAq p fun a => { a with tx := some t, line := t.symbols (d.rd (AQUA.LINK_RATE p)) }
        (d.modAq p fun a => { a with burst := 0 }).mgmtReplySent p (w 0)

/-- AQ_TX_DONE (R203, R212, R215): the frame has left the pins, and idle symbols follow, at least 8 of them; the state of the free-running
scrambler is free. -/
def execAqTxDone (p : Fin 2) (s : State) : Host.Outcome State Fault Refusal :=
  onDev s fun d =>
    match (d.aq p.val).tx with
    | some t =>
      if t.ready then
        let rate := d.rd (AQUA.LINK_RATE p.val)
        let (st, d) := d.drawWord
        let d := d.modAq p.val fun a =>
          { a with tx := none, line := idleSymbols rate (st.toNat % 2 ^ 15) 8, nextSync := t.nextSync rate }
        if t.kind == 0 then d.aqReport p.val t.id 0 t.clamped t.amp t.stamp else d.inc (AQUA.RPT_COUNT (1 - p.val))
      else d
    | none => d

/-- AQ_PORT_EN (R221): PCTRL.EN and ROLE of port `p` are written. -/
def execAqPortEn (p : Fin 2) (on role : Bool) (s : State) : Host.Outcome State Fault Refusal :=
  onBus s 13 fun d => d.pctrlWrite p.val (Word.ofNat (on.toNat + 2 * role.toNat))

/-- RETRAIN (R221): PCTRL.RETRAIN is written with EN and ROLE as they stand. -/
def execRetrain (p : Fin 2) (s : State) : Host.Outcome State Fault Refusal :=
  onBus s 13 fun d => d.pctrlWrite p.val (Word.ofNat (d.rd (AQUA.PCTRL_EN p.val) + 2 * d.rd (AQUA.PCTRL_ROLE p.val) + 4))

/-- DROP (R221): PCTRL.DROP is written with EN and ROLE as they stand. -/
def execDrop (p : Fin 2) (s : State) : Host.Outcome State Fault Refusal :=
  onBus s 13 fun d => d.pctrlWrite p.val (Word.ofNat (d.rd (AQUA.PCTRL_EN p.val) + 2 * d.rd (AQUA.PCTRL_ROLE p.val) + 8))

/-- A fence of Aqueduct port `p` (R220): its frames end FAULT and its link is lost. -/
def Dev.fenceAq (d : Dev) (p : Nat) : Dev := d.linkEnds p 5 7 5 6

/-- AQ_LINE_ACTIVITY (R218): the line signal has exceeded LEVEL for WAKE_US while WAKE[p].EN is 1. -/
def execAqLineActivity (p : Fin 2) (s : State) : Host.Outcome State Fault Refusal :=
  onDev s fun d => if d.on (AQUA.WAKE_EN p.val) && !d.fencedAqRip 10 p.val then d.fireWake (6 + p.val) else d

end Sys2Proof.Machine
end

