-- ==== Sys2Proof/Machine/Golden.lean ====
section
/-! DEFINITION. Where images live in the Cistern (R380), and the golden images a part is shipped with (R381): their layout is the spec's,
their contents the maker's (log entry 5). -/

namespace Sys2Proof.Machine

/-- The block offset of image type `t` within each region, and its number of blocks (R380). -/
def imageBlocks (t : Nat) : Nat × Nat :=
  match t with
  | 1 => (0, 1) | 2 => (1, 3) | 4 => (4, 1) | 3 => (5, 1) | 5 => (6, 4) | _ => (10, 1)

/-- The maximum LENGTH of type `t` (R380). -/
def imageMax (t : Nat) : Nat :=
  match t with
  | 1 => 32768 | 2 => 131072 | 4 => 6272 | 5 => 261792 | _ => 65184

/-- The first block of slot 0, slot 1 and the golden images (R380). -/
def slotBlock (k : Nat) : Nat := if k == 0 then 1 else if k == 1 then 12 else 501

/-- The first block of type `t` in slot `k` (2 golden). -/
def regionBlock (t k : Nat) : Nat := slotBlock k + (imageBlocks t).1

/-- The first octet of the region of type `t` in slot `k`. -/
def regionAt (t k : Nat) : Nat := 0x08000000 + 0x10000 * regionBlock t k

/-- The octet after the region's last. -/
def regionEnd (t k : Nat) : Nat := regionAt t k + 0x10000 * (imageBlocks t).2

/-- The type whose golden region holds block `b`; 0 for another block. -/
def goldenType (b : Nat) : Nat :=
  if b < 501 || 511 < b then 0
  else match b - 501 with
    | 0 => 1 | 1 => 2 | 2 => 2 | 3 => 2 | 4 => 4 | 5 => 3 | 10 => 6 | _ => 5

/-- A free word of the golden image of type `t`. -/
def goldenFree (t i : Nat) : Nat := (Config.goldenWord (t * 2 ^ 20 + i)).toNat

/-- LENGTH of the golden image of type `t`. -/
def goldenLen (t : Nat) : Nat := 1 + goldenFree t (2 ^ 19) % imageMax t

/-- Word `i` of the golden image of type `t`: its header (R382), then its body. -/
def goldenWordAt (t i : Nat) : Word :=
  let f := goldenFree t i
  Word.ofNat (
    if i == 0 then 0x49505548
    else if i == 1 then 1 + t * 0x100
    else if i == 2 then 0x7740 + f % 2 ^ 16 * 2 ^ 16
    else if i == 13 then goldenLen t
    else if i == 14 then 512 + f % 1024 * 2 ^ 16
    else if i == 16 then f % 2 ^ 16
    else if i == 17 || (20 ≤ i && i < 56) then 0
    else f)

/-- The octets of the golden image's header and body. -/
def goldenOctets (t : Nat) : List Byte :=
  ((List.range (64 + (goldenLen t + 3) / 4)).flatMap fun i => octetsOf (goldenWordAt t i)).take (256 + goldenLen t)

/-- A PROGRAMMED line of eight words, without bits in error. -/
def goodLine (w : Nat → Word) : Option CistLine :=
  some ⟨BitVec.ofNat 256 ((List.range 8).foldr (fun i n => n * 2 ^ 32 + (w i).toNat) 0), 0#256, false⟩

/-- Array line `n` of a part as shipped: the golden regions valid and CONFIRMED with sequence 0 (R381), every other line ERASED. -/
def shippedLine (n : Nat) : Option CistLine :=
  let t := goldenType (n / 2048)
  if t == 0 then none
  else
    let ones : Word := 0xFFFFFFFF#32
    let l := n - 2048 * regionBlock t 2
    let lines := 2048 * (imageBlocks t).2
    if l < 8 + (goldenLen t + 31) / 32 then goodLine fun i => goldenWordAt t (8 * l + i)
    else if l == lines - 3 then
      goodLine fun i => if i == 0 then 1#32 else if i == 1 then Word.ofNat (crc32 (goldenOctets t))
        else if i == 2 then Word.ofNat (goldenLen t) else ones
    else if l == lines - 2 then goodLine fun i => if i == 0 then 2#32 else if i == 1 then 0#32 else ones
    else none

end Sys2Proof.Machine
end

