-- ==== Sys2Proof/Machine/Basin.lean ====
section
/-! DEFINITION. Basin, the all-channel receiver: detectors, the lane pool, shadows, pre-emption, buffers, records, blanking (chapter 02). -/

namespace Sys2Proof.Machine

/-! ### Lanes and limits -/

/-- Lane `n`. -/
def Dev.lane (d : Dev) (n : Nat) : Lane := Store.get Lane.blank d.basin.lanes n

/-- Replaces lane `n`. -/
def Dev.setLane (d : Dev) (n : Nat) (l : Lane) : Dev :=
  { d with basin := { d.basin with lanes := Store.put Lane.blank d.basin.lanes n l } }

/-- Changes lane `n`. -/
def Dev.modLane (d : Dev) (n : Nat) (f : Lane → Lane) : Dev := d.setLane n (f (d.lane n))

/-- The lane numbers 0 to 71. -/
def laneNos : List Nat := List.range 72

/-- The state codes of R47. -/
def LaneState.code : LaneState → Nat
  | .idle => 0 | .pinWait => 1 | .search => 2 | .demod => 3 | .drain => 4 | .test => 5 | .fenced => 6

/-- PIN_WAIT, SEARCH, DEMOD and DRAIN count as active (R47). -/
def LaneState.active : LaneState → Bool
  | .pinWait => true | .search => true | .demod => true | .drain => true | _ => false

/-- SEARCH and DEMOD. -/
def LaneState.running : LaneState → Bool
  | .search => true | .demod => true | _ => false

/-- The number of active lanes. -/
def Dev.activeLanes (d : Dev) : Nat := laneNos.countP fun n => (d.lane n).state.active

/-- BASIN.CFG.ACTIVE_MAX as it acts. -/
def Dev.activeMax (d : Dev) : Nat :=
  let v := d.rd BASIN.CFG_ACTIVE_MAX
  if v == 0 || 64 < v then 64 else v

/-- The lanes neither FENCED nor in TEST. -/
def Dev.serviceable (d : Dev) : Nat :=
  laneNos.countP fun n => (d.lane n).state != .fenced && (d.lane n).state != .test

/-- The effective limit of R49. -/
def Dev.laneLimit (d : Dev) : Nat := min d.activeMax d.serviceable

/-- The lowest of a list by a measure; of equals, the first. -/
def minBy (f : Nat → Nat) : List Nat → Option Nat
  | [] => none
  | a :: r =>
    match minBy f r with
    | none => some a
    | some b => if f b < f a then some b else some a

/-- The idle lane that has been idle longest, then the lower number (R49). -/
def Dev.idleLane (d : Dev) : Option Nat :=
  minBy (fun n => (d.lane n).idleAt) (laneNos.filter fun n => (d.lane n).state == .idle)

/-- Lane `n` becomes IDLE, the latest to have done so. -/
def Dev.toIdle (d : Dev) (n : Nat) : Dev :=
  let k := d.basin.idleSeq + 1
  let conv := (d.lane n).converted
  ({ d with basin := { d.basin with idleSeq := k } } : Dev).setLane n { Lane.blank with idleAt := k, converted := conv }

/-! ### Detectors and profiles -/

/-- The group of detector `det` as its registers stand. -/
def Dev.detGroup (d : Dev) (det : Nat) : Group :=
  ⟨det / 64, det % 64, d.rd (BASIN.DET_WIDTH det), d.rd (BASIN.DET_PROFILE det)⟩

/-- The profile number 0 to 15 of a group. -/
def Group.profileNo (g : Group) : Nat := g.port * 8 + g.profile

/-- The copy of a profile a lane takes (R46), with the limits of R67. -/
def Dev.profileCopy (d : Dev) (i : Nat) : ProfileCopy :=
  { mode := d.rd (BASIN.PMATCH_MODE i), minSym := max 8 (d.rd (BASIN.PMATCH_MIN_SYM i)), edFloor := 4 * d.rdS (BASIN.PMATCH_ED_FLOOR i),
    syncTimeout := max 16 (d.rd (BASIN.PSYNC_SYNC_TIMEOUT i)), syncErr := d.rd (BASIN.PSYNC_SYNC_ERR i),
    fadeSym := d.rd (BASIN.PSYNC_FADE_SYM i) }

/-- Whether detector `det`'s register holds a reserved width or names a group past bin 63 (R46). -/
def Dev.detWide (d : Dev) (det : Nat) : Bool :=
  let g := d.detGroup det
  g.width == 3 || 64 < g.bin + binsOf g.width

/-- Whether detector `det` cannot evaluate: a bad register, or a profile whose mode is not received (R46, R138). -/
def Dev.detBad (d : Dev) (det : Nat) : Bool :=
  d.detWide det || 8 ≤ d.rd (BASIN.PMATCH_MODE (d.detGroup det).profileNo)

/-- Sets BADCFG for a detector with a bad register, and for an enabled one whose profile names a mode that is not received (log entry 105). -/
def Dev.checkDet (d : Dev) (det : Nat) : Dev :=
  if d.detWide det || (d.on (BASIN.DET_EN det) && d.detBad det) then d.setF BASIN.EVENTS_BADCFG else d

/-! ### Records (R60, R63, R64) -/

/-- Whether port `p` is blanked (R61). -/
def Dev.blanked (d : Dev) (p : Nat) : Bool := (Store.get Rf.idle d.rf p).syn.blanked

/-- The eight words of a record (R63, R64). -/
def recordWords (n : Nat) (l : Lane) (outcome rxLen evm : Nat) : List TWord :=
  let b (v : Bool) (k : Nat) : Nat := if v then 2 ^ k else 0
  let buf := match l.buf with
    | some w => w
    | none => 0#32
  let rssi := match l.sync, l.recRssi with
    | none, _ => l.detRssi
    | some _, some r => r
    | some _, none => l.syncRssi
  let lqi := if l.sync.isSome && outcome != 0xA then l.lqi else 0
  let sync := l.sync.getD 0
  [⟨Word.ofNat (outcome * 2 ^ 28 + l.group.port * 2 ^ 27 + l.group.bin * 2 ^ 21 + l.group.width * 2 ^ 19 + n * 2 ^ 12
      + l.group.profile * 2 ^ 9 + b l.spawnedShadow 8 + b l.shadowed 7 + b l.overlap 6 + b l.captMissed 5 + b l.pin.isSome 4
      + b l.agcStep 3), .raw⟩,
   ⟨Word.ofNat (l.start / 1024), .time⟩,
   ⟨Word.ofNat (sync / 1024), .time⟩,
   ⟨Word.ofNat (l.start % 1024 * 2 ^ 22 + sync % 1024 * 2 ^ 12 + l.restarts * 2 ^ 8 + b l.fcs32 7 + b l.whitened 6 + b l.fec 5), .raw⟩,
   ⟨Word.ofNat (twos 12 rssi * 2 ^ 20 + lqi * 2 ^ 12 + evm), .raw⟩,
   ⟨Word.ofNat (twos 32 l.foff), .int⟩,
   ⟨buf, .dptr⟩,
   ⟨Word.ofNat (rxLen * 2 ^ 16 + l.phrLen), .raw⟩]

/-- Delivers a record to the Flume of R60, or drops it whole and returns its buffer. -/
def Dev.deliver (d : Dev) (r : DrainRec) : Dev :=
  let own := match r.pin with
    | some j => d.on (BASIN.PINC_REC_OVR j)
    | none => false
  let fl := if own then d.rd (BASIN.PINC_REC_FLUME (r.pin.getD 0)) else d.rd (BASIN.PCFG_REC_FLUME r.port)
  let lost := d.flumeDrops fl 8
  let d := d.flumeWrite fl (group r.words)
  if lost then
    let d := match r.buf with
      | some w => d.flumeWrite (d.rd (BASIN.PCFG_BUF_FLUME r.port)) [⟨w, .dptr, false⟩]
      | none => d
    d.setF BASIN.EVENTS_RECDROP
  else d

/-! ### Endings (R48, R54) -/

/-- A lane leaves its primary and its shadow: the shadow becomes the primary (R54). -/
def Dev.unlink (d : Dev) (n : Nat) : Dev :=
  let l := d.lane n
  let d := match l.shadow with
    | some s => d.modLane s fun x => { x with primary := none, isShadow := false }
    | none => d
  let d := match l.primary with
    | some p => d.modLane p fun x => { x with shadow := none }
    | none => d
  d.modLane n fun x => { x with primary := none, shadow := none }

/-- Counts an ending in the counters of R67. -/
def Dev.countEnd (d : Dev) (p outcome : Nat) : Dev :=
  match outcome with
  | 1 => d.inc (BASIN.NOSYNC_COUNT p)
  | 2 => d.inc (BASIN.CAPTURES_COUNT p)
  | 6 => d.setF BASIN.EVENTS_NOBUF
  | _ => d

/-- A lane in SEARCH or DEMOD ends with an outcome of R64 and goes to DRAIN; `octets` are the PSDU octets written to its buffer. -/
def Dev.endLane (d : Dev) (n outcome : Nat) (octets : List Byte) (evm : Nat) : Dev :=
  let l := d.lane n
  let d := match l.buf with
    | some w => d.sramWrites w.toNat (bytesWords octets)
    | none => d
  let rec_ : DrainRec := ⟨recordWords n l outcome octets.length (min evm 4095), l.group.port, l.pin, l.buf⟩
  let d := (d.unlink n).countEnd l.group.port outcome
  let d := if l.state == .search then d.leaveSearch n else d
  d.modLane n fun x => { x with state := .drain, drain := some rec_ }

/-- The whole symbols from a lane's sync end to air instant `t`. -/
def Lane.symbolsAt (l : Lane) (t : Nat) : Nat := (t - l.sync.getD t) * symbolRate l.copy.mode / 33554432

/-- The whole PSDU octets a lane in DEMOD has written at air instant `t`, when its last one is not among them (R53, R140, R144, R145). -/
def Lane.octetsAt (l : Lane) (t : Nat) : Nat :=
  min ((l.symbolsAt t - phrSymbols l.copy.mode l.fec) / octetSymbols l.copy.mode l.fec) (l.phrLen - 1)

/-- Whether a lane's last PSDU octet has ended by the sample at air instant `t` (R54), to within the 1/1,024 tick of the stamps. -/
def Lane.doneBy (l : Lane) (t : Nat) : Bool :=
  l.recRssi.isSome && phrSymbols l.copy.mode l.fec + l.phrLen * octetSymbols l.copy.mode l.fec ≤ l.symbolsAt (t + 1)

/-- A lane is cut by an event outside it (BLANKED, ABORTED, PREEMPTED).  In DEMOD, RX_LEN runs up to the present instant for a blanking
(R61) and, for an abort, up to a sample that reached the antenna 14 to 18 microseconds before it (R62): that lag is free within those
bounds, which R62 states for VCORE 0.62 V, the least with a port active (log entry 4). -/
def Dev.cutLane (d : Dev) (n outcome : Nat) : Dev :=
  let l := d.lane n
  match l.state with
  | .search => d.endLane n outcome [] 0
  | .demod =>
    let (o, d) := if l.recRssi.isNone then ([], d)
      else if outcome == 8 then d.drawExact (l.octetsAt d.rfNow)
      else
        let (lag, d) := d.drawQuality 134
        d.drawExact (l.octetsAt (d.rfNow - (470 + lag)))
    let (e, d) := d.drawQuality 4096
    d.endLane n outcome o e
  | _ => d

/-- A lane in DEMOD is captured at air instant `t` (R53): CAPTURED with the octets written by then. -/
def Dev.captureLane (d : Dev) (n t : Nat) : Dev :=
  let l := d.lane n
  let (o, d) := if l.recRssi.isSome then d.drawExact (l.octetsAt t) else ([], d)
  let (e, d) := d.drawQuality 4096
  d.endLane n 2 o e

/-- Every lane of port `p` in SEARCH or DEMOD is cut with `outcome`; its undecided declarations are dropped. -/
def Dev.cutPort (d : Dev) (p outcome : Nat) : Dev :=
  let d := ({ d with basin := { d.basin with decls := d.basin.decls.filter fun x => x.port != p } } : Dev).noteInactive p
  laneNos.foldl (fun d n =>
    if (d.lane n).group.port == p && (d.lane n).state.running then d.cutLane n outcome else d) d

/-- The port stops being active other than by blanking (R38): its lanes end ABORTED. -/
def Dev.abortPort (d : Dev) (p : Nat) : Dev := d.cutPort p 9

/-- The port is blanked (R61): its lanes end BLANKED. -/
def Dev.blankStart (d : Dev) (p : Nat) : Dev :=
  let r := Store.get Rf.idle d.rf p
  let d := { d with rf := Store.put Rf.idle d.rf p { r with syn := { r.syn with blanked := true } } }
  d.cutPort p 8

/-! ### Pin slots (R50) -/

/-- The detector a pin slot names. -/
def Dev.pinDet (d : Dev) (j : Nat) : Nat := d.rd (BASIN.PINC_PORT j) * 64 + d.rd (BASIN.PINC_BIN j)

/-- The lane pin slot `j` holds. -/
def Dev.pinLane (d : Dev) (j : Nat) : Option Nat := Store.get none d.basin.pins j

/-- Sets the lane pin slot `j` holds. -/
def Dev.setPinLane (d : Dev) (j : Nat) (n : Option Nat) : Dev :=
  { d with basin := { d.basin with pins := Store.put none d.basin.pins j n } }

/-- Lane `n` goes to PIN_WAIT for slot `j`, on the pin's group. -/
def Dev.toPinWait (d : Dev) (j n : Nat) : Dev :=
  let g := d.detGroup (d.pinDet j)
  let c := (d.lane n).converted
  (d.setPinLane j (some n)).setLane n { Lane.blank with state := .pinWait, pin := some j, group := g, converted := c }

/-- An enabled pin slot without a lane acquires the one longest idle (log entry 105), and one whose waiting lane has not the new microcode
exchanges it (R50, R392); a slot that names a disabled detector sets BADCFG. -/
def Dev.acquirePin (d : Dev) (j : Nat) : Dev :=
  if !d.on (BASIN.PINC_EN j) then d
  else if !d.on (BASIN.DET_EN (d.pinDet j)) then d.setF BASIN.EVENTS_BADCFG
  else match d.pinLane j with
    | none =>
      match d.idleLane with
      | some n => if d.activeLanes < d.laneLimit then d.toPinWait j n else d
      | none => d
    | some old =>
      if (d.lane old).state == .pinWait && !(d.lane old).converted then
        match minBy (fun n => (d.lane n).idleAt) (laneNos.filter fun n => (d.lane n).state == .idle && (d.lane n).converted) with
        | some n => (d.toIdle old).toPinWait j n
        | none => d
      else d

/-- Every pin slot in order (R50). -/
def Dev.acquirePins (d : Dev) : Dev := (List.range 16).foldl Dev.acquirePin d

/-- A pin slot is disabled (R48, R50): a waiting lane returns to the pool, a running one finishes as a pooled lane. -/
def Dev.releasePin (d : Dev) (j : Nat) : Dev :=
  match d.pinLane j with
  | none => d
  | some n =>
    let d := d.setPinLane j none
    if (d.lane n).state == .pinWait then d.toIdle n else d.modLane n fun x => { x with pin := none }

/-- A write of BASIN.PINC[j]. -/
def Dev.pincWrite (d : Dev) (j : Nat) (v : Word) : Dev :=
  let d := d.setReg (BASIN.PINC_at j) (v &&& 0x7FFF#32)
  if d.on (BASIN.PINC_EN j) then
    match d.pinLane j with
    | some n =>
      (if (d.lane n).state == .pinWait then d.modLane n fun x => { x with group := d.detGroup (d.pinDet j) } else d).acquirePins
    | none => d.acquirePins
  else (d.releasePin j).acquirePins

/-- The lanes that wait on the pin of detector `det` take its width and profile as its register stands (R50). -/
def Dev.regroup (d : Dev) (det : Nat) : Dev :=
  (List.range 16).foldl (fun d j =>
    match d.pinLane j with
    | some n => if d.pinDet j == det && (d.lane n).state == .pinWait then d.modLane n fun x => { x with group := d.detGroup det } else d
    | none => d) d

/-- A write of BASIN.DET[d] (R46); LAST_RSSI is read-only. -/
def Dev.detWrite (d : Dev) (det : Nat) (v : Word) : Dev :=
  let d := d.setReg (BASIN.DET_at det) ((v &&& 0x377#32) ||| (d.reg (BASIN.DET_at det) &&& 0xFF000000#32))
  ((d.checkDet det).regroup det).acquirePins

/-! ### Spawns, restarts and pre-emption (R49 to R56) -/

/-- A new detection: what a lane takes from a declaration. -/
structure Detection where
  group : Group
  prio : Nat
  start : Nat
  rssi : Int
  zSum : Int
  zCount : Nat
  deriving DecidableEq, Repr

/-- Lane `n` starts SEARCH for a detection, as a shadow of `primary` if one is given; a victim waits for its DRAIN to end (R55). -/
def Dev.startLane (d : Dev) (n : Nat) (x : Detection) (primary : Option Nat) : Dev :=
  let l := d.lane n
  let wait := l.state == .drain
  let d := match primary with
    | some p => d.modLane p fun y => { y with shadow := some n }
    | none => d
  let d := d.setLane n { Lane.blank with
    state := if wait then .drain else .search, waiting := wait, drain := l.drain, pin := l.pin, converted := l.converted,
    isShadow := primary.isSome, spawnedShadow := primary.isSome, primary := primary, group := x.group,
    copy := d.profileCopy x.group.profileNo, prio := x.prio, start := x.start, detRssi := x.rssi, foff := meanOf x.zSum x.zCount,
    zSum := x.zSum, zCount := x.zCount, fec := (d.profileCopy x.group.profileNo).mode == 0 }
  d.acceptDecl x.group.port x.group.bin x.group.width x.start n

/-- Lane `n` restarts on a detection (R52): role kept; group, profile, START and detector RSSI taken anew. -/
def Dev.restartLane (d : Dev) (n : Nat) (x : Detection) : Dev :=
  let l := d.lane n
  let d := d.setLane n { l with
    group := x.group, copy := d.profileCopy x.group.profileNo, prio := x.prio, start := x.start, detRssi := x.rssi,
    foff := meanOf x.zSum x.zCount, zSum := x.zSum, zCount := x.zCount, fec := (d.profileCopy x.group.profileNo).mode == 0,
    restarts := min 15 (l.restarts + 1) }
  (d.restartHits n x.start).acceptDecl x.group.port x.group.bin x.group.width x.start n

/-- The pre-emption victim for a request of priority `prio` (R55): shadows first, then the longest in SEARCH, then the lower number. -/
def Dev.victim (d : Dev) (prio : Nat) (notLane : Option Nat) : Option Nat :=
  let cand := laneNos.filter fun n =>
    let l := d.lane n
    l.state == .search && l.pin.isNone && l.prio < prio && some n != notLane
  match minBy (fun n => (d.lane n).start) (cand.filter fun n => (d.lane n).isShadow) with
  | some n => some n
  | none => minBy (fun n => (d.lane n).start) cand

/-- A lane for a spawn: an idle one below the limit, otherwise a pre-empted one. -/
def Dev.findLane (d : Dev) (prio : Nat) (primary : Option Nat) : Option (Nat × Dev) :=
  let idle := if d.activeLanes < d.laneLimit then d.idleLane else none
  match idle with
  | some n => some (n, d)
  | none =>
    if d.on BASIN.CFG_PREEMPT_EN then (d.victim prio primary).map fun v => (v, d.cutLane v 4) else none

/-- A detection with no lane and no victim is dropped (R56). -/
def Dev.noLane (d : Dev) (x : Detection) : Dev :=
  let p := x.group.port
  let d := (d.inc (BASIN.NOLANE_COUNT p)).setF (if p == 0 then BASIN.EVENTS_NOLANE_A else BASIN.EVENTS_NOLANE_B)
  if d.on BASIN.CFG_DROP_REC then
    d.deliver ⟨[⟨Word.ofNat (0xB * 2 ^ 28 + p * 2 ^ 27 + x.group.bin * 2 ^ 21 + x.group.width * 2 ^ 19 + 0x7F * 2 ^ 12
        + x.group.profile * 2 ^ 9), .raw⟩, ⟨Word.ofNat (x.start / 1024), .time⟩, ⟨0#32, .time⟩, ⟨0#32, .raw⟩, ⟨0#32, .raw⟩,
        ⟨0#32, .int⟩, ⟨0#32, .dptr⟩, ⟨0#32, .raw⟩], p, none, none⟩
  else d

/-- The RSSI of a held lane in the tests of R51 to R53. -/
def Lane.rssi (l : Lane) : Int :=
  match l.state with
  | .demod => l.recRssi.getD l.syncRssi
  | _ => l.detRssi

/-- The lanes in SEARCH or DEMOD whose group overlaps a group (R51); a victim's waiting request counts as the SEARCH it is about to enter. -/
def Dev.heldLanes (d : Dev) (g : Group) : List Nat :=
  laneNos.filter fun n =>
    let l := d.lane n
    (l.state.running || l.waiting) && l.group.port == g.port && binsOverlap g.bin (binsOf g.width) l.group.bin (binsOf l.group.width)

/-- Whether a start lies on a lane's symbol grid within a quarter symbol (R51). -/
def onGrid (start laneStart mode : Nat) : Bool :=
  let dist := if laneStart ≤ start then start - laneStart else laneStart - start
  let r := dist * symbolRate mode % 33554432
  r ≤ 8388608 || 25165824 ≤ r

/-- Whether a detection is a continuation (R51). -/
def Dev.continues (d : Dev) (x : Detection) : Bool :=
  (d.heldLanes x.group).any fun n =>
    let l := d.lane n
    (l.state == .search || l.waiting) && onGrid x.start l.start l.copy.mode

/-- The held lane with the highest RSSI, then the lower number (R51). -/
def Dev.strongest (d : Dev) : List Nat → Option Nat
  | [] => none
  | a :: r =>
    match d.strongest r with
    | none => some a
    | some b => if (d.lane a).rssi < (d.lane b).rssi then some b else some a

/-- A new detection on held bins (R52), against held lane `h`. -/
def Dev.onHeld (d : Dev) (h : Nat) (x : Detection) : Dev :=
  let n := match (d.lane h).primary with
    | some p => p
    | none => h
  let l := d.lane n
  let capt : Int := 4 * d.rd BASIN.CFG_CAPT_DB
  let ignore (d : Dev) : Dev := d.inc (BASIN.IGNORED_COUNT x.group.port)
  match l.shadow with
  | some s => if (d.lane s).rssi + capt ≤ x.rssi then d.restartLane s x else ignore d
  | none =>
    if l.state == .demod && x.rssi < l.rssi + capt then ignore (d.modLane n fun y => { y with overlap := true })
    else
      let found := if d.on BASIN.CFG_SHADOW_EN then d.findLane x.prio (some n) else none
      match found with
      | some (s, d) => d.startLane s x (some n)
      | none =>
        if l.state == .demod then ignore (d.modLane n fun y => { y with captMissed := true })
        else if l.rssi + 4 * (d.rd BASIN.CFG_RESTART_DB : Int) ≤ x.rssi then d.restartLane n x
        else ignore d

/-- The pin slot that waits on a detector, if any; of several the lowest (log entry 105). -/
def Dev.waitingPin (d : Dev) (det : Nat) : Option Nat :=
  ((List.range 16).filter fun j =>
    match d.pinLane j with
    | some n => (d.lane n).state == .pinWait && d.pinDet j == det
    | none => false).head?

/-- One declaration is decided (R50 to R56).  One on the group of a waiting pin starts the pin's lane, also where it overlaps another lane
(log entry 105). -/
def Dev.decide_ (d : Dev) (x : Detection) : Dev :=
  if d.continues x then d
  else
    let det := x.group.port * 64 + x.group.bin
    let d := d.wr (BASIN.DET_LAST_RSSI det) (twos 8 (x.rssi.fdiv 4))
    match d.waitingPin det with
    | some j => d.startLane ((d.pinLane j).getD 0) x none
    | none =>
      match d.strongest (d.heldLanes x.group) with
      | some h => d.onHeld h x
      | none =>
        match d.findLane x.prio none with
        | some (n, d) => d.startLane n x none
        | none => d.noLane x

/-- The declarations `cs` in the order of R45. -/
def Dev.ordered (d : Dev) (cs : List Decl) : List Detection :=
  let dets : List Detection := cs.map fun c =>
    let boost := d.on BASIN.CFG_WIN_BOOST && d.boosted c.port c.bin c.width
    ⟨⟨c.port, c.bin, c.width, c.profile⟩, if boost then 3 else c.prio, c.start, c.rssi, c.zSum, c.zCount⟩
  let key (x : Detection) : Nat :=
    (3 - x.prio) * 256 + (if (d.heldLanes x.group).isEmpty then 0 else 128) + x.group.port * 64 + x.group.bin
  dets.mergeSort fun a b => key a ≤ key b

/-! ### The commands of Basin -/

/-- BASIN.CTRL.PORT_EN of port `p` is written (R38). -/
def Dev.portEnWrite (d : Dev) (p : Nat) (on : Bool) : Dev :=
  let d' := d.wrB (portEnFld p) on
  if on then d'.noteActive else if d.on (portEnFld p) then d'.abortPort p else d'

/-- A write of BASIN.CTRL. -/
def Dev.basinCtrlWrite (d : Dev) (v : Word) : Dev := (d.portEnWrite 0 (v.getLsbD 0)).portEnWrite 1 (v.getLsbD 1)

/-- PORT_EN. -/
def execPortEn (p : Fin 2) (on : Bool) (s : State) : Host.Outcome State Fault Refusal := onBus s 8 fun d => d.portEnWrite p.val on

/-- A gain change of port `p` to index `i` (R40). -/
def Dev.gainChange (d : Dev) (p i : Nat) : Dev :=
  let d := ((d.wr (BASIN.AGC_INDEX p) i).inc (BASIN.AGC_STEPS p)).setF (if p == 0 then BASIN.EVENTS_AGC_A else BASIN.EVENTS_AGC_B)
  laneNos.foldl (fun d n =>
    if (d.lane n).state.running && (d.lane n).group.port == p then d.modLane n fun l => { l with agcStep := true } else d) d

/-- AGC_STEP: in automatic mode the index moves by one within 0 to 7. -/
def execAgcStep (p : Fin 2) (up : Bool) (s : State) : Host.Outcome State Fault Refusal :=
  onDev s fun d =>
    let i := d.rd (BASIN.AGC_INDEX p.val)
    if d.on (BASIN.PCFG_AGC_FROZEN p.val) || !d.portActive p.val || d.blanked p.val then d
    else if up then (if i < 7 then d.gainChange p.val (i + 1) else d)
    else (if 0 < i then d.gainChange p.val (i - 1) else d)

/-- A write of BASIN.PCFG[p] (R40, R67). -/
def Dev.pcfgWrite (d : Dev) (p : Nat) (v : Word) : Dev :=
  let wasFrozen := d.on (BASIN.PCFG_AGC_FROZEN p)
  let old := d.rd (BASIN.PCFG_AGC_INDEX p)
  let d := d.setReg (BASIN.PCFG_at p) (v &&& 0x0F7F3F3F#32)
  let i := d.rd (BASIN.PCFG_AGC_INDEX p)
  if d.on (BASIN.PCFG_AGC_FROZEN p) then
    if wasFrozen then (if i != old then d.gainChange p i else d)
    else if i != d.rd (BASIN.AGC_INDEX p) then d.gainChange p i else d
  else if wasFrozen then d.gainChange p (d.rd (BASIN.AGC_INDEX p)) else d

/-- PREAMBLE_DECLARATION: the detector evaluates its window of MIN_SYM symbols and declares where R44's conditions hold; after a blanking the
window must lie after its end (R61). -/
def execPreambleDeclaration (det : Fin 128) (start : Stamp) (sample : Nat) (z : List Int) (power : Nat) (s : State) :
    Host.Outcome State Fault Refusal :=
  onDev s fun d =>
    let g := d.detGroup det.val
    let i := g.profileNo
    let rssi := d.rssiOf g.port power
    if !d.portActive g.port || d.blanked g.port || !d.on (BASIN.DET_EN det.val) then d
    else if d.detBad det.val then d.setF BASIN.EVENTS_BADCFG
    else if z.length == (d.profileCopy i).minSym && Store.get 0 d.basin.clearFrom g.port ≤ start.inst &&
        correlates (preamblePattern z.length) z (d.rd (BASIN.PMATCH_THR i)) 256 && 4 * d.rdS (BASIN.PMATCH_ED_FLOOR i) ≤ rssi then
      { d with basin := { d.basin with decls := d.basin.decls ++
        [⟨g.port, g.bin, g.width, g.profile, d.rd (BASIN.DET_PRIO det.val), start.inst, sample, rssi, z.sum, z.length⟩] } }
    else d

/-- ALLOCATION_WINDOW: pins acquire, then the declarations of the earliest window, 16 samples long, are decided in the order of R45; later
ones wait for their own. -/
def execAllocationWindow (s : State) : Host.Outcome State Fault Refusal :=
  onDev s fun d =>
    let d := d.acquirePins
    let now (c : Decl) : Bool := d.basin.decls.all fun x => c.sample / 16 ≤ x.sample / 16
    (d.ordered (d.basin.decls.filter now)).foldl Dev.decide_ { d with basin := { d.basin with decls := d.basin.decls.filter fun c => !now c } }

/-- A lane reaching sync reads one word from the free-buffer Flume (R57); a disabled Flume counts as an empty one (log entry 105). -/
def Dev.takeBuffer (d : Dev) (n p : Nat) : Option Word × Dev :=
  let fl := d.rd (BASIN.PCFG_BUF_FLUME p)
  let size := d.rd (BASIN.PCFG_BUF_SIZE p)
  let bytes := (if size == 0 || 64 < size then 64 else size) * 32
  if !d.flumeOn fl then (none, d)
  else match d.flumeTake fl with
    | none => (none, d)
    | some (r, d) =>
      if r.tag == .poison then (none, d.fault (mkUnitFault 0x05 1 n r.data.toNat fl))
      else
        let a := r.data.toNat
        if r.tag == .dptr && a % 32 == 0 && 0x500000 ≤ a && a + bytes ≤ 0x600000 then (some r.data, d)
        else (none, d.setF BASIN.EVENTS_BADCFG)

/-- Lane `n` goes to DEMOD with its buffer. -/
def Dev.toDemod (d : Dev) (n : Nat) (w : Word) : Dev :=
  (d.leaveSearch n).modLane n fun l => { l with state := .demod, buf := some w, isShadow := false }

/-- The air instant `t` lies within SYNC_TIMEOUT symbols of the declaration (R48), to within the 1/1,024 tick of the two instants. -/
def Lane.inTime (l : Lane) (t : Nat) : Bool :=
  (t - l.start - 1) * symbolRate l.copy.mode ≤ (l.copy.minSym + l.copy.syncTimeout) * 33554432

/-- The bit errors of sync-word samples against the sync word of a lane's mode (R140, R143): each symbol decided against the carrier offset;
none where the samples are not as many as the symbols. -/
def Lane.syncErrors (l : Lane) (coded : Bool) (z : List Int) : Option Nat :=
  let p := syncLevels l.copy.mode coded
  let four := l.copy.mode == 7
  let wrong (a b : Int) : Nat := if a == b then 0 else if !four then 1 else if (a - b).natAbs == 4 then 2 else 1
  if z.length == p.length then
    some (List.zipWith (fun a b => wrong (idealSymbol four (outerDev l.copy.mode) (b - meanOf l.zSum l.zCount)) a) p z).sum
  else none

/-- The sync word that samples match within SYNC_ERR bit errors: whether it is the coded SFD, which only SUN-FSK modes have (R145); the
uncoded one is tried first. -/
def Lane.syncFound (l : Lane) (z : List Int) : Option Bool :=
  let fits (coded : Bool) : Bool := match l.syncErrors coded z with
    | some e => e ≤ l.copy.syncErr
    | none => false
  if fits false then some false else if !nativeMode l.copy.mode && fits true then some true else none

/-- What a lane takes from its sync word (R65): the stamp, RSSI, LQI, the offset over detection window and sync word, and whether the frame is
coded. -/
def Lane.synced (l : Lane) (t : Nat) (coded : Bool) (rssi : Int) (z : List Int) : Lane :=
  { l with sync := some t, syncRssi := rssi, zSum := l.zSum + z.sum, zCount := l.zCount + z.length,
           foff := meanOf (l.zSum + z.sum) (l.zCount + z.length), lqi := lqiOf (syncLevels l.copy.mode coded) z,
           fec := l.copy.mode == 0 || coded }

/-- SYNC_MATCH: the lane takes a buffer and enters DEMOD, resolving against its primary (R53, R57); a primary whose last octet has ended by
then is complete, and the two part (R54). -/
def execSyncMatch (n : Fin 72) (tick : BitVec 48) (frac : BitVec 10) (z : List Int) (energy : Nat) (count : BitVec 16) (f : BitVec 10)
    (s : State) : Host.Outcome State Fault Refusal :=
  onDev s fun d =>
    let d := d.atFrac f
    let at_ : Stamp := ⟨tick, frac⟩
    let l := d.lane n.val
    match l.syncFound z with
    | none => d
    | some coded =>
      if l.state != .search || !l.inTime at_.inst then d
      else
        let rssi := d.rssiOf l.group.port (energy / count.toNat)
        let d := if l.primary.isSome && (d.lane (l.primary.getD 72)).doneBy at_.inst then d.unlink n.val else d
        let l := (d.lane n.val).synced at_.inst coded rssi z
        let d := d.setLane n.val l
        let p := l.primary.getD 72
        let capt := l.primary.isSome && (d.lane p).state == .demod
        if capt && rssi < (d.lane p).rssi + 4 * (d.rd BASIN.CFG_CAPT_DB : Int) then
          (d.modLane p fun x => { x with overlap := true }).endLane n.val 3 [] 0
        else
          match d.takeBuffer n.val l.group.port with
          | (none, d) =>
            let d := if capt then d.modLane p fun x => { x with captMissed := true } else d
            d.endLane n.val 6 [] 0
          | (some w, d) =>
            let d := if l.primary.isSome then
                let d := d.modLane p fun x => { x with shadowed := true }
                if capt then d.captureLane p at_.inst else d.endLane p 1 [] 0
              else d
            d.toDemod n.val w

/-- SYNC_TIMEOUT: SYNC_TIMEOUT symbols have passed since the declaration (R48), to within the 1/1,024 tick of the two instants. -/
def execSyncTimeout (n : Fin 72) (at_ : Stamp) (s : State) : Host.Outcome State Fault Refusal :=
  onDev s fun d =>
    let l := d.lane n.val
    if l.state == .search && (l.copy.minSym + l.copy.syncTimeout) * 33554432 < (at_.inst - l.start + 1) * symbolRate l.copy.mode then
      d.endLane n.val 1 [] 0
    else d

/-- Samples of a lane in DEMOD enter its two EVM sums (R65). -/
def Lane.measured (l : Lane) (four : Bool) (z : List Int) : Lane :=
  let s := evmSums four (outerDev l.copy.mode) l.foff z
  { l with evmErr := l.evmErr + s.1, evmRef := l.evmRef + s.2 }

/-- The EVM of a lane. -/
def Lane.evm (l : Lane) : Nat := evmOf l.evmErr l.evmRef

/-- PHR_END: the record RSSI freezes; a header of R146's bad cases ends the lane with BADLEN. -/
def execPhrEnd (n : Fin 72) (phr : BitVec 16) (z : List Int) (power : Nat) (s : State) : Host.Outcome State Fault Refusal :=
  onDev s fun d =>
    let l := d.lane n.val
    if l.state != .demod || l.recRssi.isSome then d
    else
      let h := decodePhr l.copy.mode phr
      let size := d.rd (BASIN.PCFG_BUF_SIZE l.group.port)
      let bytes := (if size == 0 || 64 < size then 64 else size) * 32
      let l := { l with recRssi := some (d.rssiOf l.group.port power), phrLen := h.len, fcs32 := h.fcs32, whitened := h.whitened }
      let l := l.measured (l.copy.mode == 7) z
      let d := d.setLane n.val l
      if h.ok && h.len ≤ modeMax l.copy.mode && h.len ≤ bytes then d else d.endLane n.val 5 [] l.evm

/-- LAST_OCTET: the PSDU is complete and the lane drains with OK, its octets in the clear (R147). -/
def execLastOctet (n : Fin 72) (octets : List Byte) (z : List Int) (s : State) : Host.Outcome State Fault Refusal :=
  onDev s fun d =>
    let l := d.lane n.val
    if l.state == .demod && l.recRssi.isSome && octets.length == l.phrLen then
      d.endLane n.val 0 (dewhiten l.whitened octets) (l.measured (fourLevel l.copy.mode) z).evm
    else d

/-- FADE: the lane drains with FADE unless FADE_SYM disables it; before the end of its header it has no octets. -/
def execFade (n : Fin 72) (octets : List Byte) (z : List Int) (s : State) : Host.Outcome State Fault Refusal :=
  onDev s fun d =>
    let l := d.lane n.val
    if l.state == .demod && l.copy.fadeSym != 0 then
      if l.recRssi.isSome then
        d.endLane n.val 7 (dewhiten l.whitened (octets.take l.phrLen)) (l.measured (fourLevel l.copy.mode) z).evm
      else d.endLane n.val 7 [] (l.measured (l.copy.mode == 7) z).evm
    else d

/-- The lane's DRAIN ends (R48, R55, R60): its record is delivered; the lane serves the request that chose it, returns to its pin's group
or to the pool. -/
def Dev.drainEnd (d : Dev) (n : Nat) : Dev :=
  let l := d.lane n
  if l.state != .drain then d
  else
    let d := match l.drain with
      | some r => d.deliver r
      | none => d
    if l.waiting then
      let d := d.modLane n fun x => { x with state := .search, waiting := false, drain := none }
      if d.blanked l.group.port then d.cutLane n 8 else if d.portActive l.group.port then d else d.cutLane n 9
    else match l.pin with
      | some j => (d.toPinWait j n).acquirePins
      | none => (d.toIdle n).acquirePins

/-- LANE_DRAIN_END. -/
def execLaneDrainEnd (n : Fin 72) (s : State) : Host.Outcome State Fault Refusal := onDev s fun d => d.drainEnd n.val

/-- A write of BASIN.LANE_ABORT (R67). -/
def Dev.laneAbortWrite (d : Dev) (v : Word) : Dev :=
  let n := bitsOf v 0 7
  let d := if v.getLsbD 7 && n < 72 then d.cutLane n 9 else d
  let d := if v.getLsbD 8 then laneNos.foldl (fun d n => if (d.lane n).group.port == 0 then d.cutLane n 9 else d) d else d
  if v.getLsbD 9 then laneNos.foldl (fun d n => if (d.lane n).group.port == 1 then d.cutLane n 9 else d) d else d

/-- LANE_ABORT. -/
def execLaneAbort (n : Fin 72) (s : State) : Host.Outcome State Fault Refusal :=
  onBus s 8 fun d => d.laneAbortWrite (Word.ofNat (n.val + 128))

/-- LANE_ABORT_ALL. -/
def execLaneAbortAll (p : Fin 2) (s : State) : Host.Outcome State Fault Refusal :=
  onBus s 8 fun d => d.laneAbortWrite (Word.ofNat (if p.val == 0 then 256 else 512))

/-- BLANK_END: 20 µs after relock at fc the port is unblanked (R61). -/
def execBlankEnd (p : Fin 2) (s : State) : Host.Outcome State Fault Refusal :=
  onDev s fun d =>
    let r := Store.get Rf.idle d.rf p.val
    if r.syn.blanked && d.rd (RF.SYN_STATUS_STATE p.val) == synRX then
      ({ d with rf := Store.put Rf.idle d.rf p.val { r with syn := { r.syn with blanked := false } },
                basin := { d.basin with clearFrom := Store.put 0 d.basin.clearFrom p.val d.rfNow } } : Dev).noteActive
    else d

end Sys2Proof.Machine
end

