-- ==== Sys2Proof/Machine/WeirOps.lean ====
section
/-! DEFINITION. The Weir: band records, the duty ledger, clearance, the supply rule (chapter 05). -/

namespace Sys2Proof.Machine

/-- Port `p`'s synthesiser and transmit chain. -/
def Dev.rfp (d : Dev) (p : Nat) : Rf := Store.get Rf.idle d.rf p

/-- Replaces port `p`'s synthesiser and transmit chain. -/
def Dev.setRf (d : Dev) (p : Nat) (r : Rf) : Dev := { d with rf := Store.put Rf.idle d.rf p r }

/-- Changes port `p`'s synthesiser. -/
def Dev.modSyn (d : Dev) (p : Nat) (f : Syn → Syn) : Dev := d.setRf p { d.rfp p with syn := f (d.rfp p).syn }

/-- Changes port `p`'s transmit chain. -/
def Dev.modTx (d : Dev) (p : Nat) (f : Tx → Tx) : Dev := d.setRf p { d.rfp p with tx := f (d.rfp p).tx }

/-- The centre frequency in force on port `p` (R77, R104): the former one while a retune is held. -/
def Dev.centreHz (d : Dev) (p : Nat) : Nat := (d.rfp p).syn.fcWas.getD (d.rd (RF.FC_FREQ_HZ p))

/-! ### Records (R121, R122) -/

/-- Whether record `b` covers an emission at carrier `f` in a mode (R122). -/
def Dev.covers (d : Dev) (b f mode : Nat) : Bool :=
  d.on (WEIR.COND_VALID b) && d.rd (WEIR.LO_HZ b) + modeBW mode / 2 ≤ f && f + modeBW mode / 2 ≤ d.rd (WEIR.HI_HZ b)

/-- The covering records in order. -/
def Dev.coverList (d : Dev) (f mode : Nat) : List Nat := (List.range 8).filter fun b => d.covers b f mode

/-- P_MAX of a record, limited to −40 to 108 (R136). -/
def Dev.pMax (d : Dev) (b : Nat) : Int := max (-40) (min 108 (d.rdS (WEIR.PWR_P_MAX b)))

/-- MAXTX_MS of a record; 0 acts as 1. -/
def Dev.maxTx (d : Dev) (b : Nat) : Nat := max 1 (d.rd (WEIR.PWR_MAXTX_MS b))

/-- The budget of a record in µs (R130). -/
def Dev.budget (d : Dev) (b : Nat) : Nat := min 1000000 (d.rd (WEIR.DUTY_DUTY_PPM b)) * 3600

/-- The number of the current bucket: a boundary that the latest edge passed counts, whether or not it has been served. -/
def Dev.bucketNow (d : Dev) : Nat := d.weir.bucket + d.clep.bucketDue.toNat

/-- The charge of the bucket `age` buckets back of record `b`. -/
def Dev.bucketCharge (d : Dev) (b age : Nat) : Nat :=
  if age ≤ d.bucketNow then Store.get 0 d.weir.ledger ((d.bucketNow - age) * 8 + b) else 0

/-- USED of R130: the charges of the 60 buckets of the window. -/
def Dev.used (d : Dev) (b : Nat) : Nat := ((List.range 60).map fun a => d.bucketCharge b a).sum

/-- What port `p`'s granted transmission reserves under record `b`. -/
def Dev.reservedBy (d : Dev) (p b : Nat) : Nat :=
  match (d.rfp p).tx.now with
  | some t => if t.granted && t.cover.contains b then t.predicted else 0
  | none => 0

/-- RESV of R130. -/
def Dev.resv (d : Dev) (b : Nat) : Nat := d.reservedBy 0 b + d.reservedBy 1 b

/-- REMAIN of R130, signed. -/
def Dev.remain (d : Dev) (b : Nat) : Int := (d.budget b : Int) - d.used b - d.resv b

/-- The predicted PA-off of port `p`'s granted transmission under record `b`. -/
def Dev.predictedOff (d : Dev) (p b : Nat) : Nat :=
  match (d.rfp p).tx.now with
  | some t => if t.granted && t.cover.contains b then t.req.e + usCeil t.predicted else 0
  | none => 0

/-- last-off of record `b` (R129); none where it has charged nothing and nothing granted under it runs. -/
def Dev.lastOff (d : Dev) (b : Nat) : Option Nat :=
  let p := max (d.predictedOff 0 b) (d.predictedOff 1 b)
  match Store.get none d.weir.lastOff b with
  | some m => some (max m p)
  | none => if p == 0 then none else some p

/-- Whether the off-time check of record `b` fails for a ramp at `e` (R128). -/
def Dev.offTimeFails (d : Dev) (b e : Nat) : Bool :=
  match d.lastOff b with
  | some m => ((e : Int) - m) * 15625 < ((d.rd (WEIR.COND_OFF_MS b) * 1000 * 524288 : Nat) : Int)
  | none => false

/-! ### Clearance (R128) -/

/-- The answer to a clearance. -/
inductive Clearance where
  | grant (cover : List Nat) (power : Int) (clamped : Bool)
  | refuse (why record : Nat)
  | paOther
  deriving DecidableEq, Repr

/-- WEIR.STATUS.SUPPLY_OK of a port. -/
def supplyOkFld (p : Nat) : Fld := if p == 0 then WEIR.STATUS_SUPPLY_OK_A else WEIR.STATUS_SUPPLY_OK_B

/-- WEIR.STATUS.VPA_LOW of a port. -/
def vpaLowFld (p : Nat) : Fld := if p == 0 then WEIR.STATUS_VPA_LOW_A else WEIR.STATUS_VPA_LOW_B

/-- Whether the other port's granted or running PA-on interval overlaps `e` to `e` + `us` (R113): the end of one that runs past its prediction
is not known, and may overlap anything later. -/
def Dev.otherPa (d : Dev) (p e us : Nat) : Bool :=
  match (d.rfp (1 - p)).tx.now with
  | some t =>
    let a := t.rampStart.getD t.req.e
    let off := a + usCeil t.predicted
    t.granted && a < e + usCeil us && (e < off || (t.rampStart.isSome && off ≤ d.rfNow))
  | none => false

/-- The record of smallest MAXTX_MS among those given, of equals the lowest-numbered (R134). -/
def Dev.dwellRecord (d : Dev) : List Nat → Option Nat
  | [] => none
  | b :: r =>
    match d.dwellRecord r with
    | none => some b
    | some c => if d.maxTx c < d.maxTx b then some c else some b

/-- The record that a dwell cut names, and its limit in µs, as they stand at a clearance (R127, R134). -/
def Dev.dwellOf (d : Dev) (cover : List Nat) : Nat × Nat :=
  match d.dwellRecord cover with
  | some b => (b, d.maxTx b * 1000)
  | none => (0, 0)

/-- The lowest P_MAX of covering records (R122). -/
def Dev.lowestPMax (d : Dev) : List Nat → Int
  | [] => 108
  | b :: r => min (d.pMax b) (d.lowestPMax r)

/-- The Weir's checks in the order of R128, for a power after the PACAL trim. -/
def Dev.clearance (d : Dev) (p freq mode : Nat) (power : Int) (us e : Nat) : Clearance :=
  let cov := d.coverList freq mode
  let first (f : Nat → Bool) : Option Nat := (cov.filter f).head?
  if d.on WEIR.STATUS_SILENT then .refuse 6 0
  else if !d.on (supplyOkFld p) then .refuse 5 0
  else if cov.isEmpty then .refuse 1 0
  else match first fun b => d.maxTx b * 1000 < us with
    | some b => .refuse 2 b
    | none => match first fun b => d.offTimeFails b e with
      | some b => .refuse 3 b
      | none => match first fun b => d.remain b < us with
        | some b => .refuse 4 b
        | none =>
          if d.otherPa p e us then .paOther
          else
            let m := d.lowestPMax cov
            .grant cov (min power m) (m < power)

/-- The EVENTS bit of a refusal reason. -/
def weirEventFld : Nat → Fld
  | 1 => WEIR.EVENTS_FREQ | 2 => WEIR.EVENTS_DWELL | 3 => WEIR.EVENTS_OFFTIME | 4 => WEIR.EVENTS_DUTY | _ => WEIR.EVENTS_SUPPLY

/-- WEIR.LAST takes a reason, record and port (R136). -/
def Dev.weirLast (d : Dev) (p why record : Nat) : Dev :=
  (((d.wr WEIR.LAST_WHY why).wr WEIR.LAST_RECORD record).wr WEIR.LAST_PORT p).wr WEIR.LAST_TICK d.tick

/-- A refusal is counted (R128). -/
def Dev.weirRefuse (d : Dev) (p why record : Nat) : Dev :=
  ((d.inc WEIR.REFUSALS_COUNT).setF (weirEventFld why)).weirLast p why record

/-- A cut is counted (R134). -/
def Dev.weirCut (d : Dev) (p why record : Nat) : Dev := (d.setF WEIR.EVENTS_CUT).weirLast p why record

/-- Charges `us` for a ramp at `e` under each covering record, PA off at `off` (R131). -/
def Dev.charge (d : Dev) (cover : List Nat) (e us off : Nat) : Dev :=
  let back := d.tick / 1966080 - e / 1024 / 1966080
  cover.foldl (fun d b =>
    let k := (d.bucketNow - back) * 8 + b
    { d with weir := { d.weir with ledger := Store.put 0 d.weir.ledger k (Store.get 0 d.weir.ledger k + us),
                                   lastOff := Store.put none d.weir.lastOff b (some off) } }) d

/-- Whether any record's ledger window still holds a cold-hold charge (R132). -/
def Dev.anyCold (d : Dev) : Bool :=
  (List.range 8).any fun b =>
    match Store.get none d.weir.cold b with
    | some k => d.bucketNow < k + 60
    | none => false

/-- The 60 s boundary (R130): the oldest bucket leaves each window and a new one opens empty. -/
def Dev.nextBucket (d : Dev) : Dev :=
  let k := d.weir.bucket + 1
  let d := { d with weir := { d.weir with bucket := k, ledger := Store.keep (fun j _ => k < j / 8 + 60) d.weir.ledger } }
  d.wrB WEIR.STATUS_COLD d.anyCold

/-- Serves the bucket boundary that the latest edge left, if any. -/
def Dev.settleBucket (d : Dev) : Dev :=
  if d.clep.bucketDue then ({ d with clep := { d.clep with bucketDue := false } } : Dev).nextBucket else d

/-- The ledger, empty after C or W, takes the cold-hold charges in the bucket of the first TICK (R132). -/
def Dev.coldLedger (d : Dev) : Dev :=
  let d := (List.range 8).foldl (fun d b =>
    if d.on (WEIR.COND_COLD_HOLD b) then
      { d with weir := { d.weir with ledger := Store.put 0 d.weir.ledger b (d.budget b), cold := Store.put none d.weir.cold b (some 0) } }
    else d) d
  d.wrB WEIR.STATUS_COLD d.anyCold

/-- VPA_WARN in mV (R123). -/
def Dev.vpaWarn (d : Dev) : Nat := 2000 + 10 * clampN 80 200 (d.rd WEIR.SUPPLY_VPA_WARN)

/-- The level of VPA in mV that the latest command reported for port `p`; 3,600 before any (log entry 107). -/
def Dev.vpa (d : Dev) (p : Nat) : Nat := Store.get 3600 d.weir.vpa p

/-- The 1 ms of port `p`'s supply rule runs from the present instant (R133). -/
def Dev.supplyRestartPort (d : Dev) (p : Nat) : Dev :=
  { d with weir := { d.weir with supplyFrom := Store.put 0 d.weir.supplyFrom p d.rfNow } }

/-- The supply rule starts forbidden on both ports at the present instant (R133). -/
def Dev.supplyRestart (d : Dev) : Dev :=
  let d := (d.supplyRestartPort 0).supplyRestartPort 1
  (d.wr WEIR.STATUS_SUPPLY_OK_A 0).wr WEIR.STATUS_SUPPLY_OK_B 0

/-- LEDGER_BUCKET_BOUNDARY: the boundary the latest edge passed is served. -/
def execLedgerBucketBoundary (s : State) : Host.Outcome State Fault Refusal := onDev s fun d => d.settleBucket

/-- VPA of port `p` stands at `mv`, and STATUS.VPA_LOW shows whether that is below VPA_WARN (R136). -/
def Dev.vpaStands (d : Dev) (p mv : Nat) : Dev :=
  let d := { d with weir := { d.weir with vpa := Store.put 3600 d.weir.vpa p mv } }
  d.wrB (vpaLowFld p) (mv < d.vpaWarn)

/-- SUPPLY_RULE_RELEASE (R133): transmission on a port is allowed again where VMAIN has recovered, the port's VPA stands at least
50 mV above VPA_WARN, and 1 ms has passed, to within the unit of the two instants (log entry 7), since the latest option-area load, wake or
low level of VPA. -/
def execSupplyRuleRelease (v : VpaReport) (s : State) : Host.Outcome State Fault Refusal :=
  onDev s fun d =>
    let d := (d.atFrac v.f).vpaStands v.port.val v.mv.toNat
    if !d.on WEIR.STATUS_VMAIN_LOW && d.vpaWarn + 50 ≤ v.mv.toNat && Store.get 0 d.weir.supplyFrom v.port.val + usCeil 1000 ≤ d.rfNow + 1 then
      d.wr (supplyOkFld v.port.val) 1
    else d

end Sys2Proof.Machine
end

