-- ==== Sys2Proof/Machine/RfOps.lean ====
section
/-! DEFINITION. The synthesisers and transmit chains: states, calibration cache, requests, claim, clearance, ramp, report (chapter 04). -/

namespace Sys2Proof.Machine

/-! ### The synthesiser (R102 to R107) -/

/-- RFx.SYN_STATUS.STATE. -/
def Dev.syn (d : Dev) (p : Nat) : Nat := d.rd (RF.SYN_STATUS_STATE p)

/-- Sets RFx.SYN_STATUS.STATE. -/
def Dev.setSyn (d : Dev) (p v : Nat) : Dev := d.wr (RF.SYN_STATUS_STATE p) v

/-- The states 4 to 7: claimed (R102). -/
def Dev.claimed (d : Dev) (p : Nat) : Bool := 4 ≤ d.syn p

/-- Whether the synthesiser can be powered: Wellspring leaves the RF on and Sluice has not fenced it. -/
def Dev.synPowered (d : Dev) (p : Nat) : Bool := d.running && !d.fencedPort 6 p

/-- The segment number of a frequency (R106). -/
def segment (f : Nat) : Nat := f / 2000000

/-- Whether a frequency hits the calibration cache at the present junction temperature (R106). -/
def Dev.cacheHit (d : Dev) (p f : Nat) : Bool :=
  (d.rfp p).syn.cache.any fun e => e.1 == segment f && (e.2 - d.junction).natAbs ≤ 15

/-- A cache entry that is used becomes the most recently used. -/
def Dev.touchCache (d : Dev) (p f : Nat) : Dev :=
  d.modSyn p fun s => { s with cache := s.cache.filter (fun e => e.1 == segment f) ++ s.cache.filter (fun e => e.1 != segment f) }

/-- A calibration's segment is stored, replacing the least recently used of 16 (R106). -/
def Dev.storeCache (d : Dev) (p f : Nat) : Dev :=
  d.modSyn p fun s => { s with cache := ((segment f, d.junction) :: s.cache.filter fun e => e.1 != segment f).take 16 }

/-- Removes a segment from the cache (R105). -/
def Dev.dropCache (d : Dev) (p f : Nat) : Dev := d.modSyn p fun s => { s with cache := s.cache.filter fun e => e.1 != segment f }

/-- The synthesiser turns toward `f` in the state pair (calibrating, locking) of the receiver or of a claim. -/
def Dev.tuneTo (d : Dev) (p f calState lockState : Nat) : Dev :=
  let d := d.modSyn p fun s => { s with calFreq := f }
  if d.cacheHit p f then (d.touchCache p f).setSyn p lockState else d.setSyn p calState

/-- The synthesiser is OFF; a held FC write is in force (R104). -/
def Dev.synOff (d : Dev) (p : Nat) : Dev := (d.modSyn p fun s => { s with fcWas := none }).setSyn p 0

/-- An unclaimed synthesiser turns to fc, a held FC write applying; or to OFF with EN = 0 or without power (R103, R104). -/
def Dev.returnToFc (d : Dev) (p : Nat) : Dev :=
  let d := d.modSyn p fun s => { s with fcWas := none }
  if !d.on (RF.SYN_CTRL_EN p) || !d.synPowered p then d.setSyn p 0
  else
    let d := d.tuneTo p (d.rd (RF.FC_FREQ_HZ p)) 1 2
    if d.syn p == 1 then d.blankStart p else d

/-- A write of SYN_CTRL.EN (R103): 0 while claimed or calibrating takes effect when the synthesiser returns. -/
def Dev.synEnWrite (d : Dev) (p : Nat) (on : Bool) : Dev :=
  let d := d.wrB (RF.SYN_CTRL_EN p) on
  if on then (if d.syn p == 0 && (d.rfp p).tx.now.isNone then d.returnToFc p else d)
  else if d.syn p == 2 || d.syn p == 3 then
    let d := d.abortPort p
    d.setSyn p 0
  else d

/-- A write of RFx.FC (R104): the field takes the value at once; while the synthesiser calibrates or is claimed the retune is held. -/
def Dev.fcWrite (d : Dev) (p f : Nat) : Dev :=
  if f < 410000000 || 960000000 < f then d.setF (RF.EVENTS_BADFREQ p)
  else
    let held := d.syn p == 1 || d.claimed p
    let was := d.centreHz p
    let d := d.wr (RF.FC_FREQ_HZ p) f
    if held then d.modSyn p fun s => { s with fcWas := some was }
    else if d.syn p == 0 then d
    else (d.blankStart p).returnToFc p

/-- Whether a held CAL request must wait (R107). -/
def Dev.calWaits (d : Dev) (p : Nat) : Bool :=
  d.syn p == 0 || d.syn p == 1 || d.claimed p || !d.synPowered p ||
    (d.rfp p).tx.scheds.any fun t => t.q ≤ d.rfNow + usCeil 300

/-- A held CAL request starts if nothing holds it (R107). -/
def Dev.calStart (d : Dev) (p : Nat) : Dev :=
  match (d.rfp p).syn.heldCal with
  | some f =>
    if d.calWaits p then d
    else ((d.blankStart p).modSyn p fun s => { s with heldCal := none, calFreq := f }).setSyn p 1
  | none => d

/-- RFx.CAL.GO (R107): a new request replaces the held one. -/
def Dev.calGo (d : Dev) (p f : Nat) : Dev := (d.modSyn p fun s => { s with heldCal := some f }).calStart p

/-- RFx.CAL.FLUSH (R107). -/
def Dev.calFlush (d : Dev) (p : Nat) : Dev := d.modSyn p fun s => { s with cache := [] }

/-- A write of RFx.CAL. -/
def Dev.calWrite (d : Dev) (p : Nat) (v : Word) : Dev :=
  let d := if v.getLsbD 30 then d.calFlush p else d
  if v.getLsbD 31 then d.calGo p (bitsOf v 0 30) else d

/-! ### Requests (R108 to R112) -/

/-- RFx.TXCFG.PREP as it acts. -/
def Dev.prep (d : Dev) (p : Nat) : Nat := max 130 (d.rd (RF.TXCFG_PREP p))

/-- RFx.RAMP.US as it acts. -/
def Dev.rampUs (d : Dev) (p : Nat) : Nat := clampN 2 32 (d.rd (RF.RAMP_US p))

/-- The claim lead in µs for a frequency (R111). -/
def Dev.claimLead (d : Dev) (p f : Nat) : Nat :=
  d.prep p + (if d.cacheHit p f then 0 else 160) + (if d.syn p == 0 then 40 else 0)

/-- The predicted PA-on time in µs (R111). -/
def Dev.predictedUs (d : Dev) (p : Nat) (t : TxReq) (x : TxDesc) : Nat := airTime t.mode x.fec x.len + 2 * d.rampUs p

/-- The end of a request's span (R112). -/
def Dev.spanEnd (d : Dev) (p : Nat) (t : TxReq) : Nat :=
  let pred := match t.desc with
    | some x => d.predictedUs p t x
    | none => 0
  t.e + usCeil (max (if t.sched then t.res else 0) pred + 130)

/-- Whether a request's span meets that of a scheduled start (R112). -/
def Dev.spansMeet (d : Dev) (p : Nat) (a b : TxReq) : Bool := a.q < d.spanEnd p b && b.q < d.spanEnd p a

/-- The scheduled starts held, the claimed one among them. -/
def Dev.heldScheds (d : Dev) (p : Nat) : List TxReq :=
  let tx := (d.rfp p).tx
  match tx.now with
  | some t => if t.req.sched && t.ending.isNone then t.req :: tx.scheds else tx.scheds
  | none => tx.scheds

/-! ### Reports (R116, R118) -/

/-- The fields of a report. -/
structure Report where
  id : TWord
  outcome : Nat
  why : Nat
  ctr : Nat
  power : Int
  clamped : Bool
  cal : Bool
  rampStart : Option Nat
  ramp : Nat
  paOn : Nat
  deriving DecidableEq, Repr

/-- Writes a report and counts the outcome (R118, R120). -/
def Dev.report (d : Dev) (p : Nat) (r : Report) : Dev :=
  let b (v : Bool) (k : Nat) : Nat := if v then 2 ^ k else 0
  let start := match r.rampStart with
    | some s => s + r.ramp * 524288 / 15625
    | none => 0
  let w1 := r.outcome * 2 ^ 28 + r.why * 2 ^ 24 + p * 2 ^ 23 + r.ctr * 2 ^ 15 + twos 9 r.power * 2 ^ 6 + b r.clamped 5 + b r.cal 4
    + b r.rampStart.isSome 3
  let fl := d.rd (RF.TXCFG_RES_FLUME p)
  let lost := d.flumeDrops fl 4
  let d := d.flumeWrite fl (group [r.id, ⟨Word.ofNat w1, .raw⟩, ⟨Word.ofNat (start / 1024), .time⟩,
    ⟨Word.ofNat (start % 1024 * 2 ^ 22 + r.paOn % 2 ^ 22), .raw⟩])
  let d := if lost then d.setF (RF.EVENTS_REPDROP p) else d
  let d := if r.outcome == 0 then d.inc (RF.SENT_COUNT p) else d.inc (RF.FAILED_COUNT p)
  let d := if r.outcome == 6 || r.outcome == 7 then d.setF (RF.EVENTS_REFUSED p) else d
  let d := if r.outcome == 0xB then d.setF (RF.EVENTS_BADDESC p) else d
  if r.rampStart.isSome && 8 ≤ r.outcome && r.outcome ≤ 0xA then d.setF (RF.EVENTS_CUT p) else d

/-- The power of steps 1 and 2 of R108. -/
def Dev.trimmed (d : Dev) (p : Nat) (x : TxDesc) : Int := x.power + d.rdS (RF.PACAL_TRIM p)

/-- The range of step 4 of R108. -/
def paRange (v : Int) : Int := max (-40) (min 108 v)

/-- The ID word of a request. -/
def TxReq.idWord (t : TxReq) : TWord := ⟨t.id, if t.sched then .ctx else .nat⟩

/-- A request that never claimed, or whose ramp never started, ends with a report (R116). -/
def Dev.reportReq (d : Dev) (p : Nat) (t : TxReq) (outcome why : Nat) (cal : Bool) : Dev :=
  let power := match t.desc with
    | some x => paRange (d.trimmed p x)
    | none => 0
  d.report p ⟨t.idWord, outcome, why, t.ctr, power, false, cal, none, 0, 0⟩

/-! ### Endings -/

/-- The claimed transmission ends without a ramp (R103, R117): the reservation goes with no charge; a calibration under way runs to its
end first. -/
def Dev.endNow (d : Dev) (p outcome why : Nat) : Dev :=
  match (d.rfp p).tx.now with
  | none => d
  | some t =>
    if t.ending.isSome then d
    else
      let d := match t.granted, t.req.desc with
        | true, _ => d.report p ⟨t.req.idWord, outcome, why, t.req.ctr, t.power, t.clamped, t.cal, none, 0, 0⟩
        | false, _ => d.reportReq p t.req outcome why t.cal
      if d.syn p == 4 then d.modTx p fun x => { x with now := some { t with ending := some (outcome, why), granted := false } }
      else (d.modTx p fun x => { x with now := none }).returnToFc p

/-- The claimed transmission in TX_ON ramps down early with an outcome, a supply dip's or a Weir cut's in 2 µs (R117); before E it ends
without a ramp. -/
def Dev.stopNow (d : Dev) (p outcome why : Nat) : Dev :=
  match (d.rfp p).tx.now with
  | none => d
  | some t =>
    if t.rampStart.isSome then
      if t.ending.isSome then d
      else d.modTx p fun x => { x with now := some { t with
        ending := some (outcome, why), down := some ⟨d.rfNow, if outcome == 8 || outcome == 9 then 2 else t.ramp⟩ } }
    else d.endNow p outcome why

/-- Every held request of a port, unclaimed, ends with an outcome. -/
def Dev.endHeld (d : Dev) (p outcome : Nat) (free scheds : Bool) : Dev :=
  let tx := (d.rfp p).tx
  let d := d.modTx p fun x => { x with free := if free then none else x.free, scheds := if scheds then [] else x.scheds }
  let d := if scheds then tx.scheds.foldl (fun d t => d.reportReq p t outcome 0 false) d else d
  match tx.free with
  | some t => if free then d.reportReq p t outcome 0 false else d
  | none => d

/-- A supply dip reaches port `p` (R114, R117): a granted ramp does not start and counts as a refusal; a running one ends SUPPLY. -/
def Dev.supplyDip (d : Dev) (p : Nat) : Dev :=
  match (d.rfp p).tx.now with
  | none => d
  | some t =>
    if t.rampStart.isSome then d.stopNow p 8 0
    else if t.granted then (d.weirRefuse p 5 0).endNow p 6 5 else d

/-- The Weir cuts port `p` (R134): a running transmission ends SILENCED; a granted one is refused before its ramp. -/
def Dev.weirCutPort (d : Dev) (p why record : Nat) : Dev :=
  match (d.rfp p).tx.now with
  | none => d
  | some t =>
    if t.rampStart.isSome then (if t.ending.isNone then (d.weirCut p why record).stopNow p 9 why else d)
    else if t.granted then d.endNow p 6 why else d

/-- The Weir's self-check has failed (R134): SILENT until the next load, and both ports' transmitters cut with WHY 6. -/
def Dev.weirFails (d : Dev) : Dev :=
  let d := (d.wr WEIR.STATUS_SILENT 1).wr WEIR.STATUS_HEALTHY 0
  (d.weirCutPort 0 6 0).weirCutPort 1 6 0

/-- VPA of port `p` stands at `mv` (R133): below VPA_WARN, transmission is forbidden, and the 1 ms of its release starts again. -/
def Dev.vpaLevel (d : Dev) (p mv : Nat) : Dev :=
  let d := d.vpaStands p mv
  if mv < d.vpaWarn then (((d.supplyRestartPort p).wr (supplyOkFld p) 0).supplyDip p) else d

/-- A FATAL fault is latched (R352 step 1): Sluice's record, and both ports' transmitters cut with WHY 7. -/
def Dev.fatal (d : Dev) (f : FaultInfo) : Dev := ((d.latchFatal f).weirCutPort 0 7 0).weirCutPort 1 7 0

/-- Wellspring turns port `p`'s RF off (R103, R106, R117): a running transmission ramps down with POWERDOWN, a claimed one ends, the lanes
end ABORTED and a calibration is abandoned. -/
def Dev.rfOff (d : Dev) (p : Nat) : Dev :=
  let d := d.abortPort p
  let running := match (d.rfp p).tx.now with
    | some t => t.rampStart.isSome
    | none => false
  if running then d.stopNow p 0xA 0
  else
    let d := if d.syn p == 4 then d.setSyn p 5 else d
    let d := d.endNow p 0xA 0
    (d.modTx p fun x => { x with now := none }).synOff p

/-- Sluice fences port `p`'s synthesiser (R103, R105): at once OFF, the lanes end ABORTED, a calibration is abandoned.  A claimed request
will fail NOLOCK at C, and one already granted fails NOLOCK at once (log entry 108); a transmission in TX_ON runs to its PA off. -/
def Dev.fenceSyn (d : Dev) (p : Nat) : Dev :=
  let d := d.abortPort p
  match (d.rfp p).tx.now with
  | some t =>
    if t.rampStart.isSome then d
    else if t.ending.isSome then (d.modTx p fun x => { x with now := none }).synOff p
    else if t.granted then (d.endNow p 4 0).synOff p
    else (d.modTx p fun x => { x with now := some { t with lockFailed := true } }).synOff p
  | none => d.synOff p

/-- Sluice fences port `p`'s transmit chain (R28): a running transmission ramps down, and every request ends, with POWERDOWN (log entry 108);
the synthesiser goes on serving the receiver. -/
def Dev.fenceTx (d : Dev) (p : Nat) : Dev := (d.endHeld p 0xA true true).stopNow p 0xA 0

/-! ### Scheduled starts (R94, R110, R112) -/

/-- Lathe places a scheduled start (R94): NOSLOT beyond four; a free transmission not yet claimed whose span it meets fails CONFLICT. -/
def Dev.placeStart (d : Dev) (p : Nat) (handle : Word) (ctr e freq mode res : Nat) : Dev :=
  let t : TxReq := ⟨true, handle, ctr % 256, false, e, freq, mode, res, e - usCeil (d.claimLead p freq), none⟩
  if 4 ≤ (d.heldScheds p).length then d.reportReq p t 0xC 0 false
  else
    let d := match (d.rfp p).tx.free with
      | some f => if !f.asap && d.spansMeet p f t then (d.modTx p fun x => { x with free := none }).reportReq p f 0xE 0 false else d
      | none => d
    d.modTx p fun x => { x with scheds := x.scheds ++ [t] }

/-- Whether the start of a handle and counter is still in the chain, and whether its ramp has started (R95). -/
def Dev.startState (d : Dev) (p : Nat) (handle : Word) (ctr : Nat) : Option Bool :=
  let tx := (d.rfp p).tx
  let mine (t : TxReq) : Bool := t.sched && t.id == handle && t.ctr == ctr % 256
  let cur := match tx.now with
    | some t => if mine t.req && t.ending.isNone then some t.rampStart.isSome
                else if mine t.req && t.rampStart.isSome then some true else none
    | none => none
  match cur with
  | some b => some b
  | none => if tx.scheds.any mine then some false else none

/-- Lathe withdraws a start (R95): CANCELLED. -/
def Dev.cancelStart (d : Dev) (p : Nat) (handle : Word) (ctr : Nat) : Dev :=
  let tx := (d.rfp p).tx
  let mine (t : TxReq) : Bool := t.sched && t.id == handle && t.ctr == ctr % 256
  match tx.scheds.filter mine with
  | t :: _ => (d.modTx p fun x => { x with scheds := x.scheds.filter fun u => !mine u }).reportReq p t 2 0 false
  | [] => match tx.now with
    | some t => if mine t.req && t.rampStart.isNone then d.endNow p 2 0 else d
    | none => d

/-! ### Descriptors (R108, R109) -/

/-- Reads a frame's buffer (R109): `none` where a word has a foreign tag; otherwise the words and the lowest bad one. -/
def Dev.readFrame (d : Dev) (a n : Nat) : Option (List TWord) × Option Nat × Dev :=
  let (ws, d) := d.sramReads a n
  if ws.any fun w => w.tag != .bytes && !w.tag.bad then (none, none, d)
  else (some ws, (List.range n).find? (fun i => (ws.getD i ⟨0#32, .bytes⟩).tag.bad) |>.map fun i => a + 4 * i, d)

/-- The fields of a descriptor beside its frame. -/
structure DescWords where
  w0 : TWord
  ctr : Nat
  power : Int
  fcs32 : Bool
  whiten : Bool
  fec : Bool
  asap : Bool
  buf : Nat
  len : Nat
  mode : Nat
  frac : Nat
  freq : Nat
  start : Nat
  deriving DecidableEq, Repr

/-- The six words of a descriptor (R108), power clamped as step 1 says. -/
def descWords (ws : List FRead) : DescWords :=
  let w (i : Nat) : FRead := ws.getD i ⟨0#32, .raw, false, false, false⟩
  let w1 := (w 1).data
  let w3 := (w 3).data
  { w0 := ⟨(w 0).data, (w 0).tag⟩, ctr := bitsOf w1 24 8, power := paRange (signed 9 (bitsOf w1 15 9)), fcs32 := w1.getLsbD 14,
    whiten := w1.getLsbD 13, fec := w1.getLsbD 12, asap := w1.getLsbD 11, buf := (w 2).data.toNat, len := bitsOf w3 21 11,
    mode := bitsOf w3 17 4, frac := bitsOf w3 7 10, freq := (w 4).data.toNat, start := (w 5).data.toNat }

/-- Whether a buffer of `len` octets at `a` is one the chain may read in a mode (R109). -/
def bufferOk (a len mode : Nat) : Bool :=
  a % 4 == 0 && 1 ≤ len && len ≤ modeMax mode && 0x500000 ≤ a && a + (len + 3) / 4 * 4 ≤ 0x600000

/-- The outcome of reading a descriptor's frame: BADDESC, POISONED, or the frame. -/
inductive FrameRead where
  | bad
  | poisoned (x : TxDesc)
  | frame (x : TxDesc)
  deriving DecidableEq, Repr

/-- Reads the frame of a descriptor for a mode (R109); poison is recorded against the chain (R416). -/
def Dev.loadFrame (d : Dev) (p : Nat) (w : DescWords) (mode : Nat) : FrameRead × Dev :=
  if !bufferOk w.buf w.len mode then (.bad, d)
  else
    match d.readFrame w.buf ((w.len + 3) / 4) with
    | (none, _, d) => (.bad, d)
    | (some ws, badAt, d) =>
      let x : TxDesc := ⟨w.power, w.fcs32, w.whiten, w.fec, w.len, (ws.flatMap fun t => octetsOf t.data).take w.len⟩
      match badAt with
      | some a => (.poisoned x, d.fault (mkUnitFault 0x05 7 p a w.w0.data.toNat))
      | none => (.frame x, d)

/-- A refused descriptor's report. -/
def Dev.badDesc (d : Dev) (p : Nat) (w : DescWords) (free : Bool) : Dev :=
  let power := if free then paRange (w.power + d.rdS (RF.PACAL_TRIM p)) else 0
  d.report p ⟨⟨w.w0.data, if w.w0.tag == .ctx then .ctx else .nat⟩, 0xB, 0, w.ctr, power, false, false, none, 0, 0⟩

/-- The held start without a frame that matches a descriptor (R109). -/
def Dev.matchStart (d : Dev) (p : Nat) (w : DescWords) : Option TxReq :=
  ((d.heldScheds p).filter fun t => t.id == w.w0.data && t.ctr == w.ctr && t.desc.isNone).head?

/-- Gives a matched start its frame. -/
def Dev.giveFrame (d : Dev) (p : Nat) (t : TxReq) (x : TxDesc) : Dev :=
  let upd (u : TxReq) : TxReq := if u == t then { u with desc := some x } else u
  d.modTx p fun c => { c with scheds := c.scheds.map upd, now := c.now.map fun n => { n with req := upd n.req } }

/-- A held start whose frame is poisoned ends POISONED (R109). -/
def Dev.poisonStart (d : Dev) (p : Nat) (t : TxReq) (x : TxDesc) : Dev :=
  if (d.rfp p).tx.scheds.contains t then
    (d.modTx p fun c => { c with scheds := c.scheds.filter fun u => u != t }).reportReq p { t with desc := some x } 0xD 0 false
  else (d.giveFrame p t x).endNow p 0xD 0

/-- The chain reads a scheduled descriptor (R109). -/
def Dev.schedDescriptor (d : Dev) (p : Nat) : Dev :=
  match d.readDescriptor (d.rd (RF.TXCFG_TXS_FLUME p)) 6 with
  | (none, d) => d
  | (some ws, d) =>
    let w := descWords ws
    match (if w.w0.tag == .ctx then d.matchStart p w else none) with
    | none => d.badDesc p w false
    | some t =>
      match d.loadFrame p w t.mode with
      | (.bad, d) => d.badDesc p w false
      | (.poisoned x, d) => d.poisonStart p t x
      | (.frame x, d) => d.giveFrame p t x

/-- The start instant of a free transmission (R108): nearest the present TICK; none where it lies before TICK 0. -/
def Dev.freeStart (d : Dev) (w : DescWords) : Option Nat :=
  let t : Int := (d.tick : Int) + signed 32 (w.start + 2 ^ 32 - d.tick32)
  if t < 0 then none else some (t.toNat * 1024 + w.frac)

/-- The chain reads a free descriptor (R109, R112). -/
def Dev.freeDescriptor (d : Dev) (p : Nat) : Dev :=
  let busy := match (d.rfp p).tx.now with
    | some t => !t.req.sched && t.ending.isNone || (!t.req.sched && t.rampStart.isSome)
    | none => false
  if busy || (d.rfp p).tx.free.isSome then d
  else match d.readDescriptor (d.rd (RF.TXCFG_TXF_FLUME p)) 6 with
    | (none, d) => d
    | (some ws, d) =>
      let w := descWords ws
      if w.w0.tag != .nat || w.freq < 410000000 || 960000000 < w.freq then d.badDesc p w true
      else match d.loadFrame p w w.mode with
        | (.bad, d) => d.badDesc p w true
        | (.poisoned x, d) => d.reportReq p ⟨false, w.w0.data, w.ctr, w.asap, 0, w.freq, w.mode, 0, 0, some x⟩ 0xD 0 false
        | (.frame x, d) =>
          let lead := usCeil (d.claimLead p w.freq)
          let mk (e : Nat) : TxReq := ⟨false, w.w0.data, w.ctr, w.asap, e, w.freq, w.mode, 0, e - lead, some x⟩
          if w.asap then d.modTx p fun c => { c with free := some (mk 0) }
          else match d.freeStart w with
            | none => d.reportReq p (mk 0) 0xF 0 false
            | some e =>
              if e < d.rfNow + lead then d.reportReq p (mk e) 0xF 0 false
              else if (d.heldScheds p).any fun t => d.spansMeet p (mk e) t then d.reportReq p (mk e) 0xE 0 false
              else d.modTx p fun c => { c with free := some (mk e) }

/-! ### The order of a transmission (R111) -/

/-- The unclaimed request with the lowest Q among those given. -/
def firstQ : List TxReq → Option TxReq
  | [] => none
  | t :: r =>
    match firstQ r with
    | none => some t
    | some u => if u.q < t.q then some u else some t

/-- The request whose claim instant has come (R111, R112): scheduled starts and a fixed free start by Q, otherwise an ASAP one whose whole
span leaves room for every held start. -/
def Dev.claimable (d : Dev) (p : Nat) : Option TxReq :=
  let tx := (d.rfp p).tx
  let fixed := tx.scheds ++ (match tx.free with
    | some t => if t.asap then [] else [t]
    | none => [])
  match firstQ (fixed.filter fun t => t.q ≤ d.rfNow) with
  | some t => some t
  | none => match tx.free with
    | some t =>
      if t.asap then
        let u := { t with e := d.rfNow + usCeil (d.claimLead p t.freq), q := d.rfNow }
        if tx.scheds.all fun s => d.spanEnd p u < s.q then some u else none
      else none
    | none => none

/-- The chain takes the synthesiser from fc for the request whose claim instant has come (R111 step 1, R112); in DOZE that instant asserts
the wake source TXCLAIM (R117, R302). -/
def Dev.claim (d : Dev) (p : Nat) : Dev :=
  if d.power == 1 || (d.power == 5 && d.well.leaving == 1) then (if (d.claimable p).isSome && !d.fencedPort 6 p && !d.fencedPort 7 p then d.setLevel 13 true else d)
  else if (d.rfp p).tx.now.isSome || d.syn p == 1 || d.claimed p || !d.synPowered p || d.fencedPort 7 p then d
  else match d.claimable p with
    | none => d
    | some t =>
      let same (u : TxReq) : Bool := u.id == t.id && u.ctr == t.ctr && u.sched == t.sched
      let d := d.blankStart p
      let d := d.modTx p fun c => { c with scheds := if t.sched then c.scheds.filter fun u => !same u else c.scheds,
                                           free := if t.sched then c.free else none }
      let d := d.tuneTo p t.freq 4 5
      let n : TxNow := {
        req := t, cal := d.syn p == 4, lockFailed := false, granted := false, predicted := 0, cover := [], power := 0,
        dwell := (0, 0), clamped := false, ramp := 0, shape := [], onAir := [], rampStart := none, down := none, ending := none }
      d.modTx p fun c => { c with now := some n }

/-- The monitor of a scheduled start's event is disarmed at the grant (R22, R111 step 6). -/
def Dev.disarmStart (d : Dev) (t : TxReq) : Dev :=
  match (d.lathe.held.filter fun h => h.lead && h.slot == t.id.toNat && h.ctr % 256 == t.ctr).head? with
  | some h => match h.mon with
    | some m => d.disarmEvent m h.slot
    | none => d
  | none => d

/-- The ramp table as it stands (R115): SHAPE[31] is fixed. -/
def Dev.rampShape (d : Dev) (p : Nat) : List Nat := (List.range 31).map (fun i => d.rd (RF.SHAPE_AMP p i)) ++ [1023]

/-- Clearance at C of the claimed transmission (R111 step 5, R128), up to the grant. -/
def Dev.clearNow (d : Dev) (p : Nat) (t : TxNow) : Dev :=
  if t.lockFailed then d.endNow p 4 0
  else if d.syn p != 6 then d.endNow p 5 0
  else match t.req.desc with
    | none => d.endNow p 3 0
    | some x =>
      let us := d.predictedUs p t.req x
      match d.clearance p t.req.freq t.req.mode (d.trimmed p x) us t.req.e with
      | .refuse why b => (d.weirRefuse p why b).endNow p 6 why
      | .paOther => d.endNow p 7 0
      | .grant cov power clamped =>
        let d := if clamped then d.setF WEIR.EVENTS_CLAMP else d
        let n : TxNow := { t with
          granted := true, predicted := us, cover := cov, dwell := d.dwellOf cov, power := paRange power, clamped := clamped, ramp := d.rampUs p,
          shape := d.rampShape p }
        let d := d.modTx p fun c => { c with now := some n }
        if t.req.sched then d.disarmStart t.req else d

/-- An unclaimed request whose C has come. -/
def Dev.clearWaiting (d : Dev) (p : Nat) (due : TxReq → Bool) : Dev :=
  match ((d.rfp p).tx.scheds.filter due).head? with
  | some t => (d.modTx p fun c => { c with scheds := c.scheds.filter fun u => u != t }).reportReq p t 5 0 false
  | none => match (d.rfp p).tx.free with
    | some t => if !t.asap && due t then (d.modTx p fun c => { c with free := none }).reportReq p t 5 0 false else d
    | none => d

/-- C has come for a request (R111): the claimed one is cleared; one that is still waiting for its claim ends UNREADY. -/
def Dev.clear (d : Dev) (p : Nat) : Dev :=
  let due (t : TxReq) : Bool := t.e ≤ d.rfNow + usCeil 20 + 1
  match (d.rfp p).tx.now with
  | some t =>
    if t.ending.isNone && !t.granted && due t.req then d.clearNow p t else d.clearWaiting p due
  | none => d.clearWaiting p due

/-- The Lathe events whose start `t` is: their ramp has started (R95). -/
def Dev.noteRamp (d : Dev) (t : TxReq) : Dev :=
  { d with lathe := { d.lathe with held := d.lathe.held.map fun h =>
      if t.sched && h.lead && h.slot == t.id.toNat && h.ctr % 256 == t.ctr then { h with wasHit := true } else h } }

/-- The ramp starts at E (R111 step 7), to within the unit of the two instants (log entry 7).  While the other port's power amplifier is
still on it does not, and the request ends PAOTHER (R113; log entry 108). -/
def Dev.rampUp (d : Dev) (p : Nat) : Dev :=
  match (d.rfp p).tx.now, (d.rfp p).tx.now.bind fun t => t.req.desc with
  | some t, some x =>
    if t.granted && t.rampStart.isNone && d.syn p == 6 && t.req.e ≤ d.rfNow + 1 then
      if d.syn (1 - p) == 7 then d.endNow p 7 0
      else
        let symbols := airSymbols t.req.mode x.octets x.fcs32 x.whiten x.fec
        ((d.noteRamp t.req).modTx p fun c => { c with now := some { t with rampStart := some d.rfNow, onAir := symbols } }).setSyn p 7
    else d
  | _, _ => d

/-- The amplitude of a ramp table, in 1/1,023 of the final amplitude rounded down, `x` 1/1,024 ticks after the start of a ramp of `us` µs
(R115): entry `i` holds at (i + 1)/32 of the ramp, and between entries, and from 0 to the first, it is interpolated linearly. -/
def rampLevel (shape : List Nat) (us x : Nat) : Nat :=
  let i := x * 15625 / (16384 * us)
  let part := x * 15625 % (16384 * us)
  let a : Int := if i == 0 then 0 else (shape.getD (i - 1) 0 : Int)
  let b : Int := shape.getD i 1023
  if 32 ≤ i then 1023 else (a + ((b - a) * part).fdiv (16384 * us)).toNat

/-- The envelope amplitude of port `p` at the present instant, in 1/1,023 of the final amplitude (R115, R117): a ramp-down runs through the
table in reverse from the amplitude it found. -/
def Dev.envelope (d : Dev) (p : Nat) : Nat :=
  match (d.rfp p).tx.now with
  | none => 0
  | some t =>
    match t.rampStart, t.down with
    | none, _ => 0
    | some s, none => rampLevel t.shape t.ramp (d.rfNow - s)
    | some s, some w => rampLevel t.shape t.ramp (w.at_ - s) * rampLevel t.shape w.us (usCeil w.us - (d.rfNow - w.at_)) / 1023

/-- PA off (R111 step 10, R131): the measured time is charged in place of the reservation, the report is written, the synthesiser
returns. -/
def Dev.paOff (d : Dev) (p : Nat) : Dev :=
  match (d.rfp p).tx.now with
  | none => d
  | some t =>
    match t.rampStart with
    | none => d
    | some s =>
      if t.down.isNone then d
      else
        let us := unitsToUs (d.rfNow - s)
        let (outcome, why) := t.ending.getD (0, 0)
        let d := d.modTx p fun c => { c with now := none }
        let d := d.charge t.cover t.req.e us d.rfNow
        let d := d.report p ⟨t.req.idWord, outcome, why, t.req.ctr, t.power, t.clamped, t.cal, some s, t.ramp, us⟩
        d.returnToFc p

/-- The power amplifier of port `p` goes off at once with its unit: its measured time is charged (R131). -/
def Dev.chargeCut (d : Dev) (p : Nat) : Dev :=
  match (d.rfp p).tx.now with
  | some t => match t.rampStart with
    | some s => d.charge t.cover t.req.e (unitsToUs (d.rfNow - s)) d.rfNow
    | none => d
  | none => d

/-- RFx.TX_ABORT.NOW (R117). -/
def Dev.txAbortNow (d : Dev) (p : Nat) : Dev := d.stopNow p 1 0

/-- A write of RFx.TX_ABORT (R117). -/
def Dev.txAbortWrite (d : Dev) (p : Nat) (v : Word) : Dev :=
  let d := if v.getLsbD 0 then d.txAbortNow p else d
  let d := if v.getLsbD 1 then d.endHeld p 1 true false else d
  if v.getLsbD 2 then (d.endHeld p 1 true true).txAbortNow p else d

end Sys2Proof.Machine
end

