-- ==== Sys2Proof/Machine/Cistern.lean ====
section
/-! DEFINITION. The Cistern array, its command sequences and operations, the erase journal and the option area (chapter 12). -/

namespace Sys2Proof.Machine

/-! ### The option area as shipped (R290, log entry 5) -/

/-- The word at option-area offset `off` of a part as shipped, apart from the lock cells and OPT_SEQ: trims 0, automatic slot choice, the Spout
defaults, a zero wrap key, the Weir image of R123, an empty repair map (R350), and erased words elsewhere. -/
def shippedOpt (off : Nat) : Word :=
  if off < 8 then Config.serialWord (off / 4)
  else if off < 0x10 then 0xFFFFFFFF#32
  else if off < 0x40 then 0#32
  else if off == 0x60 then 0x00030211#32
  else if off == 0x64 then 3277#32
  else if off == 0x68 then 0#32
  else if 0x80 ≤ off && off < 0xA0 then 0#32
  else if off == 0x1A0 then 200#32
  else if off == 0x1A4 then 90#32
  else if off == 0x1AC then 0x031A8FD0#32
  else if 0x100 ≤ off && off < 0x1A8 then 0#32
  else if off == 0x200 then 0x52A70001#32
  else if off == 0x5FC then 0xBFA9A129#32
  else if 0x200 ≤ off && off < 0x600 then 0#32
  else 0xFFFFFFFF#32

/-- The lock word of R125: a set lock reads 0, the remaining bits 1. -/
def Cells.word (c : Cells) : Word := ~~~(c.lockWord.setWidth 32)

/-- Whether L_TABLE or another lock `b` of R125 is set. -/
def Cells.locked (c : Cells) (b : Nat) : Bool := c.lockWord.getLsbD b

/-- Whether record `b`'s fields are governed by a set lock (R125). -/
def Cells.bandLocked (c : Cells) (b : Nat) : Bool := c.locked b || c.locked 10

/-- The active copy (R291). -/
def Dev.optCopy (d : Dev) : OptCopy := if d.on CIST.STATUS_OPT_COPY then d.cist.optB else d.cist.optA

/-- The TEST_CLOSED word (R290, R293): once the cell is set its bit reads 0; which bit that is, and the others, the spec leaves open (log
entry 5). -/
def Cells.testWord (c : Cells) : Word :=
  if c.testClosed then Config.testClosedWord &&& ~~~Word.ofNat (2 ^ (Config.testClosedBit % 32)) else 0xFFFFFFFF#32

/-- Word `i` of a 256-bit line. -/
def lineWord (l : BitVec 256) (i : Nat) : Word := l.extractLsb' (32 * i) 32

/-- The number of bits of a line in error. -/
def lineErrors (f : BitVec 256) : Nat := (List.range 256).countP fun i => f.getLsbD i

/-- The line of option-area offset `off` as `Cist.optFlips` numbers it, below 0x8000 that of copy B where `b`. -/
def optKey (b : Bool) (off : Nat) : Nat := if 0x8000 ≤ off || b then 1024 + off / 32 else off / 32

/-- The bits in error of the line at option-area offset `off`, of the active copy below 0x8000 (R278). -/
def Dev.optFlip (d : Dev) (off : Nat) : BitVec 256 := Store.get 0#256 d.cist.optFlips (optKey (d.on CIST.STATUS_OPT_COPY) off)

/-- What an uncorrectable error leaves wrong in the word at option-area offset `off` (R278). -/
def Dev.optError (d : Dev) (off : Nat) : Word := if 3 ≤ lineErrors (d.optFlip off) then lineWord (d.optFlip off) (off % 32 / 4) else 0#32

/-- Whether a copy has a valid commit line and CRC (R291): one with an uncorrectable line has not. -/
def Dev.copyGood (d : Dev) (b : Bool) : Bool :=
  (if b then d.cist.optB else d.cist.optA).valid &&
    d.cist.optFlips.all fun e => !(e.1 / 1024 == b.toNat && 3 ≤ lineErrors e.2)

/-- Whether the active copy can be read (R291): a valid one was loaded, or an OPT_WRITE has since committed one. -/
def Dev.optReadable (d : Dev) : Bool := d.on CIST.STATUS_OPT_OK || d.copyGood (d.on CIST.STATUS_OPT_COPY)

/-- The word at offset `off` (below 0x8000) of the active copy and the lock cells (R290, R291). -/
def Dev.optWord (c : Cells) (d : Dev) (off : Nat) : Word :=
  if off == 0x1A8 then c.word
  else if off == 8 then c.testWord
  else if !d.optReadable then 0xFFFFFFFF#32
  else (if off == 0xC then Word.ofNat d.optCopy.seq else Store.get (shippedOpt off) d.optCopy.words (off / 4)) ^^^ d.optError off

/-- A word of a journal entry (R289). -/
def JEntry.word (e : JEntry) (i : Nat) : Word :=
  if i == 0 then Word.ofNat e.seq
  else if i == 1 then Word.ofNat (e.kind * 2 ^ 28 + e.block)
  else if i == 2 then Word.ofNat e.tick
  else 0xFFFFFFFF#32

/-! ### The journal (R289) -/

/-- The entries of the sector in use. -/
def Cist.journal (c : Cist) : List JEntry := if c.sector == 0 then c.journal0 else c.journal1

/-- Whether START entry `e` has no later DONE in `l`. -/
def openStart (l : List JEntry) (e : JEntry) : Bool :=
  e.kind == 1 && !l.any fun x => x.kind == 2 && x.block == e.block && e.seq < x.seq

/-- Adds an entry to the sector in use. -/
def Cist.addEntry (c : Cist) (kind block tick : Nat) : Cist :=
  let e : JEntry := ⟨c.entrySeq + 1, kind, block, tick⟩
  if c.sector == 0 then { c with journal0 := c.journal0 ++ [e], entrySeq := c.entrySeq + 1 }
  else { c with journal1 := c.journal1 ++ [e], entrySeq := c.entrySeq + 1 }

/-- Changes to the other sector: it is erased and takes every START entry that has no later DONE. -/
def Cist.rotateJournal (c : Cist) : Cist :=
  let old := c.journal
  let c := if c.sector == 0 then { c with sector := 1, journal1 := [], optFlips := c.optFlips.filter fun e => e.1 < 2560 }
    else { c with sector := 0, journal0 := [], optFlips := c.optFlips.filter fun e => e.1 < 2048 || 2560 ≤ e.1 }
  (old.filter (openStart old)).foldl (fun c e => c.addEntry 1 e.block e.tick) c

/-- Programs an entry, changing sectors first when the sector in use is full. -/
def Cist.journalWrite (c : Cist) (kind block tick : Nat) : Cist :=
  (if 512 ≤ c.journal.length then c.rotateJournal else c).addEntry kind block tick

/-- The blocks the journal shows as INCOMPLETE (R288, R289). -/
def Cist.scan (c : Cist) : List Nat :=
  (List.range 512).filter fun b => (c.journal.filter (openStart c.journal)).any fun e => e.block == b

/-- The CIST.INCOMPLETE register (R294). -/
def Dev.incompleteWord (d : Dev) : Word :=
  match d.cist.incomplete.head? with
  | none => Word.ofNat (2 ^ 31)
  | some b => Word.ofNat (d.cist.incomplete.length + b * 2 ^ 16)

/-! ### The array: loads (R277 to R279, R284) -/

/-- Replaces the Cistern's internal state. -/
def Dev.modCist (d : Dev) (f : Cist → Cist) : Dev := { d with cist := f d.cist }

/-- The block of an array address. -/
def cistBlock (a : Nat) : Nat := (a - 0x08000000) / 0x10000

/-- The line number of an array address. -/
def cistLineNo (a : Nat) : Nat := (a - 0x08000000) / 32

/-- Line number `n`; none while ERASED. -/
def Dev.cistLine (d : Dev) (n : Nat) : Option CistLine := Store.get (shippedLine n) d.cist.lines n

/-- The operation running on the block of address `a`: a PROGRAM or an ERASE. -/
def CistOp.meets (o : CistOp) (a : Nat) : Bool := (o.op == 1 || o.op == 2) && cistBlock o.addr == cistBlock a

/-- Notes a line event with its address. -/
def Dev.lineEvent (d : Dev) (f : Fld) (line : Nat) : Dev := (d.setF f).wr CIST.ERRADDR_ADDR line

/-- A line at `addr` with `n` bits in error is read by agent `who` (R278). -/
def Dev.lineRead (d : Dev) (n addr : Nat) (who : Nat × Nat) : Dev :=
  if n == 0 then d
  else if n ≤ 2 then ((d.lineEvent CIST.EVENTS_CORR addr).inc CIST.CORRECTED_COUNT).fault (mkFaultBy who 0x0E 14 0 addr 0)
  else ((d.lineEvent CIST.EVENTS_UNCORR addr).inc CIST.UNCORR_COUNT).fault (mkFaultBy who 0x0F 14 0 addr 0)

/-- A load from the option area by agent `who` (R278, R289, R290). -/
def Dev.optLoadWord (c : Cells) (d : Dev) (off : Nat) (who : Nat × Nat) : Word × Dev :=
  let read := d.lineRead (lineErrors (d.optFlip off)) (0x0A000000 + off - off % 32) who
  if off == 8 || off == 0x1A8 || (off < 0x8000 && !d.optReadable) then (d.optWord c off, d)
  else if off < 0x8000 then (d.optWord c off, read)
  else
    let j := if off < 0xC000 then d.cist.journal0 else d.cist.journal1
    match j[off % 0x4000 / 32]? with
    | some e => (e.word (off % 32 / 4) ^^^ d.optError off, read)
    | none => (0xFFFFFFFF#32, d)

/-- The lines that the option-area load reads (R278, R291). -/
def Dev.optLinesRead (d : Dev) : Dev :=
  (List.range 48).foldl (fun d n => if d.optReadable then d.lineRead (lineErrors (d.optFlip (32 * n))) (0x0A000000 + 32 * n) unitAgent else d) d

/-- The line enters the stream buffers, least recently used first replaced (R279). -/
def Dev.buffered (d : Dev) (n : Nat) : Dev :=
  d.modCist fun c => { c with buffers := (n :: c.buffers.filter fun m => m != n).take 4 }

/-- A load from array address `a` by agent `who` (R277 to R279, R284, R288): a line that a stream buffer holds is not read again. -/
def Dev.cistLoad (d : Dev) (a : Nat) (who : Nat × Nat := unitAgent) : Word × Dev :=
  let ones : Word := 0xFFFFFFFF#32
  let n := cistLineNo a
  let addr := a - a % 32
  if (d.cist.op.map fun o => o.meets a).getD false then (ones, d.setF CIST.EVENTS_BUSYREAD)
  else if (d.cist.susp.map fun o => o.meets a).getD false then (ones, d.setF CIST.EVENTS_SUSPREAD)
  else if d.cist.incomplete.contains (cistBlock a) then (ones, d.setF CIST.EVENTS_INCREAD)
  else
    let held := d.cist.buffers.contains n
    let d := d.buffered n
    match d.cistLine n with
    | none => (ones, d)
    | some l =>
      if l.torn then (ones, d.lineEvent CIST.EVENTS_TORN addr)
      else
        let bad := lineErrors l.flip
        (lineWord (if bad ≤ 2 then l.data else l.data ^^^ l.flip) (a % 32 / 4), if held then d else d.lineRead bad addr who)

/-! ### Errors, ends, refusals -/

/-- A sequence or operation ends with an ERR code (R282, R285). -/
def Dev.cistErr (d : Dev) (code op : Nat) : Dev := ((d.wr CIST.ERR_CODE code).wr CIST.ERR_OP op).setF CIST.EVENTS_ERR

/-- The completion word of R285. -/
def Dev.cistReport (d : Dev) (op result block : Nat) : Dev :=
  if d.on CIST.CFG_DONE_EN then
    d.flumeWrite (d.rd CIST.CFG_DONE_FLUME) (group [⟨Word.ofNat (op * 2 ^ 28 + result * 2 ^ 24 + block), .nat⟩])
  else d

/-- An accepted operation ends (R285); a SUSPEND held for it is dropped (R286). -/
def Dev.cistEnd (d : Dev) (op result block : Nat) : Dev :=
  let d := ((d.modCist fun c => { c with op := none }).setF CIST.EVENTS_DONE).wr CIST.STATUS_SUSP_PEND 0
  let d := if result == 0 then d else d.cistErr result op
  d.cistReport op result block

/-- The common refusals of an operation that needs the array idle (R284, R287). -/
def Dev.cistRefusal (d : Dev) (needsNoSusp : Bool) : Option Nat :=
  if d.cist.op.isSome || (needsNoSusp && d.cist.susp.isSome) then some 2
  else if d.on CIST.STATUS_AUTO then some 6
  else none

/-- Begins an operation. -/
def Dev.cistBegin (d : Dev) (o : CistOp) : Dev := (d.modCist fun c => { c with op := some o }).wr CIST.OPADDR_ADDR o.addr

/-- An operation that starts now. -/
def Dev.cistOp (d : Dev) (op addr : Nat) : CistOp := ⟨op, addr, 0#256, 0#12, [], 0, d.now, 0⟩

/-- The 256 bits of eight words, the first lowest. -/
def lineOf (ws : List Word) : BitVec 256 := BitVec.ofNat 256 (ws.foldr (fun w n => n * 2 ^ 32 + w.toNat) 0)

/-- The lines of a block leave the stream buffers (R279). -/
def Dev.unbuffer (d : Dev) (block : Nat) : Dev :=
  d.modCist fun c => { c with buffers := c.buffers.filter fun n => n / 2048 != block }

/-- The addresses of R281. -/
def cistAddr1 : Nat := 0x08005A5C
def cistAddr2 : Nat := 0x0800A5A0

/-- A PROGRAM sequence's eighth store: accepted or refused (R282, R284). -/
def Dev.programAccept (d : Dev) (line : Nat) (ws : List Word) : Dev :=
  let blk := cistBlock line
  match d.cistRefusal false with
  | some e => d.cistErr e 1
  | none =>
    if line == cistAddr1 - cistAddr1 % 32 || line == cistAddr2 then d.cistErr 10 1
    else if (d.cist.susp.map fun o => cistBlock o.addr == blk).getD false then d.cistErr 4 1
    else if d.cist.incomplete.contains blk then d.cistErr 5 1
    else if (d.cistLine (cistLineNo line)).isSome then d.cistErr 3 1
    else (d.unbuffer blk).cistBegin { d.cistOp 1 line with line := lineOf ws }

/-- The 1/1,024 ticks that the START entry's program may take, and before it a sector change that copies `k` entries (R282, R289). -/
def startLimit : Nat := usFloor 12
def rotateLimit (k : Nat) : Nat := usFloor (8000 + 12 * k)

/-- The journal takes the START entry of block `blk`; the state, the instant the erase run begins, and the one at which a sector change ends
(R283, R286, R289).  How long each takes is free within its limit (log entry 110). -/
def Dev.startEntry (d : Dev) (blk : Nat) : Nat × Nat × Dev :=
  let old := d.cist.journal
  let full := decide (512 ≤ old.length)
  let (a, d) := if full then d.drawQuality (rotateLimit (old.countP (openStart old)) + 1) else (0, d)
  let (b, d) := d.drawQuality (startLimit + 1)
  let at_ := d.now + a
  (at_ + b, if full then at_ else 0, d.modCist fun c => c.journalWrite 1 blk (at_ / 1024 % 2 ^ 32))

/-- An ERASE sequence's last store (R283, R284, R289). -/
def Dev.eraseAccept (d : Dev) (a : Nat) : Dev :=
  let blk := cistBlock a
  match d.cistRefusal true with
  | some e => d.cistErr e 2
  | none =>
    let (since, till, d) := d.startEntry blk
    let d := d.wr CIST.ERASE_RUN_US 0
    (d.unbuffer blk).cistBegin { d.cistOp 2 (0x08000000 + 0x10000 * blk) with since := since, rotTill := till }

/-- The mask of the bits that a register table gives fields. -/
def fieldMask (a : Nat) : Word := BitVec.ofNat 32 ((regFields a).foldl (fun n f => n + (2 ^ f.width - 1) * 2 ^ f.lo) 0)

/-- The Weir image words with the register each is laid out as (R124). -/
def weirWords : List (Nat × Nat) :=
  (List.range 8).flatMap (fun b => [(0x100 + 16 * b, WEIR.LO_at b), (0x104 + 16 * b, WEIR.HI_at b), (0x108 + 16 * b, WEIR.PWR_at b),
    (0x10C + 16 * b, WEIR.COND_at b), (0x180 + 4 * b, WEIR.DUTY_at b)]) ++ [(0x1A0, WEIR.CABLE_at), (0x1A4, WEIR.SUPPLY_at)]

/-- Whether the image word at offset `off` is governed by a set lock (R125). -/
def Cells.governs (c : Cells) (off : Nat) : Bool :=
  if off < 0x180 then c.bandLocked ((off - 0x100) / 16)
  else if off < 0x1A0 then c.bandLocked ((off - 0x180) / 4)
  else if off == 0x1A0 then c.locked 8
  else c.locked 9

/-- Whether an image differs from the active copy in a locked field, or with TEST_CLOSED set in the serial number or trims (R292). -/
def Dev.lockDiff (c : Cells) (d : Dev) (image : Store Word) : Bool :=
  let w (off : Nat) : Word := Store.get (shippedOpt off) image (off / 4)
  (weirWords.any fun (off, reg) => c.governs off && (w off &&& fieldMask reg) != (d.optWord c off &&& fieldMask reg))
    || (c.testClosed && ([0, 4] ++ (List.range 12).map fun i => 0x10 + 4 * i).any fun off => w off != d.optWord c off)

/-- An image as the words that differ from a shipped part's; the words at the lock cells and at OPT_SEQ are ignored (R292). -/
def imageOf (ws : List TWord) : Store Word :=
  ws.zipIdx.filterMap fun (w, i) =>
    if i == 2 || i == 3 || i == 0x6A || w.data == shippedOpt (4 * i) then none else some (i, w.data)

/-- An OPT_WRITE sequence's last store: the image is read and checked (R292). -/
def Dev.optWriteAccept (c : Cells) (d : Dev) : Dev :=
  match d.cistRefusal true with
  | some e => d.cistErr e 3
  | none =>
    let src := d.rd CIST.OPT_SRC_ADDR
    if src % 64 != 0 || 0x600000 < src + 0x8000 || (decide (src < 0x400000) && decide (0x400000 < src + 0x8000))
        || (decide (src < 0x500000) && decide (0x500000 < src + 0x8000)) then d.cistErr 8 3
    else
      let (ws, d) := d.sramReads src 8192
      if ws.any fun w => w.tag.bad then d.cistErr 8 3
      else
        let image := imageOf ws
        if d.lockDiff c image then d.cistErr 7 3
        else
          let d := d.modCist fun x =>
            if d.on CIST.STATUS_OPT_COPY then { x with optA := { x.optA with valid := false }, optFlips := x.optFlips.filter fun e => 1024 ≤ e.1 }
            else { x with optB := { x.optB with valid := false }, optFlips := x.optFlips.filter fun e => e.1 < 1024 || 2048 ≤ e.1 }
          d.cistBegin { d.cistOp 3 0x0A000000 with image := image }

/-- The lock cells that CIST.LOCK_MASK asks for and that are not yet set (R293). -/
def Dev.lockWanted (c : Cells) (d : Dev) : BitVec 12 :=
  let m := (d.reg CIST.LOCK_MASK_at)
  (m.setWidth 11 &&& ~~~c.lockWord).setWidth 12 ||| (if m.getLsbD 31 && !c.testClosed then 0x800#12 else 0#12)

/-- A LOCK sequence's last store (R293). -/
def Dev.lockAccept (c : Cells) (d : Dev) : Dev :=
  match d.cistRefusal true with
  | some e => d.cistErr e 4
  | none =>
    let m := d.lockWanted c
    let d := d.cistBegin { d.cistOp 4 0x0A000000 with mask := m }
    if m == 0#12 then d.cistEnd 4 0 0 else d

/-! ### Suspend and resume (R286, R287) -/

/-- The run of a running erase in 1/1,024 tick, as long as it can be at the present TICK. -/
def Dev.eraseRunMost (d : Dev) (o : CistOp) : Nat := o.run + (d.latestNow - o.since)

/-- The accumulated run of the running erase in µs, saturating (R294). -/
def runUs (x : Nat) : Nat := min 16383 (x * 15625 / 524288)

/-- The running erase stops running: its run so far is kept. -/
def Dev.stopErase (d : Dev) (o : CistOp) (atLeast : Nat) : Dev :=
  let run := max atLeast (o.run + (d.now - o.since))
  ((d.modCist fun c => { c with op := none, susp := some { o with run := run } }).wr CIST.ERASE_RUN_US (runUs run)).wr
    CIST.STATUS_SUSP_PEND 0

/-- The suspended erase runs again. -/
def Dev.restartErase (d : Dev) (o : CistOp) : Dev :=
  d.modCist fun c => { c with op := some { o with since := d.now }, susp := none, fwSusp := false }

/-- SUSPEND (R286, R287). -/
def Dev.cistSuspend (d : Dev) : Dev :=
  match d.cist.op with
  | some o => if o.op ≤ 2 then d.wr CIST.STATUS_SUSP_PEND 1 else d
  | none => if d.cist.susp.isSome && d.on CIST.STATUS_AUTO then d.modCist fun c => { c with fwSusp := true } else d

/-- RESUME (R284, R286): refused while a PROGRAM runs; during a supply hold the erase resumes with the hold's end. -/
def Dev.cistResume (d : Dev) : Dev :=
  match d.cist.susp with
  | none => d
  | some o =>
    if d.cist.op.isSome then d.cistErr 2 2
    else if d.on CIST.STATUS_AUTO then d.modCist fun c => { c with fwSusp := false }
    else d.restartErase o

/-- The supply hold begins (R287). -/
def Dev.supplyHold (d : Dev) : Dev :=
  let d := (d.wr CIST.STATUS_AUTO 1).setF CIST.EVENTS_AUTOSUSP
  match d.cist.op with
  | some o =>
    if o.op == 2 then
      (d.modCist fun c => { c with fwSusp := d.on CIST.STATUS_SUSP_PEND }).stopErase o 0
    else d
  | none => d

/-! ### Sequences (R280, R281) -/

/-- The command a sequence concerns, coded as STATUS.OP. -/
def CistSeq.op : CistSeq → Nat
  | .cmd o => o
  | .cmdUnlock o => o
  | .cmdUnlocked o => o
  | .prog _ _ => 1
  | _ => 0

/-- CIST.STATUS.SEQ (R294). -/
def CistSeq.code : CistSeq → Nat
  | .idle => 0
  | .unlock => 1
  | .unlocked => 2
  | _ => 3

/-- The sequence moves on. -/
def Dev.cistSeq (d : Dev) (q : CistSeq) : Dev := d.modCist fun c => { c with seq := q, seqTick := d.tick }

/-- A partial sequence is discarded with SEQ (R281). -/
def Dev.seqFail (d : Dev) : Dev :=
  if d.cist.seq = .idle then d else (d.cistErr 1 d.cist.seq.op).modCist fun c => { c with seq := .idle }

/-- Whether the next step of a partial sequence is more than 32 ticks late (R281). -/
def Dev.seqLate (d : Dev) : Bool := decide (d.cist.seq ≠ .idle) && decide (d.cist.seqTick + 32 < d.tick)

/-- A store that is no step: discarded, STRAY (R280). -/
def Dev.cistStray (d : Dev) : Dev := d.seqFail.setF CIST.EVENTS_STRAY

/-- The command octets of R281, coded as STATUS.OP. -/
def cistFirst (v : Word) : Option Nat := if v == 0x80#32 then some 2 else if v == 0x70#32 then some 3 else if v == 0x7C#32 then some 4 else none

/-- The step a store makes from sequence state `q`, if it is the expected one: the new sequence state and what is accepted at its end. -/
inductive CistStep where
  | go (q : CistSeq)
  | program (line : Nat) (words : List Word)
  | erase (a : Nat)
  | optWrite
  | lock
  | stray

/-- The expected steps (R281). -/
def CistSeq.step (q : CistSeq) (a : Nat) (v : Word) : CistStep :=
  let first := a == cistAddr1 && v == 0xC9#32
  let second := a == cistAddr2 && v == 0x36#32
  match q with
  | .idle => if first then .go .unlock else .stray
  | .unlock => if second then .go .unlocked else .stray
  | .unlocked =>
    if a != cistAddr1 then .stray
    else if v == 0x10#32 then .go (.prog 0 [])
    else match cistFirst v with
      | some op => .go (.cmd op)
      | none => .stray
  | .cmd op => if first then .go (.cmdUnlock op) else .stray
  | .cmdUnlock op => if second then .go (.cmdUnlocked op) else .stray
  | .cmdUnlocked op =>
    if op == 2 then (if v == 0x30#32 then .erase a else .stray)
    else if a != cistAddr1 then .stray
    else if op == 3 then (if v == 0x71#32 then .optWrite else .stray)
    else (if v == 0x7D#32 then .lock else .stray)
  | .prog line ws =>
    if ws.isEmpty then (if a % 32 == 0 then .go (.prog a [v]) else .stray)
    else if a != line + 4 * ws.length then .stray
    else if ws.length == 7 then .program line (ws ++ [v])
    else .go (.prog line (ws ++ [v]))

/-- A store to array address `a` (R280, R281). -/
def Dev.cistStore (c : Cells) (d : Dev) (a : Nat) (v : Word) : Dev :=
  let d := if d.seqLate then d.seqFail else d
  if a == cistAddr1 && v == 0xB0#32 then d.cistSuspend
  else if a == cistAddr1 && v == 0xD0#32 then d.cistResume
  else if a == cistAddr1 && v == 0xF0#32 then d.modCist fun x => { x with seq := .idle }
  else
    let done := d.cistSeq .idle
    match d.cist.seq.step a v with
    | .go q => d.cistSeq q
    | .program line ws => done.programAccept line ws
    | .erase b => done.eraseAccept b
    | .optWrite => done.optWriteAccept c
    | .lock => done.lockAccept c
    | .stray => d.cistStray

/-- A store to the option area (R280). -/
def Dev.optStore (d : Dev) : Dev := (if d.seqLate then d.seqFail else d).cistStray

/-- A run of stores. -/
def Dev.cistStores (c : Cells) (d : Dev) (l : List (Nat × Word)) : Dev := l.foldl (fun d s => d.cistStore c s.1 s.2) d

/-- The stores of an unlock (R281). -/
def unlockStores : List (Nat × Word) := [(cistAddr1, 0xC9#32), (cistAddr2, 0x36#32)]

/-- The stores of a two-step command (R281). -/
def commandStores (first : Word) (a : Nat) (last : Word) : List (Nat × Word) :=
  unlockStores ++ [(cistAddr1, first)] ++ unlockStores ++ [(a, last)]

/-- The stores of a PROGRAM of line number `n` (R281). -/
def programStores (n : Nat) (ws : List Word) : List (Nat × Word) :=
  unlockStores ++ [(cistAddr1, 0x10#32)] ++ ws.zipIdx.map fun (w, i) => (0x08000000 + 32 * n + 4 * i, w)

/-- The stores of an ERASE of block `b` (R281). -/
def eraseStores (b : Nat) : List (Nat × Word) := commandStores 0x80#32 (0x08000000 + 0x10000 * b) 0x30#32

/-! ### The commands -/

/-- Whether the Cistern is fenced (R28, R337). -/
def Dev.cistFenced (d : Dev) : Bool := d.repair.fencedOther.contains (14, 0)

/-- A master's stores to the array have the effect `f`; a fenced Cistern discards them (R28; log entry 22). -/
def onCist (s : State) (f : Cells → Dev → Dev) : Host.Outcome State Fault Refusal := onBusC s 14 fun c d => if d.cistFenced then d else f c d

/-- PROGRAM (R281, R282): a master makes the stores of the sequence for line `n`. -/
def execProgram (n : BitVec 20) (line : BitVec 256) (s : State) : Host.Outcome State Fault Refusal :=
  onCist s fun c d => d.cistStores c (programStores n.toNat ((List.range 8).map (lineWord line)))

/-- ERASE (R281, R283): a master makes the stores of the sequence for block `b`. -/
def execErase (b : Fin 512) (s : State) : Host.Outcome State Fault Refusal :=
  onCist s fun c d => d.cistStores c (eraseStores b.val)

/-- OPT_WRITE (R281, R292): a master makes the stores of the sequence. -/
def execOptWrite (s : State) : Host.Outcome State Fault Refusal :=
  onCist s fun c d => d.cistStores c (commandStores 0x70#32 cistAddr1 0x71#32)

/-- LOCK (R281, R293): a master makes the stores of the sequence. -/
def execLock (s : State) : Host.Outcome State Fault Refusal :=
  onCist s fun c d => d.cistStores c (commandStores 0x7C#32 cistAddr1 0x7D#32)

/-- SUSPEND (R281, R286). -/
def execSuspend (s : State) : Host.Outcome State Fault Refusal := onCist s fun c d => d.cistStore c cistAddr1 0xB0#32

/-- RESUME (R281, R286). -/
def execResume (s : State) : Host.Outcome State Fault Refusal := onCist s fun c d => d.cistStore c cistAddr1 0xD0#32

/-- CANCEL (R281). -/
def execCancel (s : State) : Host.Outcome State Fault Refusal := onCist s fun c d => d.cistStore c cistAddr1 0xF0#32

/-- SEQUENCE_TIMEOUT (R281): a step has not arrived within 32 ticks of the one before. -/
def execSequenceTimeout (s : State) : Host.Outcome State Fault Refusal := onDev s fun d => if d.seqLate then d.seqFail else d

/-- Whether operation `op` runs, outside a supply hold (R287). -/
def Dev.cistRuns (d : Dev) (op : Nat) : Option CistOp :=
  match d.cist.op with
  | some o => if o.op == op && !d.on CIST.STATUS_AUTO then some o else none
  | none => none

/-- PROGRAM_DONE (R282, R283): the line is PROGRAMMED, or its verify fails and it is TORN. -/
def execProgramDone (pass : Bool) (s : State) : Host.Outcome State Fault Refusal :=
  onDev s fun d =>
    match d.cistRuns 1 with
    | none => d
    | some o =>
      let d := d.modCist fun c => { c with lines := Store.put (shippedLine (cistLineNo o.addr)) c.lines (cistLineNo o.addr) (some ⟨o.line, 0#256, !pass⟩) }
      if pass then d.cistEnd 1 0 (cistBlock o.addr)
      else (d.fault (mkUnitFault 0x10 14 0 o.addr 0)).cistEnd 1 9 (cistBlock o.addr)

/-- The lines with every line of block `b` ERASED. -/
def eraseLines (b : Nat) (lines : Store (Option CistLine)) : Store (Option CistLine) :=
  let rest := Store.keep (fun n _ => n / 2048 != b) lines
  if goldenType b == 0 then rest
  else (List.range 2048).foldl (fun l i => Store.put (shippedLine (2048 * b + i)) l (2048 * b + i) none) rest

/-- After a failed verify, a line listed as not ERASED is left TORN or as it was: which, the spec does not say (log entry 3). -/
def Dev.leaveLine (d : Dev) (old : Store (Option CistLine)) (n : Nat) : Dev :=
  let (keep, d) := d.drawBool
  let l := if keep then Store.get (shippedLine n) old n else none
  d.modCist fun c => { c with lines := Store.put (shippedLine n) c.lines n (some (l.getD ⟨0#256, 0#256, true⟩)) }

/-- ERASE_DONE (R283): the run completes; verify finds every line ERASED, or the lines `left` of the block not. -/
def execEraseDone (left : List (BitVec 11)) (s : State) : Host.Outcome State Fault Refusal :=
  onDev s fun d =>
    match d.cistRuns 2 with
    | none => d
    | some o =>
      let b := cistBlock o.addr
      let d := d.wr CIST.ERASE_RUN_US (runUs (o.run + (d.now - o.since)))
      let old := d.cist.lines
      let d := d.modCist fun c => { c with lines := eraseLines b c.lines }
      if left.isEmpty then
        (d.modCist fun c => { (c.journalWrite 2 b d.tick32) with incomplete := c.incomplete.filter fun x => x != b }).cistEnd 2 0 b
      else
        let d := left.foldl (fun d n => d.leaveLine old (2048 * b + n.toNat)) d
        (d.fault (mkUnitFault 0x10 14 0 o.addr 0)).cistEnd 2 9 b

/-- SUSPEND_TAKES_EFFECT (R286): the held SUSPEND stops an erase that has run at least 500 µs. -/
def execSuspendTakesEffect (s : State) : Host.Outcome State Fault Refusal :=
  onDev s fun d =>
    match d.cistRuns 2 with
    | none => d
    | some o =>
      if d.on CIST.STATUS_SUSP_PEND && 500 * 524288 ≤ (d.latestNow - o.since) * 15625 then
        (d.modCist fun c => { c with fwSusp := true }).stopErase o (o.run + (500 * 524288 + 15624) / 15625)
      else d

/-- OPT_WRITE_DONE (R292): the commit line is programmed and the new copy is active; the wrap key reads the new values at once. -/
def execOptWriteDone (s : State) : Host.Outcome State Fault Refusal :=
  onDevC s fun c d =>
    match d.cistRuns 3 with
    | none => d
    | some o =>
      let copy : OptCopy := ⟨o.image, (d.optCopy.seq + 1) % 2 ^ 32, true⟩
      let toB := !d.on CIST.STATUS_OPT_COPY
      let d := d.modCist fun x => if toB then { x with optB := copy } else { x with optA := copy }
      let d := (d.wrB CIST.STATUS_OPT_COPY toB).wr CIST.OPT_SEQ_SEQ copy.seq
      let d := (List.range 8).foldl (fun d i => d.setReg (CHISEL.WRAPKEY_at i) (d.optWord c (0x80 + 4 * i))) d
      d.cistEnd 3 0 0

/-- The Weir reloads from the option area the fields that lock `b` governs (R127). -/
def Dev.weirReload (c : Cells) (d : Dev) (b : Nat) : Dev :=
  let governed (off : Nat) : Bool :=
    if b == 10 then decide (off < 0x1A0) else if b == 8 then off == 0x1A0 else if b == 9 then off == 0x1A4
    else (off < 0x180 && (off - 0x100) / 16 == b) || (0x180 ≤ off && off < 0x1A0 && (off - 0x180) / 4 == b)
  let d := weirWords.foldl (fun d (off, reg) => if governed off then d.setReg reg (d.optWord c off &&& fieldMask reg) else d) d
  (if b == 8 then d.cableCheck else if b == 9 then (d.vpaLevel 0 (d.vpa 0)).vpaLevel 1 (d.vpa 1) else d).setF WEIR.EVENTS_LOCKSET

/-- The lock cells with cell `b` set: bits 0 to 10 of the lock word, 11 TEST_CLOSED (R293). -/
def Cells.set (c : Cells) (b : Nat) : Cells :=
  if b == 11 then { c with testClosed := true } else { c with lockWord := c.lockWord ||| BitVec.ofNat 11 (2 ^ b) }

/-- Whether LOCK is setting cell `b`. -/
def Dev.locking (d : Dev) (b : Nat) : Option CistOp :=
  match d.cistRuns 4 with
  | some o => if o.mask.getLsbD b then some o else none
  | none => none

/-- The Cistern's side of a cell's completion: the Weir reloads, and LOCK ends with its last cell. -/
def Dev.cellDone (c : Cells) (d : Dev) (o : CistOp) (b : Nat) : Dev :=
  let m := o.mask &&& ~~~BitVec.ofNat 12 (2 ^ b)
  let d := d.modCist fun x => { x with op := some { o with mask := m } }
  let d := if b == 11 then d else d.weirReload c b
  if m == 0#12 then d.cistEnd 4 0 0 else d

/-- LOCK_CELL_DONE (R293): cell `b` (0 to 10 of the lock word, 11 TEST_CLOSED) finishes programming and reads as set. -/
def execLockCellDone (b : Fin 12) (s : State) : Host.Outcome State Fault Refusal :=
  match s.dev.locking b.val with
  | none => .next s
  | some o => .next { s with cells := s.cells.set b.val, dev := s.dev.cellDone (s.cells.set b.val) o b.val }

/-- SUPPLY_HOLD_END (R287): the supply has stood 50 mV above the warning level for 1 ms; halted pulses and an auto-suspended erase
resume. -/
def execSupplyHoldEnd (s : State) : Host.Outcome State Fault Refusal :=
  onDev s fun d =>
    if d.on CIST.STATUS_AUTO && !d.on WEIR.STATUS_VMAIN_LOW then
      let d := d.wr CIST.STATUS_AUTO 0
      match d.cist.susp with
      | some o => if d.cist.fwSusp || d.cist.op.isSome then d else d.restartErase o
      | none => d
    else d

/-! ### Cuts (R288) -/

/-- The state a reset that cuts the Cistern leaves (R288); the lock cells a cut LOCK leaves set are drawn first (`cutLocks`). -/
def Dev.cistCut (d : Dev) : Dev :=
  let d := match d.cist.op with
    | some o =>
      if o.op == 1 then
        let (done, d) := d.drawBool
        d.modCist fun c => { c with lines := Store.put (shippedLine (cistLineNo o.addr)) c.lines (cistLineNo o.addr) (some ⟨o.line, 0#256, !done⟩) }
      else d
    | none => d
  d.modCist fun c => { c with op := none, susp := none, fwSusp := false, seq := .idle, buffers := [] }

/-- The lock cells after a reset cuts a LOCK (R288): each cell it had still to set is either set or clear. -/
def cutLocks (c : Cells) (d : Dev) : Cells × Dev :=
  match d.cist.op with
  | some o =>
    if o.op == 4 then
      (List.range 12).foldl (fun (c, d) b =>
        if o.mask.getLsbD b then
          let (done, d) := d.drawBool
          (if done then c.set b else c, d)
        else (c, d)) (c, d)
    else (c, d)
  | none => (c, d)

end Sys2Proof.Machine
end

