-- ==== Sys2Proof/Machine/RepairOps.lean ====
section
/-! DEFINITION. The repair map, fences and rotations, and the live map built at each option-area load (chapter 15). -/

namespace Sys2Proof.Machine

/-! ### The live map (R350) -/

/-- Bit `b` of map word `w`. -/
def Dev.mapBit (d : Dev) (w b : Nat) : Bool := (d.reg (REPAIR.MAP_at w)).getLsbD b

/-- Sets bit `b` of map word `w`. -/
def Dev.setMapBit (d : Dev) (w b : Nat) : Dev := d.setReg (REPAIR.MAP_at w) (d.reg (REPAIR.MAP_at w) ||| Word.ofNat (2 ^ b))

/-- Clears bit `b` of map word `w`. -/
def Dev.clearMapBit (d : Dev) (w b : Nat) : Dev := d.setReg (REPAIR.MAP_at w) (d.reg (REPAIR.MAP_at w) &&& ~~~Word.ofNat (2 ^ b))

/-- The map word and bit that fence unit (kind, inst), for KIND 1 to 11 (R350). -/
def mapPlace (kind inst : Nat) : Nat × Nat :=
  match kind with
  | 1 => (1 + inst / 32, inst % 32)
  | 2 => (4, inst)
  | 3 => (4, 16 + inst)
  | 4 => (5, inst)
  | 5 => (6 + inst / 32, inst % 32)
  | 10 => (10, 8 + inst)
  | 11 => (10, 10 + inst)
  | _ => (10, 2 * inst + (kind - 6))

/-- The number of physical units of a kind (R27, R28, R337); 0 where KIND names none that can be fenced. -/
def unitCount (kind : Nat) : Nat :=
  match kind with
  | 1 => 72 | 2 => 9 | 3 => 5 | 4 => 9 | 5 => 102 | 6 => 2 | 7 => 2 | 8 => 2 | 9 => 2 | 10 => 2 | 11 => 2 | 12 => 1 | 13 => 3 | 14 => 1
  | _ => 0

/-- Whether unit (kind, inst) is fenced. -/
def Dev.unitFenced (d : Dev) (kind inst : Nat) : Bool :=
  if kind ≤ 11 then d.mapBit (mapPlace kind inst).1 (mapPlace kind inst).2 else d.repair.fencedOther.contains (kind, inst)

/-- Changes the repair engine's internal state. -/
def Dev.modRepair (d : Dev) (f : Repair → Repair) : Dev := { d with repair := f d.repair }

/-- Enters a fence: in the live map for KIND 1 to 11, which marks it DIRTY (R350, R351). -/
def Dev.markFence (d : Dev) (kind inst : Nat) : Dev :=
  let d := d.setF REPAIR.EVENTS_FENCED
  if kind ≤ 11 then (d.setMapBit (mapPlace kind inst).1 (mapPlace kind inst).2).setF REPAIR.EVENTS_DIRTY
  else d.modRepair fun r => { r with fencedOther := r.fencedOther ++ [(kind, inst)] }

/-- Fallback begins (R394): what is converted is undone in reverse, step by step; lanes already converted are the ones to convert back. -/
def Dev.amFallStart (d : Dev) (detail : Nat) : Dev :=
  let d := { d with am := { d.am with order := [], since := d.tick } }
  let d := if d.am.undo.any fun u => u.1 == 3 then
      (List.range 72).foldl (fun d n => d.modLane n fun l => { l with converted := !l.converted }) d
    else d
  (d.wr SYS.AM_STATUS_STATE 6).wr SYS.AM_RESULT_DETAIL detail

/-! ### Which unit serves what -/

/-- The field of REPAIR.ASSIGN_S or ASSIGN_B that names the unit of slot `s`. -/
def assignFld (s : Nat) : Fld := if isBowl s then ⟨REPAIR.ASSIGN_B_at, 4 * (s - 8), 4⟩ else ⟨REPAIR.ASSIGN_S_at, 4 * s, 4⟩

/-- The spare position of kind 2, 3 or 4 (ASSIGN_X); 15 if none. -/
def spareFld (kind : Nat) : Fld := ⟨REPAIR.ASSIGN_X_at, 4 * (kind - 2), 4⟩

/-- The SPARES bit of kind 2, 3 or 4. -/
def sparesFld (kind : Nat) : Fld := ⟨REPAIR.SPARES_at, kind - 2, 1⟩

/-- Sets the spare position of kind 2, 3 or 4. -/
def Dev.setSpare (d : Dev) (kind u : Nat) : Dev := (d.wr (spareFld kind) u).wrB (sparesFld kind) (u != 15)

/-- The slots of kind 2 (Spindle) or 3 (Bowl). -/
def slotsOf (kind : Nat) : List Nat := if kind == 2 then List.range 8 else [8, 9, 10, 11]

/-- The kind of slot `s`. -/
def kindOfSlot (s : Nat) : Nat := if isBowl s then 3 else 2

/-- The slots of a kind that a physical unit serves. -/
def Dev.serving (d : Dev) (kind : Nat) : List Nat := (slotsOf kind).filter fun s => d.rd (assignFld s) != 15

/-- The logical bank that physical bank `b` serves. -/
def Dev.bankServed (d : Dev) (b : Nat) : Option Nat :=
  (List.range 16).map (fun i => 16 * (b / 17) + i) |>.filter (fun l => d.physBank l == b && !d.repair.bankOut.contains l) |>.head?

/-- The units of a kind still serving (DETAIL1 of FENCED). -/
def Dev.stillServing (d : Dev) (kind : Nat) : Nat :=
  match kind with
  | 1 => laneNos.countP fun n => !d.unitFenced 1 n
  | 2 => (d.serving 2).length
  | 3 => (d.serving 3).length
  | 4 => (List.range 8).countP fun i => d.corePos i != 255
  | 5 => 96 - d.repair.bankOut.length
  | _ => (List.range (unitCount kind)).countP fun i => !d.unitFenced kind i

/-- Writes the FENCED record (R336). -/
def Dev.fencedRecord (d : Dev) (kind inst serving reaction agent agentNo : Nat) : Dev :=
  d.fault ⟨0x12, kind, inst, serving, d.stillServing kind, reaction, agent, agentNo, false⟩

/-- The registers that follow the live map: FENCED_CU, FENCED_CH, SPARES.BANKS and SPARES.LANES. -/
def Dev.syncRepair (d : Dev) : Dev :=
  let d := (d.setReg REPAIR.FENCED_CU_at (d.reg (REPAIR.MAP_at 4))).setReg REPAIR.FENCED_CH_at (d.reg (REPAIR.MAP_at 5))
  let banks := (List.range 6).foldl (fun n g => if d.groupSpare g == 255 then n else n + 2 ^ g) 0
  (d.wr REPAIR.SPARES_BANKS banks).wr REPAIR.SPARES_LANES (d.stillServing 1)

/-- REPAIR.STATUS follows what is in progress (R359). -/
def Dev.repairIdle (d : Dev) : Dev :=
  if d.repair.bankCopy.isSome || !d.repair.rots.isEmpty || d.repair.tests.any fun e => e.2.isSome then d
  else (d.wr REPAIR.STATUS_BUSY 0).wr REPAIR.STATUS_KIND 0

/-- The live test of a schedule, if one runs, is abandoned (R343). -/
def Dev.dropTest (d : Dev) (sched : Nat) : Dev :=
  if (Store.get none d.repair.tests sched).isSome then
    (d.modRepair fun r => { r with tests := Store.put none r.tests sched none }).repairIdle
  else d

/-! ### Cores -/

/-- Slot `s` moves to unit `u` with its state (R29, R341): FEAT.7 and ROTATIONS count it. -/
def Dev.moveSlot (d : Dev) (s u : Nat) : Dev :=
  ((d.wr (assignFld s) u).modSlot s fun v => { v with rotations := v.rotations + 1 }).inc REPAIR.ROTATIONS_COUNT

/-- Slot `s` leaves every Flume it is stalled on. -/
def Dev.leaveFlumes (d : Dev) (s : Nat) : Dev :=
  (List.range 64).foldl (fun d n => if (d.flume n).stalled.any fun x => x.slot == s then d.unstall n s else d) d

/-- A fault of slot `s` as a master. -/
def Dev.slotFault (s code d0 d1 : Nat) : FaultInfo := mkMasterFault (masterOfSlot s) code 21 s d0 d1

/-- The reset values of R223, with any stall or WAIT abandoned and the KICKED latch cleared (R243). -/
def Dev.clearSlot (d : Dev) (s : Nat) : Dev :=
  let d := d.leaveFlumes s
  let d := if d.apparent s == 3 then d.leaveWait s 0 else d
  ((d.setSlot s Slot.reset).wr (CORES.STATUS_KICKED s) 0).wr (CORES.STATUS_BRKHIT s) 0

/-- Slot `s` becomes UNSERVED: its state is discarded (R344), and so are CTRL writes that waited for it (R242). -/
def Dev.unserve (d : Dev) (s : Nat) : Dev :=
  let d := (d.clearSlot s).modRepair fun r => { r with paused := Store.put none r.paused s none }
  ((d.setSlotState s 6).wr (assignFld s) 15).fault (mkUnitFault 0x14 21 s 0 0)

/-- The core reset of a slot (K, R243): HALTED. -/
def Dev.coreResetSlot (d : Dev) (s : Nat) : Dev := (d.clearSlot s).setSlotState s 0

/-- The state of a rotated slot cannot be copied (R338): a core reset, HALTED; LB.0 starts at 0x0000. -/
def Dev.stateLost (d : Dev) (s pc : Nat) : Dev :=
  let d := (d.coreResetSlot s).fault (Dev.slotFault s 0x13 pc 0)
  if s == 8 then d.setSlotState s 1 else d

/-- Every unit of a kind is gone (R29, R344). -/
def Dev.kindGone (d : Dev) (kind : Nat) : Dev :=
  if (d.serving kind).isEmpty then d.fatal (mkUnitFault 0x21 kind kind 0 0) else d

/-- Slot `s` goes to ROTATING (R341). -/
def Dev.pauseSlot (d : Dev) (s : Nat) : Dev :=
  if (d.pausedAs s).isSome then d
  else
    let was := d.slotState s
    (d.wr (CORES.STATUS_STATE s) 5).modRepair fun r => { r with paused := Store.put none r.paused s (some ⟨was, []⟩) }

/-- Whether slot `s` is where a rotation may take it (R237, R341, R342): between instructions, not inside a REP; a slot that does not run does
not wait. -/
def Dev.atBoundary (d : Dev) (s : Nat) : Bool :=
  d.slotState s != 1 || (match (d.slot s).rep with
    | some r => r.isRepI
    | none => true)

/-- Whether a rotation of a kind is under way. -/
def Dev.rotating (d : Dev) (kind : Nat) : Bool := d.repair.rots.any fun r => r.kind == kind

/-- A rotation begins (R341). -/
def Dev.beginRot (d : Dev) (r : CoreRot) : Dev :=
  (((d.pauseSlot r.slot).modRepair fun x => { x with rots := x.rots ++ [r] }).wr REPAIR.STATUS_BUSY 1).wr REPAIR.STATUS_KIND r.kind

/-- The fence of unit `q.unit` is carried out (R338, R344, R349): a slot that it serves moves to the spare, else to the unit of the
highest-numbered serving slot, which becomes UNSERVED. -/
def Dev.fenceNow (d : Dev) (q : CoreReq) : Dev :=
  let kind := q.kind
  let u := q.unit
  let spare := d.rd (spareFld kind)
  let d := match (d.serving kind).filter (fun s => d.rd (assignFld s) == u) |>.head?, (d.serving kind).reverse.head? with
    | some s, some h =>
      let rot (target : Nat) (written : Bool) : CoreRot :=
        ⟨kind, s, target, if written then none else some (u, q.agent, q.agentNo), false, q.agent != 5, q.lost⟩
      if spare != 15 then ((d.dropTest kind).setSpare kind 15).beginRot (rot spare false)
      else
        let freed := d.rd (assignFld h)
        let d := d.fault ⟨0x12, kind, u, if h == s then 0xFF else freed, d.stillServing kind - 1, 5, q.agent, q.agentNo, false⟩
        if h == s then (d.unserve h).kindGone kind else (d.unserve h).beginRot (rot freed true)
    | _, _ =>
      let d := if spare == u then (d.dropTest kind).setSpare kind 15 else d
      d.fencedRecord kind u 0xFF 4 q.agent q.agentNo
  d.syncRepair

/-- Whether a request can be carried out now (R342 to R344): no rotation of its kind is under way, the loader is not busy, and the slot that
is to move or to give up its unit has reached an instruction boundary. -/
def Dev.coreReqReady (d : Dev) (q : CoreReq) : Bool :=
  !d.rotating q.kind && !d.on CORES.PL_STATUS_BUSY &&
    match q.slot with
    | some s => d.atBoundary s
    | none =>
      d.rd (spareFld q.kind) != 15 || (d.serving q.kind).all (fun s => d.rd (assignFld s) != q.unit) ||
        ((d.serving q.kind).reverse.head?.map d.atBoundary).getD true

/-- A request is carried out.  A live rotation finds the spare taken by a failure, and is over, or begins. -/
def Dev.serveCoreReq (d : Dev) (q : CoreReq) : Dev :=
  match q.slot with
  | none => d.fenceNow q
  | some s =>
    if d.rd (spareFld q.kind) != q.unit || d.rd (assignFld s) == 15 then d
    else d.beginRot ⟨q.kind, s, q.unit, none, true, false, false⟩

/-- The waiting requests of a kind are carried out in order as far as they can be (R343). -/
def Dev.serveCores (d : Dev) (kind : Nat) : Nat → Dev
  | 0 => d
  | n + 1 =>
    match (d.repair.coreQueue.filter fun q => q.kind == kind).head? with
    | none => d
    | some q =>
      if d.coreReqReady q then
        ((d.modRepair fun r => { r with coreQueue := r.coreQueue.erase q }).serveCoreReq q).serveCores kind n
      else d

/-- A request joins those of its kind and is carried out as soon as it can be. -/
def Dev.askCore (d : Dev) (q : CoreReq) : Dev :=
  let d := d.modRepair fun r => { r with coreQueue := r.coreQueue ++ [q] }
  d.serveCores q.kind d.repair.coreQueue.length

/-- A unit of a kind that an activation or its trial converts is fenced: Amelaog falls back with DETAIL 3 (R394). -/
def Dev.amFence (d : Dev) (kind : Nat) : Dev :=
  let st := d.rd SYS.AM_STATUS_STATE
  let set_ := d.rd SYS.AM_STATUS_SET
  let inSet := if kind == 2 then set_.testBit 0 else if kind == 3 then set_.testBit 1 || set_.testBit 3 else kind == 1 && set_.testBit 2
  if (st == 4 || st == 5) && inSet then d.amFallStart 3 else d

/-- Core unit `u` of kind 2 or 3 is fenced (R338, R341, R344, R349): a slot that it serves goes to ROTATING, and a live rotation that has not
begun gives way to the failure (R343). -/
def Dev.fenceCore (d : Dev) (kind u agent agentNo : Nat) (lost : Bool := false) : Dev :=
  let d := d.markFence kind u
  let d := match (d.serving kind).filter (fun s => d.rd (assignFld s) == u) |>.head? with
    | some s => (d.pauseSlot s).modRepair fun r => { r with coreQueue := r.coreQueue.filter fun q => q.kind != kind || q.slot.isNone }
    | none => d
  ((d.askCore ⟨kind, none, u, agent, agentNo, lost⟩).syncRepair).amFence kind

/-! ### The beginning of a test -/

/-- The unit kind of a schedule: 1 lanes, 2 Spindle, 3 Bowl, 4 Chisel, 5 to 10 the bank groups. -/
def schedKind (k : Nat) : Nat := min k 5

/-- The schedule of a unit. -/
def schedOf (kind inst : Nat) : Nat := if kind == 5 then 5 + inst / 17 else kind

/-- A test of unit `inst` begins under a schedule. -/
def Dev.startTest (d : Dev) (k inst : Nat) (retest : Bool) : Dev :=
  ((d.modRepair fun r => { r with tests := Store.put none r.tests k (some ⟨inst, retest⟩) }).wr REPAIR.STATUS_BUSY 1).wr
    REPAIR.STATUS_KIND (schedKind k)

/-- The retests that waited for the loader begin (R244, R345). -/
def Dev.serveRetests (d : Dev) : Dev :=
  d.repair.retests.foldl (fun d (kind, inst) =>
    if d.unitFenced kind inst && (Store.get none d.repair.tests kind).isNone then d.startTest kind inst true
    else d.wr REPAIR.CMD_STATUS_RESULT 1) (d.modRepair fun r => { r with retests := [] })

/-! ### Chisel cores, lanes, banks, non-spared units -/

/-- Serving position `i` of Chisel takes core `c`; 255 leaves it without one. -/
def Dev.setCorePos (d : Dev) (i c : Nat) : Dev := { d with chisel := { d.chisel with pos := Store.put i d.chisel.pos i c } }

/-- Chisel core `c` is fenced (R174): its job ends FAULT, and the spare takes its place. -/
def Dev.fenceChisel (d : Dev) (c agent agentNo : Nat) : Dev :=
  let d := d.markFence 4 c
  let d := match (d.chisel.jobs.filter fun j => j.core == c).head? with
    | some j => d.cutJob j 0x0F
    | none => d
  let d := match (List.range 8).filter (fun i => d.corePos i == c) |>.head? with
    | some i =>
      let spare := d.rd (spareFld 4)
      if spare != 15 then
        let d := (((d.dropTest 4).setSpare 4 15).setCorePos i spare).inc REPAIR.ROTATIONS_COUNT
        d.fencedRecord 4 c spare 3 agent agentNo
      else (d.setCorePos i 255).fencedRecord 4 c 0xFF 5 agent agentNo
    | none =>
      let d := if d.rd (spareFld 4) == c then (d.dropTest 4).setSpare 4 15 else d
      d.fencedRecord 4 c 0xFF 4 agent agentNo
  d.syncRepair

/-- The Chisel core that a live test chose moves to the spare once it is idle (R346). -/
def Dev.settleChiselMove (d : Dev) : Dev :=
  match d.repair.chiselMove with
  | none => d
  | some i =>
    let c := d.corePos i
    let spare := d.rd (spareFld 4)
    if d.coreBusy c then d
    else
      let d := d.modRepair fun r => { r with chiselMove := none }
      if c == 255 || spare == 15 then d else ((d.setCorePos i spare).setSpare 4 c).inc REPAIR.ROTATIONS_COUNT

/-- Lane `n` in SEARCH or DEMOD ends FAULT (R48, R64): RX_LEN and EVM are 0; what its buffer holds the air supplied. -/
def Dev.faultLane (d : Dev) (n : Nat) : Dev :=
  let l := d.lane n
  if !l.state.running then d
  else
    let d := match l.buf with
      | some w =>
        let (o, d) := d.drawOctets (l.phrLen - 1)
        d.sramWrites w.toNat (bytesWords o)
      | none => d
    d.endLane n 0xA [] 0

/-- Lane `n` is fenced (R48, R66): a test of it ends without a result, a running frame ends FAULT and its record is written, and the lane never writes again. -/
def Dev.fenceLane (d : Dev) (n agent agentNo : Nat) : Dev :=
  let d := if (Store.get none d.repair.tests 1).any fun t => t.inst == n then d.dropTest 1 else d
  let d := (((d.faultLane n).drainEnd n).faultLane n).drainEnd n
  let d := ((d.unlink n).markFence 1 n).modLane n fun _ => { Lane.blank with state := .fenced }
  let d := (List.range 16).foldl (fun d j => if d.pinLane j == some n then d.setPinLane j none else d) d
  (d.fencedRecord 1 n 0xFF (if 64 ≤ d.stillServing 1 then 3 else 5) agent agentNo).syncRepair.amFence 1

/-- A fence of the physical bank of logical bank `l` that no spare can replace takes the bank out of service (R274, R340). -/
def Dev.bankOutOfService (d : Dev) (l agent agentNo : Nat) : Dev :=
  let b := d.physBank l
  let d := (d.markFence 5 b).modRepair fun r => { r with bankOut := r.bankOut ++ [l] }
  (d.fencedRecord 5 b 0xFF 5 agent agentNo).syncRepair

/-- The physical bank of logical bank `l` is to be fenced by rotation onto the group's spare (R274); a FENCE command without a spare takes
the bank out of service, any other cause leaves it (R340). -/
def Dev.retireBank (d : Dev) (q : BankReq) : Dev :=
  let spare := d.groupSpare (q.logical / 16)
  if spare == 255 then (if q.forced then d.bankOutOfService q.logical q.agent q.agentNo else d)
  else (d.dropTest (5 + q.logical / 16)).startBankCopy ⟨q.logical, spare, true, q.agent, q.agentNo⟩

/-- FENCE of physical bank `b` (R349): a bank that a running rotation is leaving is fenced at its end, and one that it moves onto waits for its
end (R274, R343). -/
def Dev.fenceBank (d : Dev) (b agent agentNo : Nat) : Dev :=
  match d.bankServed b with
  | some l =>
    let q : BankReq := ⟨l, true, agent, agentNo⟩
    match d.repair.bankCopy with
    | none => d.retireBank q
    | some c =>
      if c.logical == l then d.modRepair fun r => { r with bankCopy := some { c with fenceOld := true, agent := agent, agentNo := agentNo } }
      else d.modRepair fun r => { r with bankQueue := r.bankQueue ++ [q] }
  | none =>
    if d.repair.bankCopy.any fun c => c.target == b then
      d.modRepair fun r => { r with bankQueue := r.bankQueue ++ [⟨(r.bankCopy.map BankCopy.logical).getD 0, true, agent, agentNo⟩] }
    else
    let d := d.markFence 5 b
    let d := if d.groupSpare (b / 17) == b then (d.dropTest (5 + b / 17)).setGroupSpare (b / 17) 255 else d
    (d.fencedRecord 5 b 0xFF 4 agent agentNo).syncRepair

/-- A non-spared unit (KIND 6 to 14) is lost (R28): it stops, and the device continues without it. -/
def Dev.fenceUnspared (d : Dev) (kind inst agent agentNo : Nat) : Dev :=
  let d := d.markFence kind inst
  let d := match kind with
    | 6 => d.fenceSyn inst
    | 7 => d.fenceTx inst
    | 8 => d.abortPort inst
    | 9 => d.abortPort inst
    | 10 => d.fenceAq inst
    | 12 => d.setHeldCmds []
    | 13 => { d with qsp := { d.qsp with frames := Store.put none d.qsp.frames inst none } }
    | 14 => d.cistCut
    | _ => d
  d.fencedRecord kind inst 0xFF 5 agent agentNo

/-- Fences unit (kind, inst) as a failure would (R349). -/
def Dev.fenceUnit (d : Dev) (kind inst agent agentNo : Nat) : Dev :=
  match kind with
  | 1 => d.fenceLane inst agent agentNo
  | 2 => d.fenceCore 2 inst agent agentNo
  | 3 => d.fenceCore 3 inst agent agentNo
  | 4 => d.fenceChisel inst agent agentNo
  | 5 => d.fenceBank inst agent agentNo
  | _ => d.fenceUnspared kind inst agent agentNo

/-! ### The live map at a load (R351) -/

/-- Repairs of one bank merged: the stored halves stay, and a previous row that is not among them takes a free half. -/
def mergeRows (stored prev : Word) : Word :=
  let half (w : Word) (k : Nat) : Nat := bitsOf w (16 * k) 16
  let add (w : Word) (h : Nat) : Word :=
    if h < 0x8000 || half w 0 == h || half w 1 == h then w
    else if half w 0 < 0x8000 then setBits w 0 16 h
    else if half w 1 < 0x8000 then setBits w 16 16 h
    else w
  add (add stored (half prev 0)) (half prev 1)

/-- The octets of map words `ws` (R124: address order). -/
def mapOctets (ws : List Word) : List Byte := ws.flatMap octetsOf

/-- The live map's words 0 to 254. -/
def Dev.liveMap (d : Dev) : List Word := (List.range 255).map fun w => d.reg (REPAIR.MAP_at w)

/-- The map window's CRC, word 255 (R351). -/
def Dev.mapCrc (d : Dev) : Word := Word.ofNat (crc32 (mapOctets d.liveMap))

/-- The stored map's words 0 to 255. -/
def Dev.storedMap (c : Cells) (d : Dev) : List Word := (List.range 256).map fun w => d.optWord c (0x200 + 4 * w)

/-- Whether the stored map's header and CRC hold (R351). -/
def mapGood (ws : List Word) : Bool :=
  ws.getD 0 0#32 == 0x52A70001#32 && (ws.getD 255 0#32).toNat == crc32 (mapOctets (ws.take 255))

/-- Map word `w` with the previous live map's fences and row repairs added. -/
def mergeWord (w : Nat) (stored prev : Word) : Word :=
  if w == 0 then stored else if 128 ≤ w && w < 230 then mergeRows stored prev else if w < 11 then stored ||| prev else stored

/-- The lowest-numbered unfenced units of a kind. -/
def Dev.goodUnits (d : Dev) (kind : Nat) : List Nat := (List.range (unitCount kind)).filter fun u => !d.unitFenced kind u

/-- The slots of a kind are given the lowest-numbered unfenced units in slot order; the remaining unit is the spare (R351). -/
def Dev.assignSlots (d : Dev) (kind : Nat) : Dev :=
  let us := d.goodUnits kind
  let slots := slotsOf kind
  let d := slots.zipIdx.foldl (fun d (s, i) => d.wr (assignFld s) (us.getD i 15)) d
  d.setSpare kind (us.getD slots.length 15)

/-- The banks of a group are served by their own physical banks; the spare serves the lowest-numbered logical bank whose physical bank is
fenced, and a further one is out of service (R274, R351). -/
def Dev.assignGroup (d : Dev) (g : Nat) : Dev :=
  let lost := (List.range 16).filter fun i => d.unitFenced 5 (17 * g + i)
  let spareOk := !d.unitFenced 5 (17 * g + 16)
  let d := (List.range 16).foldl (fun d i => d.setPhysBank (16 * g + i) (17 * g + i)) d
  let d := match lost.head? with
    | some i => if spareOk then d.setPhysBank (16 * g + i) (17 * g + 16) else d
    | none => d
  let out := if spareOk then lost.tail else lost
  let d := d.modRepair fun r => { r with bankOut := r.bankOut ++ out.map fun i => 16 * g + i }
  d.setGroupSpare g (if spareOk && lost.isEmpty then 17 * g + 16 else 255)

/-- Units are assigned from the live map (R351); what was in progress is gone. -/
def Dev.assignUnits (d : Dev) : Dev :=
  let d := d.modRepair fun r => { r with
    bankOut := [], rowCopies := [], bankCopy := none, bankQueue := [], tests := [], chiselMove := none, rots := [], coreQueue := [],
    paused := [], retests := [] }
  let d := (d.assignSlots 2).assignSlots 3
  let us := d.goodUnits 4
  let d := ((List.range 8).foldl (fun d i => d.setCorePos i (us.getD i 255)) d).setSpare 4 (us.getD 8 15)
  let d := (List.range 6).foldl Dev.assignGroup d
  let d := laneNos.foldl (fun d n => d.setLane n (if d.unitFenced 1 n then { Lane.blank with state := .fenced } else Lane.blank)) d
  d.syncRepair

/-- The live map at an option-area load (R351); `prev` is the previous live map, `fresh` after C and W. -/
def Dev.loadMap (c : Cells) (d : Dev) (prev : List Word) (fresh : Bool) : Dev :=
  let st := d.storedMap c
  let good := mapGood st
  let d := d.wrB REPAIR.STATUS_MAP_OK good
  let d := if good then d
    else d.fault (mkUnitFault 0x16 18 0 (st.getD 255 0#32).toNat (crc32 (mapOctets (st.take 255))))
  let empty (w : Nat) : Word := if w == 0 then 0x52A70001#32 else 0#32
  let d := (List.range 255).foldl (fun d w =>
    let old := prev.getD w 0#32
    d.setReg (REPAIR.MAP_at w)
      (if good then (if fresh then st.getD w 0#32 else mergeWord w (st.getD w 0#32) old) else if fresh then empty w else old)) d
  d.assignUnits

/-- REPAIR.STATUS.DIRTY (R351): the live map holds a fence or repair that the stored map lacks. -/
def Dev.mapDirty (c : Cells) (d : Dev) : Bool :=
  let st := d.storedMap c
  (List.range 230).any fun w =>
    let s := if mapGood st then st.getD w 0#32 else 0#32
    w != 0 && (d.reg (REPAIR.MAP_at w) &&& ~~~s) != 0#32

end Sys2Proof.Machine
end

