-- ==== Sys2Proof/Machine/Images.lean ====
section
/-! DEFINITION. Images in the Cistern: reading and checking them, the boot choice, and the load of program memories, decode tables and
microcode stores (R245, R380 to R382, R396). -/

namespace Sys2Proof.Machine

/-! ### Reading an image (R381, R382) -/

/-- Whether array block `b` can be read: no operation has its cells in no defined state (R284, R288). -/
def Dev.blockReadable (d : Dev) (b : Nat) : Bool :=
  let a := 0x08000000 + 0x10000 * b
  !(d.cist.op.map fun o => o.meets a).getD false && !(d.cist.susp.map fun o => o.meets a).getD false && !d.cist.incomplete.contains b

/-- The number of bits in error of a line. -/
def CistLine.errors (l : CistLine) : Nat := lineErrors l.flip

/-- Whether the line at array address `a` can be read and corrected (R277, R278). -/
def Dev.lineReadable (d : Dev) (a : Nat) : Bool :=
  d.blockReadable (cistBlock a) &&
    match d.cistLine (cistLineNo a) with
    | none => true
    | some l => !l.torn && decide (l.errors ≤ 2)

/-- Whether the line at array address `a` is PROGRAMMED (R277). -/
def Dev.lineProgrammed (d : Dev) (a : Nat) : Bool := d.lineReadable a && (d.cistLine (cistLineNo a)).isSome

/-- The array word at `a` as corrected; erased words read all ones. -/
def Dev.imageWord (d : Dev) (a : Nat) : Word :=
  match d.cistLine (cistLineNo a) with
  | none => 0xFFFFFFFF#32
  | some l => lineWord l.data (a % 32 / 4)

/-- Word `i` of the header of type `t` in slot `k`. -/
def Dev.imageHdr (d : Dev) (t k i : Nat) : Word := d.imageWord (regionAt t k + 4 * i)

/-- LENGTH as the STORED line gives it. -/
def Dev.imageLen (d : Dev) (t k : Nat) : Nat := (d.imageWord (regionEnd t k - 96 + 8)).toNat

/-- Octet `j` of the body; 0 beyond LENGTH (R380). -/
def Dev.imageOctet (d : Dev) (t k j : Nat) : Nat :=
  if j < d.imageLen t k then bitsOf (d.imageWord (regionAt t k + 256 + j - j % 4)) (8 * (j % 4)) 8 else 0

/-- `n` octets of the body from octet `j`, as a little-endian number. -/
def Dev.imageNum (d : Dev) (t k j n : Nat) : Nat := (List.range n).foldr (fun i x => x * 256 + d.imageOctet t k (j + i)) 0

/-- The octets of header and body (R381). -/
def Dev.imageOctets (d : Dev) (t k : Nat) : List Byte :=
  ((List.range (64 + (d.imageLen t k + 3) / 4)).flatMap fun i => octetsOf (d.imageHdr t k i)).take (256 + d.imageLen t k)

/-- Whether the image carries a STORED line (R381). -/
def Dev.imageStored (d : Dev) (t k : Nat) : Bool := d.lineProgrammed (regionEnd t k - 96)

/-- Whether LENGTH lies in the type's range, and every line of header and body can be read. -/
def Dev.imageReadable (d : Dev) (t k : Nat) : Bool :=
  decide (d.imageLen t k ≤ imageMax t) && (List.range (8 + (d.imageLen t k + 31) / 32)).all fun i => d.lineReadable (regionAt t k + 32 * i)

/-- A slot is valid (R381): its STORED line is PROGRAMMED and its CRC matches. -/
def Dev.imageValid (d : Dev) (t k : Nat) : Bool :=
  d.imageStored t k && 1 ≤ d.imageLen t k && d.imageReadable t k &&
    crc32 (d.imageOctets t k) == (d.imageWord (regionEnd t k - 96 + 4)).toNat

/-- Whether the slot's image is CONFIRMED, and its activation sequence (R381). -/
def Dev.imageConfirmed (d : Dev) (t k : Nat) : Bool := d.lineProgrammed (regionEnd t k - 64)

/-- The activation sequence of a CONFIRMED image. -/
def Dev.imageSeq (d : Dev) (t k : Nat) : Nat := (d.imageWord (regionEnd t k - 64 + 4)).toNat

/-- Whether the slot's image is revoked (R381). -/
def Dev.imageRevoked (d : Dev) (t k : Nat) : Bool := d.lineProgrammed (regionEnd t k - 32)

/-- VERSION, PROVIDES and RESUME of an image (R382). -/
def Dev.imageVersion (d : Dev) (t k : Nat) : Word := d.imageHdr t k 3
/-- PROVIDES of an image (R382). -/
def Dev.imageProvides (d : Dev) (t k : Nat) : Word := d.imageHdr t k 4
/-- RESUME of an image (R382). -/
def Dev.imageResume (d : Dev) (t k : Nat) : Nat := bitsOf (d.imageHdr t k 16) 0 16

/-- A valid, unconfirmed, unrevoked image (R391). -/
def Dev.imageFresh (d : Dev) (t k : Nat) : Bool := d.imageValid t k && !d.imageConfirmed t k && !d.imageRevoked t k

/-- The reads of an image take place: errors are corrected and counted as any load's are (R278).  Of a region without an image, only the
STORED line is read. -/
def Dev.readImage (d : Dev) (t k : Nat) : Dev :=
  let words := if d.imageLen t k ≤ imageMax t then 64 + (d.imageLen t k + 3) / 4 else 0
  (List.range words).foldl (fun d i => (d.cistLoad (regionAt t k + 4 * i)).2) (d.cistLoad (regionEnd t k - 96)).2

/-! ### Slots in force (R397) -/

/-- AM_SLOTS.INFORCE of type `t`. -/
def inforceFld (t : Nat) : Fld := ⟨SYS.AM_SLOTS_at, 4 * (t - 1), 2⟩

/-- The slot in force for type `t`: 0, 1, 2 golden, 3 none. -/
def Dev.inforce (d : Dev) (t : Nat) : Nat := d.rd (inforceFld t)

/-- The types. -/
def imageTypes : List Nat := [1, 2, 3, 4, 5, 6]

/-- WAITING_t follows the slots (R397). -/
def Dev.syncWaiting (d : Dev) : Dev :=
  imageTypes.foldl (fun d t =>
    d.wrB ⟨SYS.AM_SLOTS_at, 4 * (t - 1) + 2, 1⟩ ([0, 1].any fun k => k != d.inforce t && d.imageFresh t k)) d

/-- Slot `k` comes into force for type `t`: AM_SLOTS, AM_VER and AM_IF (R397). -/
def Dev.setInforce (d : Dev) (t k : Nat) : Dev :=
  let d := d.wr (inforceFld t) k
  if k == 3 then (d.setReg (SYS.AM_VER_at (t - 1)) 0#32).setReg (SYS.AM_IF_at (t - 1)) 0#32
  else (d.setReg (SYS.AM_VER_at (t - 1)) (d.imageVersion t k)).setReg (SYS.AM_IF_at (t - 1)) (d.imageProvides t k)

/-! ### The boot choice (R396) -/

/-- The automatic candidates: CONFIRMED, unrevoked slots, the higher sequence first, then the higher VERSION, then slot 0; then golden. -/
def Dev.autoCandidates (d : Dev) (t : Nat) : List Nat :=
  let ok (k : Nat) : Bool := d.imageStored t k && d.imageConfirmed t k && !d.imageRevoked t k
  let oneFirst := d.imageSeq t 0 < d.imageSeq t 1 ||
    (d.imageSeq t 0 == d.imageSeq t 1 && (d.imageVersion t 0).toNat < (d.imageVersion t 1).toNat)
  ((if oneFirst then [1, 0] else [0, 1]).filter ok) ++ [2]

/-- The candidates of type `t` in order, by its choice octet. -/
def Dev.candidates (d : Dev) (t choice : Nat) : List Nat :=
  if choice ≤ 2 then choice :: (d.autoCandidates t).filter fun k => k != choice else d.autoCandidates t

/-- The choice octet of type `t`. -/
def Dev.choiceOctet (c : Cells) (d : Dev) (t : Nat) : Nat := bitsOf (d.optWord c (0x40 + (t - 1) - (t - 1) % 4)) (8 * ((t - 1) % 4)) 8

/-- The first of the candidates that is valid, each being read in turn. -/
def Dev.firstValid (d : Dev) (t : Nat) : List Nat → Option Nat × Dev
  | [] => (none, d)
  | k :: r =>
    let d := d.readImage t k
    if d.imageValid t k then (some k, d) else d.firstValid t r

/-- The image of type `t` is chosen (R396); CORES.EVENTS.FALLBACK notes a corrupt octet or a candidate passed over. -/
def Dev.chooseImage (c : Cells) (d : Dev) (t : Nat) : Dev :=
  let choice := d.choiceOctet c t
  let cand := d.candidates t choice
  let (found, d) := d.firstValid t cand
  let d := if (3 ≤ choice && choice != 0xFF) || found != cand.head? then d.setF CORES.EVENTS_FALLBACK else d
  d.setInforce t (found.getD 3)

/-! ### Loading units (R245, R380) -/

/-- The physical units of a kind (0 Spindle, 1 Bowl) as keys of the core memories: Spindle units 0 to 8, Bowl units 16 to 20. -/
def unitKeys (kind : Nat) : List Nat := if kind == 0 then List.range 9 else [16, 17, 18, 19, 20]

/-- Program-memory words of a kind. -/
def kindSize (kind : Nat) : Nat := if kind == 0 then 0x4000 else 0x10000

/-- Bits of a program word of a kind. -/
def kindBits (kind : Nat) : Nat := if kind == 0 then 12 else 14

/-- The key of a program word in the core memories' error bits. -/
def progKey (u a : Nat) : Nat := u * 0x10000 + a
/-- The key of a decode-table entry. -/
def decodeKey (u a : Nat) : Nat := 0x200000 + u * 32 + a
/-- The key of a microcode word. -/
def ucodeKey (u a : Nat) : Nat := 0x300000 + u * 1024 + a

/-- The physical bits of a code word that differ from what the loader stored (R272). -/
def Dev.codeErr (d : Dev) (k : Nat) : BitVec 55 := Store.get 0#55 d.cores.codeFlip k

/-- Replaces the error bits of a code word. -/
def Dev.setCodeErr (d : Dev) (k : Nat) (e : BitVec 55) : Dev :=
  { d with cores := { d.cores with codeFlip := Store.put 0#55 d.cores.codeFlip k e } }

/-- How many bits of a code word are wrong. -/
def Dev.codeErrs (d : Dev) (k : Nat) : Nat := (List.range 55).countP fun i => (d.codeErr k).getLsbD i

/-- Whether a code word cannot be corrected (R272): SEC-DED corrects one bit. -/
def Dev.codeBad (d : Dev) (k : Nat) : Bool := d.codeErr k != 0#55 && decide (2 ≤ d.codeErrs k)

/-- What a word of error bits delivers beside what was stored: the wrong bits stay where they cannot be corrected. -/
def Dev.codeRest (d : Dev) (k : Nat) : BitVec 55 := if d.codeBad k then d.codeErr k else 0#55

/-- A code word that one bit spoils is written back corrected (R272). -/
def Dev.codeFix (d : Dev) (k : Nat) : Dev := if d.codeErr k == 0#55 || d.codeBad k then d else d.setCodeErr k 0#55

/-- Writes a program word of a unit, with its code (R244). -/
def Dev.putProg (d : Dev) (u a v : Nat) : Dev :=
  ({ d with cores := { d.cores with prog := Store.put 0#14 d.cores.prog (u * 0x10000 + a) (BitVec.ofNat 14 v) } } : Dev).setCodeErr (progKey u a) 0#55

/-- The program word of a unit as its code delivers it. -/
def Dev.progWord (d : Dev) (u a : Nat) : BitVec 14 :=
  Store.get 0#14 d.cores.prog (u * 0x10000 + a) ^^^ (d.codeRest (progKey u a)).setWidth 14

/-- Writes a decode-table entry of a unit, with its code. -/
def Dev.putDecode (d : Dev) (u a : Nat) (v : Word) : Dev :=
  ({ d with cores := { d.cores with decode := Store.put 0#32 d.cores.decode (u * 32 + a) v } } : Dev).setCodeErr (decodeKey u a) 0#55

/-- A decode-table entry of a unit as its code delivers it. -/
def Dev.decodeEntry (d : Dev) (u a : Nat) : Word :=
  Store.get 0#32 d.cores.decode (u * 32 + a) ^^^ (d.codeRest (decodeKey u a)).setWidth 32

/-- Writes a microcode word of a unit, with its code (R264). -/
def Dev.putUcode (d : Dev) (u a : Nat) (v : BitVec 48) : Dev :=
  ({ d with cores := { d.cores with ucode := Store.put 0#48 d.cores.ucode (u * 1024 + a) v } } : Dev).setCodeErr (ucodeKey u a) 0#55

/-- A microcode word of a unit as its code delivers it. -/
def Dev.ucodeWord (d : Dev) (u a : Nat) : BitVec 48 :=
  Store.get 0#48 d.cores.ucode (u * 1024 + a) ^^^ (d.codeRest (ucodeKey u a)).setWidth 48

/-- Loads the program image of a kind from slot `k` into unit `u`; words beyond LENGTH are 0. -/
def Dev.loadProg (d : Dev) (kind u k : Nat) : Dev :=
  let d0 := d
  (List.range (kindSize kind)).foldl (fun d i => d.putProg u i (d0.imageNum (kind + 1) k (2 * i) 2 % 2 ^ kindBits kind)) d

/-- Loads the BOWL_UCODE image from slot `k` into unit `u`: 32 decode-table words, then 1,024 microcode words. -/
def Dev.loadUcode (d : Dev) (u k : Nat) : Dev :=
  let d0 := d
  let d := (List.range 32).foldl (fun d i => d.putDecode u i (Word.ofNat (d0.imageNum 4 k (4 * i) 4))) d
  (List.range 1024).foldl (fun d i => d.putUcode u i (BitVec.ofNat 48 (d0.imageNum 4 k (128 + 6 * i) 6))) d

/-- Loads every image of a kind into unit `u`, from slot `kp` and, for Bowl, the microcode from slot `ku`. -/
def Dev.loadUnit (d : Dev) (kind u kp ku : Nat) : Dev :=
  let d := d.loadProg kind u kp
  if kind == 0 then d else d.loadUcode u ku

/-- IMGVER[k] and IFVER[k] take the values of the image of type `t` in slot `k`. -/
def Dev.setImgVer (d : Dev) (kind k : Nat) : Dev :=
  (d.setReg (CORES.IMGVER_at kind) (d.imageVersion (kind + 1) k)).setReg (CORES.IFVER_at kind) (d.imageProvides (kind + 1) k)

/-- The end of the boot load (R245, R396): the images in force are loaded into every unit and LB.0 starts at 0x0000; a type with no valid
candidate makes BOOT.STATE FAILED and no slot starts. -/
def Dev.bootLoad (c : Cells) (d : Dev) : Dev :=
  let d := (imageTypes.foldl (fun d t => d.chooseImage c t) d).syncWaiting
  let d := ((d.wr CORES.BOOT_SRC_S (d.inforce 1)).wr CORES.BOOT_SRC_B (d.inforce 2)).wr CORES.BOOT_SRC_U (d.inforce 4)
  if imageTypes.any fun t => d.inforce t == 3 then d.wr CORES.BOOT_STATE 2
  else
    let d := (unitKeys 0).foldl (fun d u => d.loadUnit 0 u (d.inforce 1) 0) d
    let d := (unitKeys 1).foldl (fun d u => d.loadUnit 1 u (d.inforce 2) (d.inforce 4)) d
    let d := (d.setImgVer 0 (d.inforce 1)).setImgVer 1 (d.inforce 2)
    let d := (List.range 12).foldl (fun d s => if d.slotState s == 6 then d else (d.setSlot s Slot.reset).setSlotState s (if s == 8 then 1 else 0)) d
    d.wr CORES.BOOT_STATE 1

/-- BOOT_LOAD_DONE (R245). -/
def execBootLoadDone (s : State) : Host.Outcome State Fault Refusal :=
  onDevC s fun c d =>
    if d.rd CORES.BOOT_STATE != 0 || d.on SLUICE.STATUS_STOPPED || d.well.coreOff || !d.running then d else d.bootLoad c

end Sys2Proof.Machine
end

