-- ==== Sys2Proof/Machine/CoreCtl.lean ====
section
/-! DEFINITION. Control of the core slots, the CORES loader and the debug port (R241 to R246). -/

namespace Sys2Proof.Machine

/-! ### Slot control (R241 to R243) -/

/-- START: a HALTED slot runs from its PC, passing a breakpoint there. -/
def Dev.startSlot (d : Dev) (s : Nat) : Dev :=
  if d.slotState s == 0 then
    ((d.modSlot s fun v => { v with passBrk := true, stepping := false, haltAfter := false }).setSlotState s 1).wr (CORES.STATUS_BRKHIT s) 0
  else d

/-- HALT of a slot that runs: at once, or after the repetition of a REP (R237). -/
def Dev.haltRunning (d : Dev) (s : Nat) : Dev :=
  match (d.slot s).rep with
  | some r => if r.isRepI then d.setSlotState s 0 else d.modSlot s fun v => { v with haltAfter := true }
  | none => d.setSlotState s 0

/-- HALT (R243): a stalled slot takes an entry already there and then halts, or abandons its read; a parked slot leaves WAIT. -/
def Dev.haltSlot (d : Dev) (s : Nat) : Dev :=
  if d.slotState s == 1 then d.haltRunning s
  else if d.slotState s == 3 then d.leaveWait s 0
  else if d.slotState s == 2 then
    let d := match (d.slot s).pend with
      | some p => d.settleFlume p.flume
      | none => d
    if d.slotState s == 1 then d.haltRunning s
    else if d.slotState s == 2 then ((d.leaveFlumes s).modSlot s fun v => { v with pend := none }).setSlotState s 0
    else d
  else d

/-- STEP of a HALTED slot: it runs until its next instruction, iteration or repetition ends (R242). -/
def Dev.stepSlot (d : Dev) (s : Nat) : Dev :=
  if d.slotState s == 0 then (d.modSlot s fun v => { v with passBrk := true, stepping := true, haltAfter := false }).setSlotState s 1 else d

/-- RESET (R243). -/
def Dev.resetSlot (d : Dev) (s : Nat) : Dev := if d.slotState s == 7 then d else d.coreResetSlot s

/-- A write of CORES.CTRL[s] takes effect (R241 to R243, R246): RESET, HALT, START, STEP, KICK in this order; ignored while the slot is
UNSERVED. -/
def Dev.ctrlApply (d : Dev) (s : Nat) (v : Word) : Dev :=
  if d.slotState s == 6 then d
  else
    let d := if v.getLsbD 3 then d.resetSlot s else d
    let d := if v.getLsbD 1 then d.haltSlot s else d
    let d := if v.getLsbD 0 then d.startSlot s else d
    let d := if v.getLsbD 2 then d.stepSlot s else d
    if v.getLsbD 4 then d.kickSlot s else d

/-- A write of CORES.CTRL[s]: while the slot is ROTATING it waits for the rotation's end (R242). -/
def Dev.ctrlWrite (d : Dev) (s : Nat) (v : Word) : Dev :=
  match d.pausedAs s with
  | some p => d.modRepair fun r => { r with paused := Store.put none r.paused s (some { p with ctrl := p.ctrl ++ [v] }) }
  | none => d.ctrlApply s v

/-- A slot leaves ROTATING for the state it was in, and the CTRL writes that waited take effect (R242). -/
def Dev.unpause (d : Dev) (s : Nat) : Dev :=
  match d.pausedAs s with
  | some p =>
    let d := (d.modRepair fun r => { r with paused := Store.put none r.paused s none }).wr (CORES.STATUS_STATE s) p.was
    p.ctrl.foldl (fun d v => d.ctrlApply s v) d
  | none => d

/-- A core rotation ends (R341, R346): the slot works on its new unit, the unit vacated by a live rotation becomes the spare, and the next
rotation of the kind may begin (R343). -/
def Dev.endRot (d : Dev) (r : CoreRot) : Dev :=
  let old := d.rd (assignFld r.slot)
  let d := (d.moveSlot r.slot r.target).modRepair fun x => { x with rots := x.rots.filter fun y => y != r }
  let d := if r.live then d.setSpare r.kind old else d
  let d := match r.record with
    | some (u, agent, agentNo) => d.fencedRecord r.kind u r.target 3 agent agentNo
    | none => d
  let d := if r.lost then d.stateLost r.slot (d.slot r.slot).pc else d
  let d := ((d.unpause r.slot).repairIdle).syncRepair
  let d := if r.cmd && d.rd REPAIR.CMD_STATUS_RESULT == 6 then d.wr REPAIR.CMD_STATUS_RESULT 0 else d
  d.serveCores r.kind d.repair.coreQueue.length

/-- The core rotations under way end, and those that can begin do (R341 to R344; log entry 57). -/
def Dev.endRots (d : Dev) : Dev :=
  let d := d.repair.rots.foldl Dev.endRot d
  [2, 3].foldl (fun d k => d.serveCores k d.repair.coreQueue.length) d

/-- START. -/
def execStart (s : Fin 12) (st : State) : Host.Outcome State Fault Refusal := onBus st 17 fun d => d.ctrlWrite s.val 0x1#32

/-- HALT. -/
def execHalt (s : Fin 12) (st : State) : Host.Outcome State Fault Refusal := onBus st 17 fun d => d.ctrlWrite s.val 0x2#32

/-- RESET, with START in the same access or not. -/
def execReset (s : Fin 12) (start : Bool) (st : State) : Host.Outcome State Fault Refusal :=
  onBus st 17 fun d => d.ctrlWrite s.val (if start then 0x9#32 else 0x8#32)

/-- KICK. -/
def execKick (s : Fin 12) (st : State) : Host.Outcome State Fault Refusal := onBus st 17 fun d => d.ctrlWrite s.val 0x10#32

/-- WAIT_RESUME (R241): a parked slot that has a reason to resumes at the instruction after WAIT. -/
def execWaitResume (s : Fin 12) (st : State) : Host.Outcome State Fault Refusal :=
  onDev st fun d => if d.running && d.slotState s.val == 3 && d.dueToResume s.val then d.leaveWait s.val 1 else d

/-! ### The loader (R244) -/

/-- The number of words of the memory that PL_CTRL names. -/
def Dev.plSize (d : Dev) : Nat :=
  match d.rd CORES.PL_CTRL_MEM with
  | 0 => kindSize (d.rd CORES.PL_CTRL_KIND)
  | 1 => 32
  | _ => 1024

/-- The reason for which the loader refuses a write. -/
def Dev.plRefusal (d : Dev) : Option Nat :=
  let kind := d.rd CORES.PL_CTRL_KIND
  if d.on CORES.PL_CTRL_TARGET && (!d.cores.spareHeld.contains (kind + 2) || d.rd (spareFld (kind + 2)) == 15) then some 1
  else if d.rd CORES.PL_CTRL_MEM == 3 || (d.rd CORES.PL_CTRL_MEM != 0 && kind == 0) then some 2
  else if d.plSize ≤ d.rd CORES.PL_ADDR_ADDR then some 3
  else none

/-- The key of the spare unit of a kind. -/
def Dev.spareKey (d : Dev) (kind : Nat) : Nat := 16 * kind + d.rd (spareFld (kind + 2))

/-- A committing write of PL_DATA. -/
def Dev.plDataWrite (d : Dev) (v : Word) : Dev :=
  let d := d.setReg CORES.PL_DATA_at v
  match d.plRefusal with
  | some e => (d.wr CORES.PL_STATUS_REFUSED e).setF CORES.EVENTS_PL_REFUSED
  | none =>
    let kind := d.rd CORES.PL_CTRL_KIND
    let a := d.rd CORES.PL_ADDR_ADDR
    let units := if d.on CORES.PL_CTRL_TARGET then [d.spareKey kind] else unitKeys kind
    let d := units.foldl (fun d u =>
      match d.rd CORES.PL_CTRL_MEM with
      | 0 => d.putProg u a (v.toNat % 2 ^ kindBits kind)
      | 1 => d.putDecode u a v
      | _ => d.putUcode u a (BitVec.ofNat 48 (v.toNat + d.rd CORES.PL_DATA_HI_DATA * 2 ^ 32))) d
    let d := if d.on CORES.PL_CTRL_TARGET then d else d.wr CORES.PL_STATUS_BUSY 1
    (d.wr CORES.PL_STATUS_REFUSED 0).wr CORES.PL_ADDR_ADDR (a + 1)

/-- The unit that a read of PL_DATA reads. -/
def Dev.plReadUnit (d : Dev) : Option Nat :=
  let kind := d.rd CORES.PL_CTRL_KIND
  if d.on CORES.PL_CTRL_TARGET then (if d.rd (spareFld (kind + 2)) == 15 then none else some (d.spareKey kind))
  else match (d.serving (kind + 2)).head? with
    | some s => d.unitOfSlot s
    | none => none

/-- A read of PL_DATA: the word at PL_ADDR, which advances; where no unit or no word is named the value is free (log entry 3). -/
def Dev.plDataRead (d : Dev) : Word × Dev :=
  let a := d.rd CORES.PL_ADDR_ADDR
  let kind := d.rd CORES.PL_CTRL_KIND
  let mem := d.rd CORES.PL_CTRL_MEM
  let next (d : Dev) : Dev := d.wr CORES.PL_ADDR_ADDR (a + 1)
  match d.plReadUnit with
  | some u =>
    if mem == 3 || (mem != 0 && kind == 0) || d.plSize ≤ a then ((d.drawWord).1, next (d.drawWord).2)
    else if mem == 0 then ((d.progWord u a).setWidth 32, next d)
    else if mem == 1 then (d.decodeEntry u a, next d)
    else
      let w := d.ucodeWord u a
      (w.setWidth 32, next (d.wr CORES.PL_DATA_HI_DATA (w.toNat / 2 ^ 32)))
  | none => ((d.drawWord).1, next (d.drawWord).2)

/-- PL_DATA_WRITE. -/
def execPlDataWrite (v : Word) (s : State) : Host.Outcome State Fault Refusal := onBus s 17 fun d => d.plDataWrite v

/-- PL_DATA_READ: the word returns to the master that reads. -/
def execPlDataRead (s : State) : Host.Outcome State Fault Refusal := onBus s 17 fun d => d.plDataRead.2.answer d.plDataRead.1

/-- PL_COPY_DONE: every copy of the latest write to ALL is written; rotations and retests that waited begin (R244, R343). -/
def execPlCopyDone (s : State) : Host.Outcome State Fault Refusal :=
  onDev s fun d =>
    let d := d.wr CORES.PL_STATUS_BUSY 0
    ([2, 3].foldl (fun d k => d.serveCores k d.repair.coreQueue.length) d).serveRetests

/-- A write of PL_CHECK with GO. -/
def Dev.plCheck (d : Dev) : Dev :=
  (({ d with cores := { d.cores with checking := some (d.rd CORES.PL_CTRL_KIND) } } : Dev).wr CORES.PL_CHECK_DONE 0).wr CORES.PL_CHECK_MATCH 0

/-- PL_CHECK. -/
def execPlCheck (s : State) : Host.Outcome State Fault Refusal := onBus s 17 fun d => d.plCheck

/-- The octets of a number, low octet first. -/
def octetsLow : Nat → Nat → List Byte
  | 0, _ => []
  | n + 1, v => BitVec.ofNat 8 v :: octetsLow n (v / 256)

/-- The CRC-32 of a unit's memories (R244), in the octet order of the images (R380). -/
def Dev.unitCrc (d : Dev) (kind u : Nat) : Nat :=
  crc32 (((List.range (kindSize kind)).flatMap fun i => octetsLow 2 (d.progWord u i).toNat) ++
    (if kind == 0 then [] else
      ((List.range 32).flatMap fun i => octetsLow 4 (d.decodeEntry u i).toNat) ++
        (List.range 1024).flatMap fun i => octetsLow 6 (d.ucodeWord u i).toNat))

/-- The keys of the units that serve a kind, in slot order. -/
def Dev.servingKeys (d : Dev) (kind : Nat) : List Nat := (d.serving (kind + 2)).filterMap fun s => d.unitOfSlot s

/-- PL_CHECK_DONE (R244). -/
def execPlCheckDone (s : State) : Host.Outcome State Fault Refusal :=
  onDev s fun d =>
    match d.cores.checking with
    | none => d
    | some kind =>
      let spare := if d.rd (spareFld (kind + 2)) == 15 then [] else [d.spareKey kind]
      let crcs := (d.servingKeys kind ++ spare).map fun u => d.unitCrc kind u
      let d : Dev := { d with cores := { d.cores with checking := none } }
      let first := crcs.headD 0
      ((d.setReg CORES.PL_CRC_at (Word.ofNat first)).wr CORES.PL_CHECK_DONE 1).wrB CORES.PL_CHECK_MATCH (crcs.all fun x => x == first)

/-! ### Control registers and the debug port (R224, R246) -/

/-- The return-stack position of the entry `i` below the top. -/
def Slot.stackPos (v : Slot) (size i : Nat) : Nat := (v.sp + 2 * size - 1 - i) % size

/-- Control register `n` of a slot (R224). -/
def Dev.ctrlReg (d : Dev) (s n : Nat) : TWord :=
  let v := d.slot s
  match n with
  | 0 => ⟨v.flags.setWidth 32, .raw⟩
  | 1 => ⟨Word.ofNat v.tvec, .cptr⟩
  | 2 => ⟨Word.ofNat v.tpc, .cptr⟩
  | 3 => ⟨v.tcause, .nat⟩
  | 4 => ⟨v.tinfo, .raw⟩
  | 5 => ⟨v.rcount, .nat⟩
  | 6 => ⟨Word.ofNat v.depth, .nat⟩
  | _ => ⟨Word.ofNat (Store.get 0 v.stack (v.stackPos (stackSize s) 0)), .cptr⟩

/-- A write of control register `n` of a slot (R224): the PC-wide ones keep the bits of the PC; RSD does not change. -/
def Dev.ctrlRegWrite (d : Dev) (s n : Nat) (w : Word) : Dev :=
  let size := progSize s
  d.modSlot s fun v =>
    match n with
    | 0 => { v with flags := w.setWidth 10 }
    | 1 => { v with tvec := w.toNat % size }
    | 2 => { v with tpc := w.toNat % size, trapNext := none }
    | 3 => { v with tcause := w }
    | 4 => { v with tinfo := w }
    | 5 => { v with rcount := w }
    | 6 => v
    | _ => { v with stack := Store.put 0 v.stack (v.stackPos (stackSize s) 0) (w.toNat % size) }

/-- Whether DBG_SEL.REG `r` names an item of slot `s`. -/
def dbgNames (s r : Nat) : Bool :=
  if r < 16 then decide (r < 8) || isBowl s
  else if r ≤ 24 then true
  else decide (32 ≤ r) && decide (r < 32 + stackSize s)

/-- The item of slot `s` that DBG_SEL.REG names. -/
def Dev.dbgItem (d : Dev) (s r : Nat) : TWord :=
  let v := d.slot s
  if r < 16 then Store.get voidWord v.regs r
  else if r < 24 then d.ctrlReg s (r - 16)
  else if r == 24 then ⟨Word.ofNat v.pc, .cptr⟩
  else ⟨Word.ofNat (Store.get 0 v.stack (v.stackPos (stackSize s) (r - 32))), .cptr⟩

/-- Whether the debug port can reach its selected item. -/
def Dev.dbgReach (d : Dev) : Bool :=
  decide (d.rd CORES.DBG_SEL_SLOT < 12) && d.slotState (d.rd CORES.DBG_SEL_SLOT) == 0 && dbgNames (d.rd CORES.DBG_SEL_SLOT) (d.rd CORES.DBG_SEL_REG)

/-- A write of DBG_SEL loads DBG_DATA and DBG_TAG from the selected item of a HALTED slot. -/
def Dev.dbgSelWrite (d : Dev) (v : Word) : Dev :=
  let d := (d.wr CORES.DBG_SEL_SLOT (bitsOf v 0 4)).wr CORES.DBG_SEL_REG (bitsOf v 8 6)
  if d.dbgReach then
    let w := d.dbgItem (d.rd CORES.DBG_SEL_SLOT) (d.rd CORES.DBG_SEL_REG)
    ((d.setReg CORES.DBG_DATA_at w.data).wr CORES.DBG_TAG_TAG w.tag.code).wr CORES.DBG_SEL_ERR 0
  else d.wr CORES.DBG_SEL_ERR 1

/-- A write of DBG_DATA stores the selected item of a HALTED slot. -/
def Dev.dbgDataWrite (d : Dev) (w : Word) : Dev :=
  let s := d.rd CORES.DBG_SEL_SLOT
  let r := d.rd CORES.DBG_SEL_REG
  if d.dbgReach then
    let d := (d.setReg CORES.DBG_DATA_at w).wr CORES.DBG_SEL_ERR 0
    if r < 16 then d.modSlot s fun v => { v with regs := Store.put voidWord v.regs r ⟨w, Tag.ofCode (d.rd CORES.DBG_TAG_TAG)⟩ }
    else if r < 24 then d.ctrlRegWrite s (r - 16) w
    else if r == 24 then d.modSlot s fun v => { v with pc := w.toNat % progSize s }
    else d.modSlot s fun v => { v with stack := Store.put 0 v.stack (v.stackPos (stackSize s) (r - 32)) (w.toNat % progSize s) }
  else d.wr CORES.DBG_SEL_ERR 1

/-- DBG_SEL_WRITE. -/
def execDbgSelWrite (v : Word) (s : State) : Host.Outcome State Fault Refusal := onBus s 17 fun d => d.dbgSelWrite v

/-- DBG_DATA_WRITE. -/
def execDbgDataWrite (v : Word) (s : State) : Host.Outcome State Fault Refusal := onBus s 17 fun d => d.dbgDataWrite v

end Sys2Proof.Machine
end

