-- ==== Sys2Proof/Machine/Lathe.lean ====
section
/-! DEFINITION. Lathe: commands, the next-event computation, service of due events, collisions, commits (chapter 03). -/

namespace Sys2Proof.Machine

/-! ### Plans, channels, groups (R75, R77, R78) -/

/-- The port of a plan. -/
def Dev.planPort (d : Dev) (i : Nat) : Nat := d.rd (LATHE.PLANC_PORT i)

/-- The RESULT code of the first of the record and plan checks that fails (R75): BADKIND, BADPLAN, BADPHY, NOMAP, BADINT. -/
def Dev.recordFault (d : Dev) (c : Ctx) : Option Nat :=
  let w := d.rd (LATHE.PLANC_WIDTH c.plan)
  let m := d.rd (LATHE.PLANC_MODE c.plan)
  if 1 < c.kind then some 13
  else if !d.on (LATHE.PLANF_EN c.plan) || w == 3 || reservedMode m || (!c.lead && txOnly m) || w != modeWidth m then some 3
  else if reservedMode c.phy || modeWidth c.phy != w then some 12
  else if c.map == 0 then some 4
  else if c.interval < 16 then some 5
  else none

/-- The position of the `n`-th set bit of `m` among bits `b` onward (R78). -/
def nthSet : Nat → Nat → Nat → Nat → Nat
  | 0, b, _, _ => b
  | fuel + 1, b, m, n => if m.testBit b then (if n == 0 then b else nthSet fuel (b + 1) m (n - 1)) else nthSet fuel (b + 1) m n

/-- The channel of an event (R78). -/
def hopChannel (map seed counter : Nat) : Nat :=
  let index := (seed + counter * 37) % 64
  let u := (List.range 64).countP fun b => map.testBit b
  if u == 0 then 0 else nthSet 64 0 map (index % u)

/-- f(c) of a plan (R77). -/
def Dev.channelHz (d : Dev) (plan ch : Nat) : Nat := d.rd (LATHE.PLANF_BASE_HZ plan) + ch * d.rd (LATHE.PLANC_SPACING_HZ plan)

/-- The start bin of a channel's group, where the channel is receivable (R77). -/
def Dev.channelBin (d : Dev) (plan ch : Nat) : Option Nat :=
  let w := binsOf (d.rd (LATHE.PLANC_WIDTH plan))
  let fc : Int := d.centreHz (d.planPort plan)
  let num : Int := 2 * ((d.channelHz plan ch : Int) - fc) + ((64 - w : Nat) : Int) * 125000
  if num % 250000 == 0 && 0 ≤ num && num / 250000 ≤ ((64 - w : Nat) : Int) then some (num / 250000).toNat else none

/-! ### The next event (R80 to R85) -/

/-- An event as computed: the due instant, E, window open and close, and 0 NORMAL, 1 DRIFTING, 2 RESYNC. -/
structure Event where
  due : Nat
  e : Nat
  openAt : Nat
  closeAt : Nat
  mode : Nat
  deriving DecidableEq, Repr

/-- LATHE.CFG.MISS_THR; 0 acts as 1. -/
def Dev.missThr (d : Dev) : Nat := max 1 (d.rd LATHE.CFG_MISS_THR)

/-- LATHE.MAXWIN in µs within its limits (R101). -/
def Dev.maxWin (d : Dev) : Nat := clampN 100 64000 (d.rd LATHE.MAXWIN_MAXWIN)

/-- LATHE.RESYNC_WIN in ticks; 0 acts as 16. -/
def Dev.resyncWin (d : Dev) : Nat := if d.rd LATHE.RESYNC_WIN_TICKS == 0 then 16 else d.rd LATHE.RESYNC_WIN_TICKS

/-- LATHE.TX_LEAD in µs; below 50 acts as 50. -/
def Dev.txLead (d : Dev) : Nat := max 50 (d.rd LATHE.TX_LEAD_US)

/-- n × INTERVAL × (1 + DRIFT_EST ÷ 16 × 10⁻⁶) in 1/1,024 ticks, rounded to the nearest (R80). -/
def Ctx.span (c : Ctx) (n : Nat) : Nat :=
  let num : Int := ((n * c.interval * 1024 : Nat) : Int) * (16000000 + signed 16 (bitsOf c.w28 0 16))
  ((2 * num + 16000000) / 32000000).toNat

/-- The guard in whole nanoseconds (R81). -/
def Dev.guardNs (d : Dev) (c : Ctx) : Nat :=
  let n := c.misses + 1
  let rate := d.rd LATHE.OWN_DRIFT_DRIFT + d.rd (LATHE.PDC_DRIFT (bitsOf c.w28 16 3))
  let mult := if c.kind == 1 && d.missThr ≤ c.misses then 2 ^ (c.misses - d.missThr) else 1
  (mult * (125 * rate * n * c.interval + 16000 * 32768) + 32767) / 32768

/-- Half the length of a RESYNC listen in 1/1,024 ticks (R83). -/
def Dev.resyncHalf (d : Dev) (c : Ctx) : Nat := min c.interval d.resyncWin * 512

/-- The event of a context as its record stands (R80 to R83); none where the window passes MAXWIN and RESYNC_EN is 0. -/
def Dev.eventOf (d : Dev) (c : Ctx) : Option Event :=
  if c.lead then
    let e := wrap58 (c.anchor + c.interval * 1024)
    some ⟨e - usCeil d.txLead, e, e, e, 0⟩
  else
    let e := wrap58 (c.anchor + c.span (c.misses + 1))
    let h := d.resyncHalf c
    let wide : Event := ⟨e - h, e, e - h, e + h, 2⟩
    let g := d.guardNs c
    if c.forceRs then some wide
    else if d.maxWin * 1000 < 2 * g then (if c.resyncEn then some wide else none)
    else
      let u := nsCeil g
      some ⟨e - u, e, e - u, e + u, if c.kind == 1 && d.missThr ≤ c.misses then 1 else 0⟩

/-- The verdict of the next-event computation: the event to insert, or LOST with a reason; `skips` and the last skipped counter. -/
structure NextEv where
  ctx : Ctx
  event : Option Event
  why : Nat
  skips : Nat
  lastSkip : Nat
  deriving DecidableEq, Repr

/-- Whether an event's window closes past supervision (R84 step 3). -/
def Ctx.unsupervised (c : Ctx) (ev : Event) : Bool :=
  !c.lead && c.superv != 0 && c.superv * 1024 < wrap58 (ev.closeAt + 2 ^ 58 - wrap58 c.anchor)

/-- The FOLLOW computation of R84, `fuel` passes at most; `lim` is 20 µs after the current time. -/
def Dev.followNext (d : Dev) (lim : Nat) : Nat → Ctx → Nat → Nat → NextEv
  | 0, c, skips, last => ⟨c, none, 2, skips, last⟩
  | fuel + 1, c, skips, last =>
    match d.eventOf c with
    | none => ⟨c, none, 3, skips, last⟩
    | some ev =>
      if c.unsupervised ev then ⟨c, none, 1, skips, last⟩
      else if ev.due < lim then
        if c.misses == 255 then ⟨{ c with counter := (c.counter + 1) % 2 ^ 32 }, none, 2, skips + 1, c.counter⟩
        else d.followNext lim fuel { c with w00 := setBits c.w00 24 8 (c.misses + 1), counter := (c.counter + 1) % 2 ^ 32 }
          (skips + 1) c.counter
      else ⟨c, some ev, 0, skips, last⟩

/-- The LEAD computation of R84, in one pass. -/
def Dev.leadNext (d : Dev) (lim : Nat) (c : Ctx) : NextEv :=
  let step := c.interval * 1024
  let due := wrap58 (c.anchor + step) - usCeil d.txLead
  let k := if lim ≤ due then 0 else (lim - due + step - 1) / step
  let c' := { c with counter := (c.counter + k) % 2 ^ 32, anchor := wrap58 (c.anchor + k * step) }
  let last := if k == 0 then 0 else (c.counter + k - 1) % 2 ^ 32
  ⟨c', d.eventOf c', 0, k, last⟩

/-- The next-event computation (R84). -/
def Dev.nextEv (d : Dev) (c : Ctx) : NextEv :=
  let lim := d.now + usCeil 20
  if c.lead then d.leadNext lim c else d.followNext lim 257 c 0 0

/-! ### Scheduling and losing (R84, R85) -/

/-- The state an event gives its context (R84 step 5). -/
def Event.state (e : Event) : Nat := if e.mode == 2 then 5 else if e.mode == 1 then 4 else 1

/-- Word 0x00 of a context in LOST with a reason (R85). -/
def Ctx.lost (c : Ctx) (why : Nat) : Word := setBits (setBits c.w00 0 8 6) 12 4 why

/-- A context is scheduled no longer: its slot leaves the heap and the BACKBONE slots, LOST is flagged and noted (R85).  The notice carries
the counter as the context's record now has it (log entry 106). -/
def Dev.unschedule (d : Dev) (c : Ctx) (why : Nat) : Dev :=
  let d := { d with lathe := { d.lathe with
    heap := d.lathe.heap.filter (fun e => e.slot != c.slot), backbone := d.lathe.backbone.filter fun b => b != c.slot } }
  (d.setF LATHE.EVENTS_LOST).notice (d.planPort c.plan) c.slot 2 why c.counter

/-- A context goes to LOST with a reason (R85). -/
def Dev.lose (d : Dev) (c : Ctx) (why : Nat) : Dev := (d.writeCtx { c with w00 := c.lost why }).unschedule c why

/-- The POISON_USE record of a context names its lowest-addressed bad word (R416). -/
def Dev.poisonFault (d : Dev) (s : Nat) : FaultInfo :=
  let bad := ctxChecked.filter fun o => (d.word (ctxAddr s o)).tag.bad
  mkUnitFault 0x05 16 0 (ctxAddr s (bad.headD 0)) s

/-- A context whose record holds POISON or VOID goes to LOST (R72): of the record only word 0x00 is written. -/
def Dev.losePoisoned (d : Dev) (c : Ctx) : Dev :=
  ((d.fault (d.poisonFault c.slot)).sramWrite (ctxAddr c.slot 0x00) ⟨c.lost 4, .raw⟩).unschedule c 4

/-- The heap order of R86. -/
def HeapEv.before (a b : HeapEv) : Bool :=
  a.due < b.due || (a.due == b.due && (b.eprio < a.eprio || (a.eprio == b.eprio && a.slot < b.slot)))

/-- Inserts an event in heap order. -/
def heapInsert (e : HeapEv) : List HeapEv → List HeapEv
  | [] => [e]
  | x :: r => if e.before x then e :: x :: r else x :: heapInsert e r

/-- Inserts a context's event and writes its state. -/
def Dev.insertEv (d : Dev) (c : Ctx) (due state : Nat) : Dev :=
  let d := d.writeCtx { c with w00 := setBits c.w00 0 8 state }
  let d := if c.lead then d.writeAnchor c else d
  let bb := if c.kind == 1 && !d.lathe.backbone.contains c.slot then d.lathe.backbone ++ [c.slot] else d.lathe.backbone
  { d with lathe := { d.lathe with heap := heapInsert ⟨c.slot, due, c.eprio⟩ d.lathe.heap, backbone := bb } }

/-- Counts `k` skips (R84, R87). -/
def Dev.countSkips (d : Dev) (k : Nat) : Dev := if k == 0 then d else (d.add LATHE.SKIPS_COUNT k).setF LATHE.EVENTS_SKIP

/-- Schedules a context (R84): skips are counted and noted, then the event is inserted or the context is lost.  A LEAD context whose INTERVAL
is 0 has no later event to compute: it is due at once, and goes to LOST when it is served (R93; log entry 106). -/
def Dev.schedule (d : Dev) (c : Ctx) : Dev :=
  if c.lead && c.interval == 0 then d.insertEv c d.now 1
  else
    let n := d.nextEv c
    let d := d.countSkips n.skips
    let d := if n.skips != 0 && d.on LATHE.CFG_SKIP_NOTE then d.notice (d.planPort c.plan) c.slot 4 1 n.lastSkip else d
    match n.event with
    | some ev => d.insertEv n.ctx ev.due ev.state
    | none => d.lose n.ctx n.why

/-- Applies a held DISARM, or schedules the context (R74, R100). -/
def Dev.reschedule (d : Dev) (c : Ctx) (held : Bool) : Dev :=
  if held then
    let d := if c.lead then d.writeAnchor c else d
    d.lose c 5
  else d.schedule c

/-! ### Commands (R75) -/

/-- The command's result (R75). -/
def Dev.cmdResult (d : Dev) (slot r : Nat) : Dev := (d.wr LATHE.CMD_STATUS_RESULT r).wr LATHE.CMD_STATUS_SLOT slot

/-- States in which a context is armed: ASLEEP, DUE, ACTIVE, DRIFTING, RESYNC. -/
def armedState (s : Nat) : Bool := 1 ≤ s && s ≤ 5

/-- Whether word 0x00 of a context names a state in which it is armed; a POISON or VOID word names none. -/
def wordArmed (w : TWord) : Bool := !w.tag.bad && armedState (bitsOf w.data 0 8)

/-- Whether one of `n` slots from `s` holds an armed context, as Lathe's reads of their words 0x00 find (R69, R269). -/
def Dev.anyArmed (d : Dev) (s : Nat) : Nat → Bool × Dev
  | 0 => (false, d)
  | n + 1 =>
    let (w, d) := d.sramRead (ctxAddr s 0x00)
    let (a, d) := d.anyArmed (s + 1) n
    (wordArmed w || a, d)

/-- The refusal of an ARM before the next-event computation, in the model's order (R75), but for OCCUPIED. -/
def Dev.armRefusal (d : Dev) (c : Ctx) (bad resync : Bool) : Option Nat :=
  let bb := c.kind == 1
  if c.state != 0 && c.state != 6 then some 2
  else if bad then some 9
  else if 1 < c.kind then some 13
  else if resync && c.lead then some 14
  else if bb && c.slot % 4 != 0 then some 6
  else if bb && 64 ≤ d.lathe.backbone.length then some 7
  else if d.lathe.backbone.any fun b => b < c.slot && c.slot ≤ b + 3 then some 8
  else d.recordFault c

/-- ARM and ARM_RESYNC (R75, R84). -/
def Dev.arm (d : Dev) (slot : Nat) (resync : Bool) : Dev :=
  let (c, bad, d) := d.readCtx slot
  match d.armRefusal c bad resync with
  | some r =>
    let d := if r == 9 then d.fault (d.poisonFault slot) else d
    d.cmdResult slot r
  | none =>
    let c := { c with w00 := setBits (setBits c.w00 24 8 0) 11 1 (if resync then 1 else 0) }
    let c := if resync then { c with anchor := wrap58 (d.now + usCeil 20 + d.resyncHalf c + 2 ^ 58 - wrap58 (c.span 1)) } else c
    let past := match d.eventOf c with
      | some ev => !c.unsupervised ev && ev.due < d.now + usCeil 20
      | none => false
    let (occupied, d) := d.anyArmed (slot + 1) (if c.kind == 1 then 3 else 0)
    if occupied then d.cmdResult slot 15
    else if past then d.cmdResult slot 11
    else
      let d := if resync then d.writeAnchor c else d
      (d.schedule c).cmdResult slot 0

/-- DISARM (R74, R75). -/
def Dev.disarmCmd (d : Dev) (slot : Nat) : Dev :=
  match (d.lathe.held.filter fun h => h.slot == slot && h.active).head? with
  | some _ =>
    let held := d.lathe.held.map fun h => if h.slot == slot && h.active then { h with disarm := true } else h
    ({ d with lathe := { d.lathe with held := held } } : Dev).cmdResult slot 10
  | none =>
    if d.lathe.due.any fun e => e.ev.slot == slot then
      let due := d.lathe.due.map fun e => if e.ev.slot == slot then { e with disarm := true } else e
      ({ d with lathe := { d.lathe with due := due } } : Dev).cmdResult slot 10
    else
      let (w, d) := d.sramRead (ctxAddr slot 0x00)
      if !w.tag.bad && !wordArmed w then d.cmdResult slot 2
      else
        let (c, bad, d) := d.readCtx slot
        if bad then (d.losePoisoned c).cmdResult slot 0 else (d.lose c 5).cmdResult slot 0

/-- The start of REBUILD (R75): the heap and the window table are emptied. -/
def Dev.rebuildStart (d : Dev) : Dev :=
  let d := { d with lathe := { d.lathe with heap := [], due := [], windows := [], rebuilding := true, rebuilt := true } }
  d.wr LATHE.CMD_STATUS_BUSY 1

/-- A context found in DUE or ACTIVE has missed its event; LEAD: it was not sent (R75). -/
def Ctx.missed (c : Ctx) : Ctx × Bool :=
  let c' := { c with counter := (c.counter + 1) % 2 ^ 32 }
  if c.lead then ({ c' with anchor := wrap58 (c.anchor + c.interval * 1024) }, false)
  else if c.misses == 255 then (c', true)
  else ({ c' with w00 := setBits c.w00 24 8 (c.misses + 1) }, false)

/-- Advances a context past an event without hearing it and schedules it; MISSES past 255 loses it (R84 step 1). -/
def Dev.missEvent (d : Dev) (c : Ctx) (held : Bool) : Dev :=
  let (c', isOver) := c.missed
  if held then d.reschedule c' true else if isOver then d.lose c' 2 else d.schedule c'

/-- REBUILD's scan of one slot (R72, R75); `skipTo` is the last slot inside the span of the latest BACKBONE context inserted. -/
def Dev.rebuildSlot (acc : Dev × Nat) (s : Nat) : Dev × Nat :=
  let (d, skipTo) := acc
  if s < skipTo then (d, skipTo)
  else
    let (w, d) := d.sramRead (ctxAddr s 0x00)
    if w.tag == .void || (w.tag != .poison && !wordArmed w) then (d, skipTo)
    else
      let (c, bad, d) := d.readCtx s
      if bad then (d.losePoisoned c, skipTo)
      else
        let d := if c.state == 2 || c.state == 3 then d.missEvent c false else d.schedule c
        (d, if d.lathe.backbone.contains s then s + 4 else skipTo)

/-- REBUILD ends (R75, R76): the scan of 8,192 slots is complete. -/
def Dev.rebuildDone (d : Dev) : Dev :=
  if !d.lathe.rebuilding then d
  else
    let d := { d with lathe := { d.lathe with held := [], backbone := [], stale := [] } }
    let (d, _) := (List.range 8192).foldl Dev.rebuildSlot (d, 0)
    let d := { d with lathe := { d.lathe with rebuilding := false } }
    (d.wr LATHE.CMD_STATUS_BUSY 0).wr LATHE.CMD_STATUS_RESULT 0

/-- A write of LATHE.CMD (R75). -/
def Dev.latheCmd (d : Dev) (slot op : Nat) : Dev :=
  if op == 0 || 4 < op then d
  else if d.lathe.rebuilding then d.wr LATHE.CMD_STATUS_RESULT 1
  else match op with
    | 1 => d.arm slot false
    | 2 => d.arm slot true
    | 3 => d.disarmCmd slot
    | _ => (d.rebuildStart).wr LATHE.CMD_STATUS_SLOT slot

/-! ### Commits (R99, R100) -/

/-- An event of a slot ends: it is held no longer, unless its transmission still runs (R95); its monitor is disarmed. -/
def Dev.dropHeld (d : Dev) (h : HeldEv) : Dev :=
  let keep := h.lead && (d.startState h.port (Word.ofNat h.slot) h.ctr).isSome
  let rest := d.lathe.held.filter fun x => x != h
  let d := { d with lathe := { d.lathe with held := if keep then rest ++ [{ h with active := false, mon := none }] else rest } }
  match h.mon with
  | some m => d.disarmEvent m h.slot
  | none => d

/-- An accepted commit's effect on its context (R100).  RELEASE frees the context, and a held DISARM has then nothing left to remove (log
entry 106). -/
def Dev.applyCommit (d : Dev) (h : HeldEv) (outcome : Nat) : Dev :=
  let d := d.dropHeld h
  let (c, bad, d) := d.readCtx h.slot
  if bad then d.losePoisoned c
  else match outcome with
    | 0 => d.reschedule { c with w00 := setBits (setBits c.w00 24 8 0) 11 1 0, counter := (c.counter + 1) % 2 ^ 32 } h.disarm
    | 4 => d.lose { c with counter := (c.counter + 1) % 2 ^ 32 } 5
    | 5 =>
      let d := d.sramWrite (ctxAddr h.slot 0) ⟨setBits c.w00 0 8 0, .raw⟩
      { d with lathe := { d.lathe with backbone := d.lathe.backbone.filter fun b => b != h.slot } }
    | _ => d.missEvent c h.disarm

/-- The RESULT of a COMMIT write (R99). -/
def Dev.commitResult (d : Dev) (slot outcome ctr : Nat) : Nat :=
  if d.lathe.rebuilding then 4
  else match (d.lathe.held.filter fun h => h.slot == slot && h.active).head? with
    | none => if (Store.get none d.lathe.stale slot).map (· % 256) == some ctr then 2 else 1
    | some h =>
      if h.ctr % 256 != ctr then 2
      else if (if h.lead then outcome == 0 || outcome == 1 else outcome == 2 || outcome == 3) || 5 < outcome then 3
      else 0

/-- A write of LATHE.COMMIT (R99). -/
def Dev.commit (d : Dev) (slot outcome ctr : Nat) : Dev :=
  let r := d.commitResult slot outcome ctr
  let d := (d.wr LATHE.COMMIT_STATUS_RESULT r).wr LATHE.COMMIT_STATUS_SLOT slot
  if r != 0 then (d.inc LATHE.COMMIT_STATUS_REFUSED).setF LATHE.EVENTS_BADCOMMIT
  else match (d.lathe.held.filter fun h => h.slot == slot && h.active).head? with
    | some h => d.applyCommit h outcome
    | none => d

/-! ### Service of a due event (R87 to R98) -/

/-- An event is skipped with a reason (R87): 0 COLLIDE, 1 LATE, 2 HDROP, 3 NOWIN, 4 BADCHAN; `disarm` tells of a held DISARM (R74). -/
def Dev.skipEvent (d : Dev) (c : Ctx) (disarm : Bool) (why : Nat) : Dev :=
  let d := match why with
    | 0 => (d.inc LATHE.COLLISIONS_COUNT).setF LATHE.EVENTS_COLLIDE
    | 2 => d.setF LATHE.EVENTS_HDROP
    | 3 => d.setF LATHE.EVENTS_NOWIN
    | 4 => d.setF LATHE.EVENTS_BADCHAN
    | _ => d
  let d := d.countSkips 1
  let d := if d.on LATHE.CFG_SKIP_NOTE then d.notice (d.planPort c.plan) c.slot 4 why c.counter else d
  d.missEvent c disarm

/-- The span an event occupies (R95). -/
def Dev.occupancy (d : Dev) (c : Ctx) (ev : Event) : Nat × Nat :=
  if c.lead then (ev.e - usCeil d.txLead, ev.e + usCeil c.res) else (ev.openAt, ev.closeAt + usCeil c.res)

/-- The held events a new event collides with (R95). -/
def Dev.collisions (d : Dev) (c : Ctx) (occ : Nat × Nat) : List HeldEv :=
  d.lathe.held.filter fun h =>
    (h.active || (d.startState h.port (Word.ofNat h.slot) h.ctr).isSome) && h.port == d.planPort c.plan && (c.lead || h.lead) &&
      occ.1 < h.occTo && h.occFrom < occ.2

/-- Whether a held event gives way to priority `eprio` (R95): a LEAD event whose ramp has not started, a FOLLOW event without a hit. -/
def Dev.givesWay (d : Dev) (eprio : Nat) (h : HeldEv) : Bool :=
  h.eprio < eprio && !h.wasHit &&
    !(d.lathe.windows.any fun w => w.slot == h.slot && w.ctr == h.ctr && (!w.hits.isEmpty || 5 ≤ w.times))

/-- A held event is cancelled (R95). -/
def Dev.cancelEvent (d : Dev) (h : HeldEv) : Dev :=
  let d := (d.inc LATHE.COLLISIONS_COUNT).setF LATHE.EVENTS_COLLIDE
  let d := if h.lead then d.cancelStart h.port (Word.ofNat h.slot) h.ctr
    else { d with lathe := { d.lathe with windows := d.lathe.windows.filter fun w => !(w.slot == h.slot && w.ctr == h.ctr) } }
  let d := d.notice h.port h.slot 3 0 h.ctr
  if h.active then
    let d := { d with lathe := { d.lathe with stale := Store.put none d.lathe.stale h.slot (some h.ctr) } }
    d.applyCommit h (if h.lead then 3 else 1)
  else { d with lathe := { d.lathe with held := d.lathe.held.filter fun x => x != h } }

/-- The lowest-numbered assigned idle monitor is armed (R96), expiries of the present edge being served first (R24); without one the event is
served unsupervised (R25). -/
def Dev.armEvent (d : Dev) (slot deadline : Nat) : Option Nat × Dev :=
  let d := (List.range 64).foldl (fun d m => if d.latheMon m then d.settleMon m else d) d
  match (List.range 64).find? fun m => d.latheMon m && !(d.mon m).armed with
  | some m => (some m, d.armMon m (deadline % 2 ^ 32) 4 0 (Word.ofNat slot))
  | none =>
    let first := d.rd LATHE.DMON_SHORT_COUNT == 0
    let d := d.inc LATHE.DMON_SHORT_COUNT
    (none, if first then d.fault { mkFault 0x08 16 0 slot 0 with agent := 4 } else d)

/-- The groups of an event (R77, R83): one for a normal event, every receivable map channel's for a RESYNC listen. -/
def Dev.eventGroups (d : Dev) (c : Ctx) (ev : Event) : List (Nat × Nat) :=
  let w := d.rd (LATHE.PLANC_WIDTH c.plan)
  let chans := if ev.mode == 2 then (List.range 64).filter fun ch => c.map.testBit ch else [hopChannel c.map c.seed c.counter]
  chans.filterMap fun ch => (d.channelBin c.plan ch).map fun k => (k, w)

/-- Registers the window of a FOLLOW event (R89, R91, R92), testing it against the declaration log.  The log's reach is passed where it
overwrote, before its time, an entry accepted at or after the window opened (log entry 106). -/
def Dev.registerWindow (d : Dev) (c : Ctx) (ev : Event) (groups : List (Nat × Nat)) : Dev :=
  let p := d.planPort c.plan
  let lost := match d.lathe.logLost with
    | some a => ev.openAt ≤ a
    | none => false
  let late := ev.openAt + oneMs < d.now || lost
  let w : Window := {
    slot := c.slot, ctr := c.counter, port := p, groups := groups, openAt := ev.openAt, closeAt := ev.closeAt,
    listenEnd := ev.closeAt + usCeil (d.rd LATHE.CFG_LISTEN_EXT), noBoost := c.noBoost, hits := [], times := 0,
    withdrawn := false, wasActive := d.activeIn p ev.openAt ev.closeAt, late := late, ended := false }
  let w := d.lathe.declLog.foldl (fun w r =>
    if d.now < r.at_ + oneMs && w.covers r.port r.bin r.width && w.inside r.start then
      let w := { w with wasActive := true }
      match r.fate with
      | .searching => w.hit r.lane false
      | .gone => w.hit r.lane true
      | .restarted => { w with times := w.times + 1, withdrawn := true }
    else w) w
  let d := { d with lathe := { d.lathe with windows := d.lathe.windows ++ [w] } }
  if late then d.setF LATHE.EVENTS_LATE else d

/-- The words of a hand-off (R98); an instant a whole number of µs after another is rounded up to the fraction unit (log entry 106). -/
def Dev.handoff (d : Dev) (c : Ctx) (ev : Event) (bin : Nat) (mon : Option Nat) : List TWord :=
  let resync := ev.mode == 2
  let width := if resync then 0 else d.rd (LATHE.PLANC_WIDTH c.plan)
  let chan := if resync then 0 else hopChannel c.map c.seed c.counter
  let close := if c.lead then ev.e + usCeil c.res else ev.closeAt
  [ctxHandle c.slot, ⟨Word.ofNat c.counter, .nat⟩, ⟨Word.ofNat (ev.e / 1024), .time⟩,
   ⟨Word.ofNat (ev.e % 1024 * 2 ^ 22 + c.lead.toNat * 2 ^ 21 + d.planPort c.plan * 2 ^ 20 + bin * 2 ^ 14 + width * 2 ^ 12
      + chan * 2 ^ 6 + ev.mode * 2 ^ 4 + c.plan), .raw⟩,
   ⟨Word.ofNat (ev.openAt / 1024), .time⟩, ⟨Word.ofNat (close / 1024), .time⟩,
   ⟨Word.ofNat (ev.openAt % 1024 * 2 ^ 22 + close % 1024 * 2 ^ 12 + mon.getD 0x7F * 2 ^ 5), .raw⟩,
   ⟨Word.ofNat c.entry, .cptr⟩]

/-- Steps 5 and 6 of the service (R87): the window or the scheduled start, the monitor, the hand-off. -/
def Dev.handOff (d : Dev) (c : Ctx) (disarm : Bool) (ev : Event) (groups : List (Nat × Nat)) (occ : Nat × Nat) : Dev :=
  let p := d.planPort c.plan
  let ch := hopChannel c.map c.seed c.counter
  let d := if c.lead then
      d.placeStart p (Word.ofNat c.slot) c.counter ev.e (d.channelHz c.plan ch) (d.rd (LATHE.PLANC_MODE c.plan)) c.res
    else d.registerWindow c ev groups
  let up (t : Nat) : Nat := (t + 1023) / 1024
  let deadline := if c.lead then up ev.e else up ev.closeAt + max 1 (d.rd (LATHE.DCL_ALLOW c.dclass))
  let (mon, d) := d.armEvent c.slot deadline
  let bin := if c.lead || ev.mode == 2 then 0 else (groups.headD (0, 0)).1
  let d := d.flumeWrite c.hflume (group (d.handoff c ev bin mon))
  let d := d.sramWrite (ctxAddr c.slot 0) ⟨setBits c.w00 0 8 3, .raw⟩
  let h : HeldEv := {
    slot := c.slot, ctr := c.counter, lead := c.lead, mon := mon, port := p, occFrom := occ.1, occTo := occ.2, eprio := c.eprio,
    active := true, disarm := disarm, wasHit := false }
  { d with lathe := { d.lathe with held := d.lathe.held ++ [h], stale := Store.put none d.lathe.stale c.slot none } }

/-- The service of one event in the order of R87; `disarm` tells whether a DISARM is held for it (R74). -/
def Dev.serve (d : Dev) (slot : Nat) (disarm : Bool) : Dev :=
  let (c, bad, d) := d.readCtx slot
  if bad then d.losePoisoned c
  else if (d.recordFault c).isSome then d.lose c 6
  else match d.eventOf c with
    | none => d.lose c 3
    | some ev =>
      let groups := if c.lead then [] else d.eventGroups c ev
      if c.lead && ev.e < d.now then d.skipEvent c disarm 1
      else if d.flumeFree c.hflume < 8 then d.skipEvent c disarm 2
      else if !c.lead && ev.mode != 2 && groups.isEmpty then d.skipEvent c disarm 4
      else
        let occ := d.occupancy c ev
        let ys := d.collisions c occ
        if ys.any fun h => !d.givesWay c.eprio h then d.skipEvent c disarm 0
        else
          let d := ys.foldl Dev.cancelEvent d
          if !c.lead && 256 ≤ d.lathe.windows.length then d.skipEvent c disarm 3 else d.handOff c disarm ev groups occ

/-- Whether Lathe serves events (R295): in RUN, in DOZE and in the transitions between them, and while it enters a deeper state. -/
def Dev.latheServes (d : Dev) : Bool := d.running || d.power == 1 || d.power == 5 || (d.power == 6 && d.well.leaving == 1)

/-- An event is taken (R87 step 1) and served. -/
def Dev.takeEvent (d : Dev) (e : HeapEv) (disarm : Bool) : Dev :=
  let lag := min 0xFFFF (d.now - e.due)
  ((d.setLevel 3 false).wr LATHE.LAGMAX_LAG (max lag (d.rd LATHE.LAGMAX_LAG))).serve e.slot disarm

/-- Lathe takes the earliest due event (R86 to R89); nothing before a REBUILD where the heap was lost (R76).  In NAP and in the wake from it
the event waits in DUE (R90), and is served first once the core domain is awake. -/
def Dev.eventDue (d : Dev) : Dev :=
  if !d.on LATHE.CTRL_EN || d.lathe.rebuilding || !d.lathe.rebuilt then d
  else if d.latheServes then
    match d.lathe.due, d.lathe.heap with
    | e :: rest, _ => ({ d with lathe := { d.lathe with due := rest } } : Dev).takeEvent e.ev e.disarm
    | [], e :: rest => if e.due ≤ d.now then ({ d with lathe := { d.lathe with heap := rest } } : Dev).takeEvent e false else d
    | [], [] => d
  else match d.lathe.heap with
    | e :: rest => if e.due ≤ d.now then { d with lathe := { d.lathe with heap := rest, due := d.lathe.due ++ [⟨e, false⟩] } } else d
    | [] => d

/-- The contexts of events that came due in NAP show DUE once the core domain is awake (R90). -/
def Dev.showDue (d : Dev) : Dev :=
  d.lathe.due.foldl (fun d e =>
    let (w, d) := d.sramRead (ctxAddr e.ev.slot 0x00)
    if w.tag.bad then d else d.sramWrite (ctxAddr e.ev.slot 0x00) ⟨setBits w.data 0 8 2, .raw⟩) d

/-- Every window whose listen end has passed is ended (R92). -/
def Dev.listenEnds (d : Dev) : Dev :=
  d.setWindows (d.lathe.windows.map fun w => if w.listenEnd ≤ d.now then { w with ended := true } else w)

/-! ### The commands of Lathe -/

/-- ARM. -/
def execArm (slot : BitVec 13) (f : BitVec 10) (s : State) : Host.Outcome State Fault Refusal :=
  onBus s 10 fun d => (d.atFrac f).latheCmd slot.toNat 1

/-- ARM_RESYNC. -/
def execArmResync (slot : BitVec 13) (f : BitVec 10) (s : State) : Host.Outcome State Fault Refusal :=
  onBus s 10 fun d => (d.atFrac f).latheCmd slot.toNat 2

/-- DISARM. -/
def execDisarm (slot : BitVec 13) (f : BitVec 10) (s : State) : Host.Outcome State Fault Refusal :=
  onBus s 10 fun d => (d.atFrac f).latheCmd slot.toNat 3

/-- REBUILD. -/
def execRebuild (slot : BitVec 13) (s : State) : Host.Outcome State Fault Refusal := onBus s 10 fun d => d.latheCmd slot.toNat 4

/-- REBUILD_DONE. -/
def execRebuildDone (f : BitVec 10) (s : State) : Host.Outcome State Fault Refusal := onDev s fun d => (d.atFrac f).rebuildDone

/-- EVENT_DUE. -/
def execEventDue (f : BitVec 10) (s : State) : Host.Outcome State Fault Refusal := onDev s fun d => (d.atFrac f).eventDue

/-- LISTEN_END. -/
def execListenEnd (f : BitVec 10) (s : State) : Host.Outcome State Fault Refusal := onDev s fun d => (d.atFrac f).listenEnds

/-- LATHE_WAKE_REQUEST (R90): in DOZE or NAP the head's due instant less WAKE_LEAD has been reached. -/
def execLatheWakeRequest (s : State) : Host.Outcome State Fault Refusal :=
  onDev s fun d =>
    match d.lathe.heap with
    | [] => d
    | e :: _ => if e.due ≤ d.now + usCeil (d.rd LATHE.WAKE_LEAD_US) then d.setLevel 3 true else d

/-- COMMIT_HEARD. -/
def execCommitHeard (slot : BitVec 13) (ctr : BitVec 8) (f : BitVec 10) (s : State) : Host.Outcome State Fault Refusal :=
  onBus s 10 fun d => (d.atFrac f).commit slot.toNat 0 ctr.toNat

/-- COMMIT_MISSED. -/
def execCommitMissed (slot : BitVec 13) (ctr : BitVec 8) (f : BitVec 10) (s : State) : Host.Outcome State Fault Refusal :=
  onBus s 10 fun d => (d.atFrac f).commit slot.toNat 1 ctr.toNat

/-- COMMIT_SENT. -/
def execCommitSent (slot : BitVec 13) (ctr : BitVec 8) (f : BitVec 10) (s : State) : Host.Outcome State Fault Refusal :=
  onBus s 10 fun d => (d.atFrac f).commit slot.toNat 2 ctr.toNat

/-- COMMIT_NOT_SENT. -/
def execCommitNotSent (slot : BitVec 13) (ctr : BitVec 8) (f : BitVec 10) (s : State) : Host.Outcome State Fault Refusal :=
  onBus s 10 fun d => (d.atFrac f).commit slot.toNat 3 ctr.toNat

/-- COMMIT_LOSE. -/
def execCommitLose (slot : BitVec 13) (ctr : BitVec 8) (f : BitVec 10) (s : State) : Host.Outcome State Fault Refusal :=
  onBus s 10 fun d => (d.atFrac f).commit slot.toNat 4 ctr.toNat

/-- COMMIT_RELEASE. -/
def execCommitRelease (slot : BitVec 13) (ctr : BitVec 8) (f : BitVec 10) (s : State) : Host.Outcome State Fault Refusal :=
  onBus s 10 fun d => (d.atFrac f).commit slot.toNat 5 ctr.toNat

end Sys2Proof.Machine
end

