-- ==== Sys2Proof/Machine/Reset.lean ====
section
/-! DEFINITION. Resets and the option-area load: what each event keeps (R9 to R14, R314), the Weir image load (R126), and the start of the
core domain (R312). -/

namespace Sys2Proof.Machine

/-! ### Registers and the events they survive (R10 to R13) -/

/-- The bits of the register at `a` that survive every event in `es`, numbered in the order of R10 (C 0 to L 10; R12). -/
def keepBits (es : List Nat) (a : Nat) : Word := es.foldl (fun m e => m &&& Word.ofNat (keepNat a e)) 0xFFFFFFFF#32

/-- Every register that `sel` selects keeps the bits that survive `es` and takes its reset value in the others (R11). -/
def Dev.loseRegs (d : Dev) (es : List Nat) (sel : Nat → Bool) : Dev :=
  { d with regs := d.regs.filterMap fun (a, _) =>
      let v := (d.reg a &&& keepBits es a) ||| (resetWord a &&& ~~~keepBits es a)
      if !sel a then some (a, d.reg a) else if v == resetWord a then none else some (a, v) }

/-- Whether `a` is a word of the live-map window, which the load rebuilds from its old value (R351). -/
def isMapReg (a : Nat) : Bool := REPAIR.MAP_at 0 ≤ a && a ≤ REPAIR.MAP_at 255

/-- Status registers that show the present condition of their unit, which NAP and a unit reset do not change. -/
def isStatusReg (a : Nat) : Bool :=
  a == WELL.STATUS_at || a == WEIR.STATUS_at || a == REPAIR.STATUS_at || a == REPAIR.SPARES_at || a == CIST.STATUS_at || a == CIST.OPT_SEQ_at

/-- The supply flags that show levels outside the device, as they stood in `old`. -/
def Dev.keepSupply (d old : Dev) : Dev :=
  let f (d : Dev) (x : Fld) : Dev := d.wr x (old.rd x)
  [WELL.STATUS_SRC, WELL.STATUS_VMAIN_LOW, WELL.STATUS_VBAK_LOW, WEIR.STATUS_VMAIN_LOW, WEIR.STATUS_VPA_LOW_A, WEIR.STATUS_VPA_LOW_B].foldl
    f d

/-- A reset or a boot wake holds HEARTBEAT low until LB.0's first feed (R355): a pin that toggled in `old` has stopped. -/
def Dev.heartStops (d : Dev) (old : Dev) : Dev :=
  if old.on SLUICE.STATUS_HB_RUN then d.setF SLUICE.EVENTS_HB_STOP else d

/-! ### SRAM (R271, R275, R276) -/

/-- Whether logical bank `b` is retained (R275). -/
def Dev.retained (d : Dev) (b : Nat) : Bool :=
  if b < 64 then (d.reg (WELL.RETAIN_at (b / 32))).getLsbD (b % 32) else (d.reg (WELL.RETAIN_at 2)).getLsbD (b - 64)

/-- Every bank that is not retained is filled VOID (R271). -/
def Dev.fillBanks (d : Dev) : Dev := { d with sram := Store.keep (fun i _ => d.retained (bankOf (4 * i))) d.sram }

/-- The word at SRAM word index `i` as a check corrects it. -/
def Dev.checkedWord (d : Dev) (i : Nat) : TWord :=
  let w := Store.get SramWord.blank d.sram i
  if flipCount w.flip ≤ 1 then ⟨w.data, w.tag⟩
  else ⟨w.data ^^^ w.flip.setWidth 32, Tag.ofCode (w.tag.code ^^^ (w.flip.extractLsb' 32 4).toNat)⟩

/-- The five octets of a word under a retention signature (R276). -/
def sigOctets (w : TWord) : List Byte := octetsOf w.data ++ [BitVec.ofNat 8 w.tag.code]

/-- The signature of logical bank `b` (R276). -/
def Dev.signature (d : Dev) (b : Nat) : Word :=
  let c := (List.range 16384).foldl (fun c i => (sigOctets (d.checkedWord (16384 * b + i))).foldl crc32Octet c) 0xFFFFFFFF
  Word.ofNat (c ^^^ 0xFFFFFFFF)

/-- The signatures of the retained banks are taken (R276). -/
def Dev.takeSignatures (d : Dev) : Dev :=
  let sigs := (List.range 96).foldl (fun s b => if d.retained b then Store.put none s b (some (d.signature b)) else s) []
  { d with well := { d.well with signatures := sigs } }

/-- Every word of logical bank `b` is retagged POISON over its data, with a fresh code (R276). -/
def Dev.poisonBank (d : Dev) (b : Nat) : Dev :=
  (List.range 16384).foldl (fun d i => d.putWord (4 * (16384 * b + i)) ⟨(d.checkedWord (16384 * b + i)).data, .poison⟩) d

/-- A retained bank fails its signature (R276, R305). -/
def Dev.bankFails (d : Dev) (b : Nat) : Dev :=
  let a := if b < 64 then WELL.RETFAIL_at (b / 32) else WELL.RETFAIL_at 2
  let bit := if b < 64 then b % 32 else b - 64
  let d := ((d.poisonBank b).setReg a (d.reg a ||| Word.ofNat (2 ^ bit))).setF WELL.EVENTS_RETFAIL
  d.fault (mkUnitFault 0x03 5 b 0 0)

/-- The retained banks are checked against their signatures (R276). -/
def Dev.checkBanks (d : Dev) : Dev :=
  let sigs := d.well.signatures
  let d := (List.range 96).foldl (fun d b =>
    match Store.get none sigs b with
    | some c => if d.signature b == c then d else d.bankFails b
    | none => d) d
  { d with well := { d.well with signatures := [] } }

/-! ### What the internal state of the units loses -/

/-- Everything in the core domain beside registers and SRAM that no reset keeps: queues, heaps, lanes, jobs, links, transports. -/
def Dev.coreLose (d : Dev) : Dev :=
  { d.cistCut with
    flumes := [], basin := Basin.reset, lathe := Lathe.reset, rf := [], chisel := Chisel.reset, cores := Cores.reset, spout := Spout.reset,
    qsp := Qsp.reset, aqua := [], am := Am.reset }

/-- The slots' units and levels that live in the Wellspring domain start again after a core-domain reset: monitors idle (R325), no F reset
waiting (R352), HEARTBEAT low until LB.0's first feed (R355), no entry in progress. -/
def Dev.wellLose (d : Dev) : Dev :=
  { d with
    clep := { d.clep with dmon := [] },
    sluice := { d.sluice with fPending := false, fed := false, injections := [] },
    well := { d.well with fired := 0#16, held := 0#16, levels := d.well.levels &&& 0xCB00#16, signatures := [], leaving := 0 } }

/-- After C and W (R310, R311): the Clepsydra, Sluice, Wellspring and the repair engine start from nothing; the supplies and TESTMODE stay
as they are. -/
def Dev.coldLose (d : Dev) : Dev :=
  { d with
    clep := Clep.reset, sluice := Sluice.reset, repair := Repair.reset, weir := { Weir.reset with vpa := d.weir.vpa },
    well := { Well.reset with mainOff := d.well.mainOff, testmode := d.well.testmode } }

/-! ### The option-area load (R291) -/

/-- The active copy is chosen (R291 step 1): of the valid copies the one with the higher OPT_SEQ. -/
def Dev.chooseCopy (d : Dev) : Dev :=
  let a := d.cist.optA
  let b := d.cist.optB
  let useB := d.copyGood true && (!d.copyGood false || a.seq < b.seq)
  let copy := if useB then b else a
  let good := d.copyGood useB
  ((d.wrB CIST.STATUS_OPT_COPY useB).wrB CIST.STATUS_OPT_OK good).wr CIST.OPT_SEQ_SEQ (if good then copy.seq else 0xFFFFFFFF)

/-- The Weir image's octets 0x0100 to 0x01A7. -/
def Dev.weirOctets (c : Cells) (d : Dev) : List Byte := ((List.range 42).map fun i => d.optWord c (0x100 + 4 * i)).flatMap octetsOf

/-- The Weir loads its image and checks its CRC (R126); the levels and the cable clamp are held to the limits it brings (R133, R135). -/
def Dev.weirLoad (c : Cells) (d : Dev) : Dev :=
  let d := weirWords.foldl (fun d (off, reg) => d.setReg reg (d.optWord c off &&& fieldMask reg)) d
  let crc := crc32 (d.weirOctets c)
  let stored := (d.optWord c 0x1AC).toNat
  let good := crc == stored
  let d := (d.wrB WEIR.STATUS_SILENT (!good)).wrB WEIR.STATUS_HEALTHY good
  let d := ((d.vpaStands 0 (d.vpa 0)).vpaStands 1 (d.vpa 1)).cableCheck
  if good then d else d.fault (mkUnitFault 0x19 17 0 stored crc)

/-- The fields of the trims and of the Spout defaults (R290, log entry 5). -/
def Dev.loadDefaults (c : Cells) (d : Dev) (fresh : Bool) : Dev :=
  let w (off : Nat) : Word := d.optWord c off
  let put (d : Dev) (reg off : Nat) : Dev := d.setReg reg (w off &&& fieldMask reg)
  let d := put (put (put (put d (BASIN.GAINCAL_at 0) 0x10) (BASIN.GAINCAL_at 1) 0x14) (RF.PACAL_at 0) 0x18) (RF.PACAL_at 1) 0x1C
  let d := if fresh then put d CLEP.TRIM_at 0x20 else d
  let d := put (put (put d SPOUT.CFG_at 0x60) SPOUT.SOFT_TMO_at 0x64) QSP.CFG_S_at 0x68
  (List.range 8).foldl (fun d i => put d (CHISEL.WRAPKEY_at i) (0x80 + 4 * i)) d

/-- The journal scan (R289); a suspended erase that survived sleep is not INCOMPLETE. -/
def Dev.scanJournal (d : Dev) : Dev :=
  d.modCist fun x => { x with incomplete := x.scan.filter fun b => !((x.susp.map fun o => cistBlock o.addr == b).getD false) }

/-- WSEQ takes TICK × 65,536 (R167, R176). -/
def Dev.setWseq (d : Dev) : Dev :=
  let w := d.tick % 2 ^ 48 * 65536
  ({ d with chisel := { d.chisel with wseq := w } } : Dev).wr CHISEL.WSEQ_HI_SEQ (w / 2 ^ 32)

/-- Every Aqueduct port that the live map fences shows FENCED (R199, R351). -/
def Dev.fencedLinks (d : Dev) : Dev :=
  (List.range 2).foldl (fun d p => if d.fencedAqRip 10 p then d.wr (AQUA.LINK_STATE p) 5 else d) d

/-- The option-area load (R13, R291): the copy, its fields, WSEQ, the Weir image, the live map, the journal scan; the supply rule starts again
(R133). `fresh` after C and W. -/
def Dev.optLoad (c : Cells) (d : Dev) (fresh : Bool) : Dev :=
  let prev := d.liveMap
  let d := (d.chooseCopy.optLinesRead.loadDefaults c fresh).setWseq
  let d := (d.weirLoad c).loadMap c prev fresh
  d.fencedLinks.scanJournal.supplyRestart

/-! ### The start of the core domain (R312) -/

/-- Every served slot is BOOTING and every other UNSERVED, and the boot engine loads (R245). -/
def Dev.bootStart (d : Dev) : Dev :=
  (List.range 12).foldl (fun d s => d.setSlotState s (if d.rd (assignFld s) == 15 then 6 else 7)) (d.wr CORES.BOOT_STATE 0)

/-- The Cistern's flags that no event keeps (R294). -/
def Dev.cistFlagsLost (d : Dev) : Dev := (d.wr CIST.STATUS_SUSP_PEND 0).wr CIST.STATUS_AUTO 0

/-- The supply hold of R287 where VMAIN stands below the warning level when the Cistern comes up. -/
def Dev.holdIfLow (d : Dev) : Dev := if d.on WELL.STATUS_VMAIN_LOW then d.supplyHold else d

/-- A transition ends: a held value becomes TARGET (R301). -/
def Dev.transitionEnds (d : Dev) : Dev :=
  if d.on WELL.MODE_HELD_V then (d.wr WELL.MODE_TARGET (d.rd WELL.MODE_HELD)).wr WELL.MODE_HELD_V 0 else d

/-- The core domain starts (R312): the option-area load, the ledger after C or W, and the boot load; `why` is WELL.RESET_CAUSE.WHY.  In
STOPPED the core domain is held and RESET_CAUSE stays (R353). -/
def Dev.coreStart (c : Cells) (d : Dev) (why : Nat) : Dev :=
  let fresh := why ≤ 2
  let d := { d with well := { d.well with coreOff := false } }
  let d := d.optLoad c fresh
  let d := if fresh then d.coldLedger else d.wrB WEIR.STATUS_COLD d.anyCold
  let d := ((d.wr WELL.STATUS_STATE 0).wr WELL.STATUS_XTAL32_OK 1).holdIfLow
  if d.on SLUICE.STATUS_STOPPED then d
  else (d.wr WELL.RESET_CAUSE_WHY why).bootStart

/-- Starts the core domain, or leaves it off while VMAIN is below V_START (R310, R312). -/
def Dev.startOrWait (c : Cells) (d : Dev) (why : Nat) : Dev :=
  if d.well.mainOff then { d with well := { d.well with coreOff := true, startWhy := why } } else d.coreStart c why

/-- The state the device sleeps in, or has left while the wake from it is not complete: 2 NAP, 3 HIBERNATE, 4 SHELF. -/
def Dev.sleeps (d : Dev) : Nat := if d.power == 6 then d.rd WELL.WAKE_CAUSE_FROM else d.power

/-- The events whose losses a reset adds to its own when it meets the device asleep, or before the wake has applied them (R11, R12). -/
def Dev.sleepEvent (d : Dev) : List Nat :=
  if d.sleeps == 2 then [8] else if d.sleeps == 3 then [9] else if d.sleeps == 4 then [10] else []

/-- A C, W, B, P, S or F reset (R311), numbered as R10 orders them (0 to 5): a transmission it cuts is charged (R131), a transition it meets
ends (R301). -/
def resetDevice (c : Cells) (d : Dev) (e : Nat) : Cells × Dev :=
  let (c, d) := cutLocks c d
  let es := e :: d.sleepEvent
  let old := d
  let asleep := d.sleeps == 2 || d.sleeps == 3
  let d := ((d.chargeCut 0).chargeCut 1).coreLose.wellLose
  let d := if e ≤ 1 then d.coldLose else d
  let d := if e ≤ 2 || old.sleeps == 4 then { d with sram := [] } else if asleep then d.fillBanks else d
  let d := ((d.loseRegs es fun a => !isMapReg a).keepSupply old).transitionEnds
  let d := if e ≤ 1 then d else d.heartStops old
  (c, d.startOrWait c (e + 1))

/-! ### FATAL faults (R352, R353) -/

/-- REPAIR and Sluice limits: FATAL_WINDOW in ticks. -/
def Dev.fatalWindow (d : Dev) : Nat := max 1 (d.rd SLUICE.CFG_FATAL_WINDOW) * 1966080

/-- The F resets that count (R353): those whose TICK lies within the window. -/
def Dev.fCounted (d : Dev) : List Nat := d.sluice.fResets.filter fun t => d.tick ≤ t + d.fatalWindow

/-- Sluice records FATAL_LIMIT and enters STOPPED with one more, uncounted F reset (R353). -/
def enterStopped (c : Cells) (d : Dev) : Cells × Dev :=
  let d := d.fatal (mkUnitFault 0x22 18 0 d.fCounted.length 0)
  resetDevice c (d.wr SLUICE.STATUS_STOPPED 1) 5

/-- The F reset of a latched FATAL fault is applied (R352 step 3), or Sluice stops restarting (R353). -/
def applyF (c : Cells) (d : Dev) : Cells × Dev :=
  if !d.sluice.fPending then (c, d)
  else if d.on SLUICE.STATUS_STOPPED then (c, { d with sluice := { d.sluice with fPending := false } })
  else if max 1 (d.rd SLUICE.CFG_FATAL_MAX) ≤ d.fCounted.length then enterStopped c d
  else resetDevice c { d with sluice := { d.sluice with fResets := d.fCounted ++ [d.tick] } } 5

end Sys2Proof.Machine
end

