-- ==== Sys2Proof/Machine/Well.lean ====
section
/-! DEFINITION. Wellspring: power states, wakes, supplies, resets and the Ripple receivers (chapter 13). -/

namespace Sys2Proof.Machine

/-! ### State requests (R296, R297, R301) -/

/-- The state a MODE value names (R315): 5 to 7 act as 0. -/
def modeState (v : Nat) : Nat := if v ≤ 4 then v else 0

/-- A write of WELL.MODE (R301): held during a transition; while a request waits, a TARGET of RUN leaves LB.0 parked as an ordinary WAIT. -/
def Dev.modeWrite (d : Dev) (v : Word) : Dev :=
  let t := bitsOf v 0 3
  if d.power == 5 || d.power == 6 then
    let d := if d.on WELL.MODE_HELD_V then d.setF WELL.EVENTS_SUPERSEDED else d
    (d.wr WELL.MODE_HELD t).wr WELL.MODE_HELD_V 1
  else
    let d := d.wr WELL.MODE_TARGET t
    if d.power == 7 && modeState t == 0 then d.wr WELL.STATUS_STATE 0 else d

/-- MODE_WRITE. -/
def execModeWrite (v : Word) (s : State) : Host.Outcome State Fault Refusal := onBus s 1 fun d => d.modeWrite v

/-- Every slot but LB.0 is parked in WAIT, DOUBLE or UNSERVED, and no core rotates (R296, R343). -/
def Dev.othersParked (d : Dev) : Bool :=
  d.repair.rots.isEmpty && (List.range 12).all fun s => s == 8 || d.slotState s == 3 || d.slotState s == 4 || d.slotState s == 6

/-- Every running QSP frame is to end at its next octet boundary (R376). -/
def abortFrames : Store (Option QspFrame) → Store (Option QspFrame)
  | [] => []
  | (n, some f) :: r => (n, some { f with aborting := true }) :: abortFrames r
  | (n, none) :: r => (n, none) :: abortFrames r

/-- Wellspring suspends an erase that runs (R298), and one that a supply hold suspended stays so (R288). -/
def Dev.cistSleep (d : Dev) : Dev :=
  let d := if d.cist.susp.isSome then d.modCist fun c => { c with fwSusp := true } else d
  match d.cist.op with
  | some o => if o.op == 2 then d.cistSuspend else d
  | none => d

/-- ENTRY_ACCEPT, the instant Q (R296 to R298): declined if an enabled source is pending; otherwise RF turns off, and for NAP and deeper
held requests end, Aqueduct and QSP frames end, and Wellspring suspends an erase.  `fired` starts with the levels that stand at Q. -/
def execEntryAccept (s : State) : Host.Outcome State Fault Refusal :=
  onDev s fun d =>
    if d.power != 7 || !d.othersParked then d
    else if d.rd WELL.PEND_SOURCES &&& d.rd WELL.WAKE_EN_SOURCES != 0 then d.decline
    else
      let t := modeState (d.rd WELL.MODE_TARGET)
      let d := { d with well := { d.well with fired := d.well.levels &&& BitVec.ofNat 16 d.levelSources, leaving := t } }
      let d := ((d.wr WELL.STATUS_STATE 5).rfOff 0).rfOff 1
      if t == 1 then d
      else
        let d := ((d.endHeld 0 0xA true true).endHeld 1 0xA true true).aqPower
        ({ d with qsp := { d.qsp with frames := abortFrames d.qsp.frames } } : Dev).cistSleep

/-- ENTRY_LIMIT_EXPIRY (R296). -/
def execEntryLimitExpiry (s : State) : Host.Outcome State Fault Refusal :=
  onDev s fun d =>
    let lim := d.rd WELL.CFG_ENTRY_LIMIT
    if d.power == 7 && lim != 0 && d.well.waitFrom + lim ≤ d.tick then d.decline else d

/-- The wake that the end of an entry finds waiting (R299, R300): a level still asserted, and every source that fired and did not fall
wholly into the window, is early; an edge in the window counts only with REPLAY. -/
def Dev.entryWake (d : Dev) (windowed : Nat) : Dev :=
  let st := d.power
  let fired := d.well.fired.toNat
  let inWindow := (fired &&& windowed) &&& (0xFFFF - d.levelSources)
  let early := d.wakers ((fired &&& (0xFFFF - windowed)) ||| d.well.levels.toNat) st
  let replay := if d.on WELL.CFG_REPLAY then d.wakers inWindow st else 0
  if early == 0 && replay == 0 then d else d.beginWake (early ||| replay) (replay != 0) (early != 0)

/-- The losses at the entry of HIBERNATE or SHELF: the core domain is off; a suspended erase survives HIBERNATE only (R288, R295, R298). -/
def Dev.powerDown (d : Dev) : Dev :=
  let lathe := (List.range 64).foldl (fun d m => if d.latheMon m then d.idleMon m else d) d
  let cist := if d.power == 3 then { d.cist with seq := .idle, buffers := [] } else d.cistCut.cist
  { lathe.coreLose with cist := cist }

/-- Whether something that R62, R117, R274 or R298 lets end first still holds up the entry: a transmission whose report is not written, a
lane whose record is not, a rotation, for NAP and deeper a Cistern operation. -/
def Dev.entryHeld (d : Dev) : Bool :=
  (d.rfp 0).tx.now.isSome || (d.rfp 1).tx.now.isSome || laneNos.any (fun n => (d.lane n).state == .drain) || d.repair.bankCopy.isSome || !d.repair.rots.isEmpty
    || (decide (2 ≤ d.well.leaving) && d.cist.op.isSome)

/-- ENTRY_COMPLETE (R298): domains are powered down once nothing holds up the entry; `windowed` are the edges that fell into the entry
window and the levels that ended in it. -/
def execEntryComplete (windowed : BitVec 16) (s : State) : Host.Outcome State Fault Refusal :=
  onDev s fun d =>
    if d.power != 5 || d.entryHeld then d
    else
      let d := if d.well.leaving == 2 || d.well.leaving == 3 then d.takeSignatures else d
      let d := (d.wr WELL.STATUS_STATE d.well.leaving).transitionEnds
      let d := if 3 ≤ d.power then d.powerDown else d
      d.entryWake windowed.toNat

/-! ### Waking (R303 to R305) -/

/-- A parked slot resumes at the instruction after its WAIT (R241). -/
def Dev.resumeSlot (d : Dev) (s : Nat) : Dev := if d.apparent s == 3 then d.leaveWait s 1 else d

/-- Synthesisers whose SYN_CTRL.EN is 1 power up (R304). -/
def Dev.rfUp (d : Dev) : Dev :=
  (List.range 2).foldl (fun d p => if d.on (RF.SYN_CTRL_EN p) then d.returnToFc p else d) d

/-- Units that continue with their kept configuration after DOZE or NAP (R304). -/
def Dev.resumeUnits (d : Dev) : Dev :=
  let d := ((d.wr WELL.STATUS_STATE 0).setLevel 13 false).transitionEnds.rfUp
  (List.range 12).foldl Dev.resumeSlot d

/-- What NAP does not keep takes its reset value (R11, R314); status registers go on showing their unit's condition, and a link the reason
for which it ended.  AGC.INDEX takes its reset value while AGC_FROZEN and AGC_INDEX stay: the frozen index is in force again with the next
write of BASIN.PCFG (log entry 105). -/
def Dev.napLose (d : Dev) : Dev :=
  let old := d
  let d := d.loseRegs [8] fun a => !isMapReg a && !isStatusReg a
  let d := (List.range 12).foldl (fun d s => d.wr (CORES.STATUS_STATE s) (old.slotState s)) d
  let d := (List.range 2).foldl (fun d p => ((d.wr (AQUA.LINK_STATE p) (old.link p)).wr (AQUA.LINK_REASON p) (old.rd (AQUA.LINK_REASON p))).modSyn p
    fun s => { s with heldCal := none }) d
  let d := { d.cistFlagsLost with basin := Basin.reset, chisel := { d.chisel with lease := none, inner := none, jobs := d.chisel.jobs.map fun j => { j with orphan := j.orphan || j.usesState } } }
  laneNos.foldl (fun d n => d.setLane n (if d.unitFenced 1 n then { Lane.blank with state := .fenced } else Lane.blank)) d

/-- Physical bits of SRAM words changed while the device slept. -/
def Dev.upsets (d : Dev) (l : List (BitVec 21 × BitVec 43)) : Dev := l.foldl (fun d u => d.upset (4 * u.1.toNat) u.2) d

/-- Physical bits of program memory, decode-table and microcode words changed while the device slept. -/
def Dev.codeUpsets (d : Dev) (l : List (BitVec 22 × BitVec 55)) : Dev :=
  l.foldl (fun d u => d.setCodeErr u.1.toNat (d.codeErr u.1.toNat ^^^ u.2)) d

/-- A wake from HIBERNATE or SHELF is a boot without a reset (R303): `e` is its event of R10. -/
def Dev.bootWake (c : Cells) (d : Dev) (e : Nat) : Dev :=
  let old := d
  let susp := d.cist
  let d := if e == 9 then d.fillBanks.checkBanks else { d with sram := [] }
  let d := { d.coreLose with cist := susp, sluice := { d.sluice with fed := false } }
  let d := ((d.loseRegs [e] fun a => !isMapReg a).keepSupply old).heartStops old
  d.transitionEnds.coreStart c (e - 2)

/-- WAKE (R303): the wake completes, after what the sleep did to memory. -/
def execWake (upsets : SleepUpsets) (s : State) : Host.Outcome State Fault Refusal :=
  onDevC s fun c d =>
    if d.power != 6 then d
    else
      let d := { d with sluice := { d.sluice with feedFrom := d.tick } }
      match d.rd WELL.WAKE_CAUSE_FROM with
      | 1 => d.resumeUnits
      | 2 => ((((d.upsets upsets.sram).codeUpsets upsets.code).fillBanks.checkBanks).napLose.holdIfLow).showDue.resumeUnits
      | 3 => (d.upsets upsets.sram).bootWake c 9
      | _ => d.bootWake c 10

/-! ### Ripple (R306, R307) -/

/-- RIPPLE.CTRL.EN of receiver `r`. -/
def rippleEnFld (r : Nat) : Fld := if r == 0 then RIPPLE.CTRL_EN_A else RIPPLE.CTRL_EN_B

/-- Receiver `r` listens (R306). -/
def Dev.rippleOn (d : Dev) (r : Nat) : Bool := d.on (rippleEnFld r) && d.power != 4 && !d.fencedAqRip 11 r

/-- Receiver `r` accepts a call on a path (R306); STAMP takes the TICK of the next edge. -/
def Dev.rippleAccept (d : Dev) (r path : Nat) : Dev :=
  let d := ((d.wr (RIPPLE.STATUS_PATH r) path).inc (RIPPLE.CALLS_ACCEPTED r)).setF
    (if r == 0 then RIPPLE.EVENTS_ACCEPT_A else RIPPLE.EVENTS_ACCEPT_B)
  ({ d with well := { d.well with stampDue := d.well.stampDue ||| BitVec.ofNat 2 (2 ^ r) } } : Dev).fireWake (4 + r)

/-- The PATH code of an address (R306), the first that matches. -/
def Dev.ripplePath (d : Dev) (r addr : Nat) : Option Nat :=
  if d.on (RIPPLE.CFG_A0_EN r) && addr == d.rd (RIPPLE.ADDR0_ADDR r) then some 1
  else if d.on (RIPPLE.CFG_A1_EN r) && addr == d.rd (RIPPLE.ADDR1_ADDR r) then some 2
  else if d.on (RIPPLE.CFG_BC_EN r) && addr == 0xFFFFFF then some 3
  else none

/-- Whether receiver `r` receives a carrier at `hz` (R306): 2 MHz around CFG.FREQ pass. -/
def Dev.rippleInBand (d : Dev) (r hz : Nat) : Bool :=
  let f := 100000 * clampN 4100 9600 (d.rd (RIPPLE.CFG_FREQ r))
  f ≤ hz + 1000000 && hz ≤ f + 1000000

/-- Whether receiver `r` decodes bits at `rate` bits a second (R152, R306): the rate of CFG.RATE to within 5 %. -/
def Dev.rippleAtRate (d : Dev) (r rate : Nat) : Bool :=
  let n := if d.on (RIPPLE.CFG_RATE r) then 8000 else 1000
  95 * n ≤ 100 * rate && 100 * rate ≤ 105 * n

/-- The number that `n` bits spell, the first highest. -/
def bitsNum (bits : List Bool) (n : Nat) : Nat := (bits.take n).foldl (fun v b => 2 * v + b.toNat) 0

/-- The serial matcher (R306) on the bits after the first `zeros` zeros: the sync, address and CRC, or the pattern, whose own first bit is one
of the zeros. -/
def Dev.rippleMatch (d : Dev) (r zeros : Nat) (bits : List Bool) : Dev :=
  if 8 ≤ zeros && 40 ≤ bits.length && bitsNum bits 8 == 0xD3 then
    let addr := bitsNum (bits.drop 8) 24
    if crc8 addr != bitsNum (bits.drop 32) 8 then d.inc (RIPPLE.CALLS_CRCFAIL r)
    else match d.ripplePath r addr with
      | some p => d.rippleAccept r p
      | none => d
  else if d.on (RIPPLE.CFG_PAT_EN r) && 9 ≤ zeros && 31 ≤ bits.length && bitsNum bits 31 == 0x5A3C96E1 then d.rippleAccept r 4
  else d

/-- RIPPLE_CALL (R306): a keyed carrier at `hz` reaches receiver `r`'s antenna. -/
def execRippleCall (r : Fin 2) (hz : BitVec 30) (line : Keying) (s : State) : Host.Outcome State Fault Refusal :=
  onDev s fun d =>
    let bits := chipBits line.chips
    let zeros := (bits.takeWhile fun b => !b).length
    if d.rippleOn r.val && d.rippleInBand r.val hz.toNat && d.rippleAtRate r.val line.rate then d.rippleMatch r.val zeros (bits.drop zeros) else d

/-- Whether the envelope exceeded ACT_THR in each of the latest ACT_MS 1 ms slots, of which `peaks` gives the peaks in dBm, latest first
(R306, R316). -/
def Dev.rippleActive (d : Dev) (r : Nat) (peaks : List Int) : Bool :=
  let n := max 1 (d.rd (RIPPLE.FB_ACT_MS r))
  let thr := max (-82) (min (-40) (d.rdS (RIPPLE.FB_ACT_THR r)))
  n ≤ peaks.length && (peaks.take n).all fun x => thr < x

/-- RIPPLE_ACTIVITY (R306): a 1 ms slot ends.  Slots of a call that satisfies the address path accept nothing more. -/
def execRippleActivity (x : EnvelopeSlots) (s : State) : Host.Outcome State Fault Refusal :=
  onDev s fun d =>
    if d.rippleOn x.r.val && d.on (RIPPLE.CFG_ACT_EN x.r.val) && d.rippleActive x.r.val x.peaks && !x.call then d.rippleAccept x.r.val 5 else d

/-! ### Supplies (R308 to R310) -/

/-- A measurement of VMAIN and VBAK (R315): what the supplies measure, nothing in the model says (log entry 3). -/
def Dev.measureSupply (d : Dev) : Dev :=
  let (w, d) := d.drawWord
  (d.wr WELL.SUPPLY_VMAIN (bitsOf w 0 8)).wr WELL.SUPPLY_VBAK (bitsOf w 8 8)

/-- VMAIN is below the warning level (R310): in NAP and deeper only the flag; otherwise transmissions are cut, clearances refused, and the
Cistern holds. -/
def Dev.vmainWarn (d : Dev) : Dev :=
  let d := ((d.setF WELL.EVENTS_WARN).wr WELL.STATUS_VMAIN_LOW 1).wr WEIR.STATUS_VMAIN_LOW 1
  let d := (d.measureSupply.wr WEIR.STATUS_SUPPLY_OK_A 0).wr WEIR.STATUS_SUPPLY_OK_B 0
  let d := d.setLevel 15 false
  if 2 ≤ d.power && d.power ≤ 4 then d else ((d.supplyDip 0).supplyDip 1).supplyHold

/-- VMAIN_WARN. -/
def execVmainWarn (s : State) : Host.Outcome State Fault Refusal :=
  onDev s fun d => if d.on WELL.STATUS_VMAIN_LOW then d else d.vmainWarn

/-- VMAIN_RECOVERY (R309, R310): VMAIN has stood 50 mV above the warning level for 1 ms. -/
def execVmainRecovery (s : State) : Host.Outcome State Fault Refusal :=
  onDev s fun d =>
    if !d.on WELL.STATUS_VMAIN_LOW then d
    else
      let d := (d.wr WELL.STATUS_VMAIN_LOW 0).wr WEIR.STATUS_VMAIN_LOW 0
      d.setLevel 15 true

/-- The core-domain brown-out (R310): in HIBERNATE and SHELF nothing but held wakes; otherwise the core domain goes off at once. -/
def brownOut (c : Cells) (d : Dev) : Cells × Dev :=
  let d := if d.on WELL.STATUS_VMAIN_LOW then d else d.vmainWarn
  let d := { d with well := { d.well with mainOff := true } }
  if d.power == 3 || d.power == 4 || d.well.coreOff then (c, d) else resetDevice c d 2

/-- BROWN_OUT. -/
def execBrownOut (s : State) : Host.Outcome State Fault Refusal := onBoth s brownOut

/-- The end of the V_START hold (R303, R310, R312): the core domain starts after B, and a held wake begins. -/
def Dev.vStart (c : Cells) (d : Dev) : Dev :=
  if !d.well.mainOff then d
  else
    let d := { d with well := { d.well with mainOff := false } }
    if d.well.coreOff then d.coreStart c d.well.startWhy
    else
      let srcs := d.wakers (d.well.held.toNat ||| d.well.levels.toNat) d.power
      let held := d.wakers d.well.held.toNat d.power
      let d := { d with well := { d.well with held := 0#16 } }
      if (d.power == 3 || d.power == 4) && held != 0 then d.beginWake srcs false false else d

/-- V_START_HOLD_END: `testmode` is the TESTMODE ball at the end of the reset (R357). -/
def execVStartHoldEnd (testmode : Bool) (s : State) : Host.Outcome State Fault Refusal :=
  onDevC s fun c d => ({ d with well := { d.well with testmode := testmode } } : Dev).vStart c

/-- VBAK_LOW (R310). -/
def execVbakLow (s : State) : Host.Outcome State Fault Refusal :=
  onDev s fun d => (d.setF WELL.EVENTS_BAKLOW).wr WELL.STATUS_VBAK_LOW 1

/-- VBAK_RECOVERY (R309). -/
def execVbakRecovery (s : State) : Host.Outcome State Fault Refusal := onDev s fun d => d.wr WELL.STATUS_VBAK_LOW 0

/-- A reset that ends with the TESTMODE ball at `testmode`. -/
def resetWith (testmode : Bool) (e : Nat) (c : Cells) (d : Dev) : Cells × Dev :=
  resetDevice c { d with well := { d.well with testmode := testmode } } e

/-- VWELL_LOW: a Wellspring reset W (R310). -/
def execVwellLow (testmode : Bool) (s : State) : Host.Outcome State Fault Refusal := onBoth s (resetWith testmode 1)

/-- VWELL_POWER_ON: a cold start C (R310). -/
def execVwellPowerOn (testmode : Bool) (s : State) : Host.Outcome State Fault Refusal := onBoth s (resetWith testmode 0)

/-- SOURCE_SWITCH (R308): VWELL is taken from VBAK (`bak`) or VMAIN. -/
def execSourceSwitch (bak : Bool) (s : State) : Host.Outcome State Fault Refusal :=
  onDev s fun d => if d.on WELL.STATUS_SRC == bak then d else (d.setF WELL.EVENTS_SRCSWITCH).wrB WELL.STATUS_SRC bak

/-- RESET_N_PULSE (R311): a low pulse of `ns` nanoseconds.  Under 200 ns it is ignored; from 1 µs it is a P reset; between, either, which the
spec leaves open (log entry 3).  While VMAIN keeps the core domain off, RESET_N has nothing to restart. -/
def execResetNPulse (ns : Nat) (testmode : Bool) (s : State) : Host.Outcome State Fault Refusal :=
  onBoth s fun c d =>
    if ns < 200 || d.well.coreOff then (c, d)
    else
      let (hit, d) := if 1000 ≤ ns then (true, d) else d.drawBool
      if hit then resetWith testmode 3 c d else (c, d)

/-! ### Unit resets (R313) -/

/-- Port `p`'s synthesiser and transmit chain are lost: its lanes end, and a transmission on the air is charged (R38, R131). -/
def Dev.rfLose (d : Dev) (p : Nat) : Dev := ((d.abortPort p).chargeCut p).setRf p Rf.idle

/-- Basin is lost: lanes leave SEARCH and the ports are no longer active, which Lathe's windows take into account (R90, R91). -/
def Dev.basinLose (d : Dev) : Dev :=
  let d := laneNos.foldl (fun d n => if (d.lane n).state == .search then d.leaveSearch n else d) d
  let d := { (d.noteInactive 0).noteInactive 1 with basin := Basin.reset }
  laneNos.foldl (fun d n => d.setLane n (if d.unitFenced 1 n then { Lane.blank with state := .fenced } else Lane.blank)) d

/-- Every Flume is disabled and empty (R195): a read stalled on one traps as at a disable (R187). -/
def Dev.flumesLose (d : Dev) : Dev := { (List.range 64).foldl (fun d n => d.flumeDisable n) d with flumes := [] }

/-- What a unit reset loses beside the unit's registers (R174, R288, R314). -/
def Dev.unitLose (d : Dev) (u : Nat) : Dev :=
  match u with
  | 6 => d.rfLose 0
  | 7 => d.rfLose 1
  | 8 => d.basinLose
  | 10 => { d with lathe := Lathe.reset }
  | 11 =>
    let d := d.abortJobs
    { d with chisel := { d.chisel with lease := none, inner := none, jobs := [] } }
  | 12 => d.flumesLose
  | 13 => { d with aqua := [] }
  | 14 => d.cistCut
  | 15 => { d with spout := Spout.reset }
  | 16 => { d with qsp := Qsp.reset }
  | 17 => (List.range 12).foldl (fun d s => d.modSlot s fun v => { v with rotations := 0 }) d
  | _ => d

/-- The OPT fields of a unit that a reset of it does not keep take the value that the option area holds (R9): GAINCAL and PACAL. -/
def Dev.optAgain (c : Cells) (d : Dev) (u : Nat) : Dev :=
  let put (d : Dev) (reg off : Nat) : Dev := d.setReg reg (d.optWord c off &&& fieldMask reg)
  match u with
  | 6 => put d (RF.PACAL_at 0) 0x18
  | 7 => put d (RF.PACAL_at 1) 0x1C
  | 8 => put (put d (BASIN.GAINCAL_at 0) 0x10) (BASIN.GAINCAL_at 1) 0x14
  | _ => d

/-- What a unit comes up with after its reset: the slots go on as they were (R223); the Cistern scans its journal and holds while VMAIN is
low (R287, R289); a fenced Aqueduct port shows FENCED (R199). -/
def Dev.unitAgain (c : Cells) (d old : Dev) (u : Nat) : Dev :=
  match u with
  | 13 => d.fencedLinks
  | 14 => d.cistFlagsLost.scanJournal.holdIfLow
  | 17 => (List.range 12).foldl (fun d s => d.wr (CORES.STATUS_STATE s) (old.slotState s)) d
  | _ => d.optAgain c u

/-- A unit reset U (R313): only the unit's registers and state change. -/
def Dev.unitReset (c : Cells) (d : Dev) (u : Nat) : Dev :=
  ((d.unitLose u).loseRegs [6] fun a => unitOf a == u && !isMapReg a && !isStatusReg a).unitAgain c d u

/-- The Weir reloads what the lock cells set since `old` govern (R127). -/
def Dev.reloadSince (old c : Cells) (d : Dev) : Dev :=
  (List.range 11).foldl (fun d b => if c.locked b && !old.locked b then d.weirReload c b else d) d

/-- UNIT_RESET: the unit is its block's number in R33; a reset of the Cistern may leave lock cells of a cut LOCK set (R288), which the Weir
notices as it notices a completed cell (R127; log entry 109). -/
def execUnitReset (u : Fin 19) (s : State) : Host.Outcome State Fault Refusal :=
  onBoth s fun c d =>
    if u.val == 14 then
      let (c', d) := cutLocks c d
      (c', (d.reloadSince c c').unitReset c' 14)
    else (c, d.unitReset c u.val)

/-! ### GPIO wake pins (R302) -/

/-- The level at each GPIO ball (R411): the output where it is enabled, otherwise the level that the board gives it. -/
def Dev.ballLevels (d : Dev) : Word :=
  (d.reg GPIO.OUT_at &&& d.reg GPIO.OE_at) ||| (d.pins.setWidth 32 &&& ~~~d.reg GPIO.OE_at)

/-- Source `src` of GPWAKE senses its ball (R302, R411): `was` holds the levels before. -/
def Dev.sensePin (d : Dev) (was : Word) (src pin lvl pol : Nat) : Dev :=
  let now := d.ballLevels.getLsbD pin
  if 24 ≤ pin || was.getLsbD pin == now then d
  else if lvl == 1 then d.setLevel src (now == (pol == 1))
  else if now == (pol == 1) then d.fireWake src
  else d

/-- The balls have changed from the levels `was`. -/
def Dev.sensePins (d : Dev) (was : Word) : Dev :=
  let d := d.sensePin was 8 (d.rd WELL.GPWAKE_PIN0) (d.rd WELL.GPWAKE_LVL0) (d.rd WELL.GPWAKE_POL0)
  d.sensePin was 9 (d.rd WELL.GPWAKE_PIN1) (d.rd WELL.GPWAKE_LVL1) (d.rd WELL.GPWAKE_POL1)

/-- The board gives a GPIO ball a level. -/
def Dev.pinLevel (d : Dev) (n : Nat) (level : Bool) : Dev :=
  let bit : BitVec 24 := BitVec.ofNat 24 (2 ^ n)
  ({ d with pins := if level then d.pins ||| bit else d.pins &&& ~~~bit } : Dev).sensePins d.ballLevels

/-- Whether a level source that GPWAKE names is asserted. -/
def Dev.gpAsserted (d : Dev) (pin lvl pol : Nat) : Bool := decide (pin < 24) && lvl == 1 && d.ballLevels.getLsbD pin == (pol == 1)

/-- A write of WELL.GPWAKE: a level source stands as its ball does. -/
def Dev.gpwakeWrite (d : Dev) (v : Word) : Dev :=
  let d := d.setReg WELL.GPWAKE_at (v &&& fieldMask WELL.GPWAKE_at)
  let put (d : Dev) (src : Nat) (on : Bool) : Dev := if d.well.levels.getLsbD src == on then d else d.setLevel src on
  let d := put d 8 (d.gpAsserted (d.rd WELL.GPWAKE_PIN0) (d.rd WELL.GPWAKE_LVL0) (d.rd WELL.GPWAKE_POL0))
  put d 9 (d.gpAsserted (d.rd WELL.GPWAKE_PIN1) (d.rd WELL.GPWAKE_LVL1) (d.rd WELL.GPWAKE_POL1))

/-- GPWAKE_PIN. -/
def execGpwakePin (pin : Fin 24) (level : Bool) (s : State) : Host.Outcome State Fault Refusal := onDev s fun d => d.pinLevel pin.val level

end Sys2Proof.Machine
end

