-- ==== Sys2Proof/Machine/Clock.lean ====
section
/-! DEFINITION. The clock: crystal and FINE edges, the vote of the TICK copies, and the commands of the Clepsydra (chapter 14), with what else
happens at a TICK edge (R130, R187, R306, R315, R355). -/

namespace Sys2Proof.Machine

/-! ### HEARTBEAT (R355, R356) -/

/-- The feed window in ticks (R358). -/
def Dev.feedWindow (d : Dev) : Nat := max 2048 (d.rd SLUICE.HB_CFG_WINDOW)

/-- Whether LB.0's feeding allows a toggle at the multiple of 2,048 that TICK last reached (R355, R356). -/
def Dev.feedOk (d : Dev) : Bool :=
  let t := d.tick - d.tick % 2048
  d.sluice.fed && ((t + 2 ^ 32 - d.rd SLUICE.HB_LAST_TICK) % 2 ^ 32 ≤ d.feedWindow || t ≤ d.sluice.feedFrom + d.feedWindow)

/-- Whether the pin toggles (R355, R356). -/
def Dev.heartToggles (d : Dev) : Bool :=
  let base := !d.on SLUICE.STATUS_FATAL && d.on WEIR.STATUS_HEALTHY
  if d.power == 4 then false
  else if 1 ≤ d.power && d.power ≤ 3 then base && d.on SLUICE.HB_CFG_SLEEP
  else base && d.feedOk

/-- HEARTBEAT toggles or is held low (R355). -/
def Dev.heartbeat (d : Dev) : Dev :=
  if d.heartToggles then (d.wr SLUICE.STATUS_HB_LEVEL (1 - d.rd SLUICE.STATUS_HB_LEVEL)).wr SLUICE.STATUS_HB_RUN 1
  else
    let d := if d.on SLUICE.STATUS_HB_RUN then d.setF SLUICE.EVENTS_HB_STOP else d
    (d.wr SLUICE.STATUS_HB_LEVEL 0).wr SLUICE.STATUS_HB_RUN 0

/-- Serves the multiple of 2,048 that the latest edge reached, if any. -/
def Dev.settleHeart (d : Dev) : Dev :=
  if d.clep.heartDue then ({ d with clep := { d.clep with heartDue := false } } : Dev).heartbeat else d

/-- HEARTBEAT_TICK. -/
def execHeartbeatTick (s : State) : Host.Outcome State Fault Refusal := onDev s Dev.settleHeart

/-- A write of HB_FEED (R355): it counts from LB.0 only. -/
def Dev.hbFeed (d : Dev) (m : Master) : Dev :=
  if m.isLB0 then { d.wr SLUICE.HB_LAST_TICK d.tick32 with sluice := { d.sluice with fed := true } } else d.setF SLUICE.EVENTS_HB_FOREIGN

/-- HB_FEED. -/
def execHbFeed (m : Master) (s : State) : Host.Outcome State Fault Refusal := onBus s 3 fun d => d.hbFeed m

/-! ### Edges (R318, R320) -/

/-- What the latest edge left is carried out before the next one. -/
def Dev.settleAll (d : Dev) : Dev :=
  let d := d.settleStalled.settleChiselMove.endRots
  let d := (List.range 16).foldl Dev.settleTimer d
  let d := (List.range 64).foldl Dev.settleMon d
  d.settleSecond.settleBucket.settleHeart

/-- The trim accumulator at a crystal edge: whether it corrects the period it opens, and its new value (R318). -/
def Dev.trimStep (d : Dev) : Bool × Nat :=
  let a := d.clep.acc + d.trim.natAbs
  if 32000000 ≤ a then (true, a - 32000000) else (false, a)

/-- By how much the next crystal edge advances TICK (R318). -/
def Dev.advance (d : Dev) : Nat := if d.trimStep.1 then (if 0 ≤ d.trim then 2 else 0) else 1

/-- The unit steps of FINE timers that `adv` TICK advances stand for while no port is active (R320), and the accumulator after them. -/
def Dev.fineSteps (d : Dev) (adv : Nat) : Nat × Nat := ((d.clep.fineAcc + adv * 15625) / 512, (d.clep.fineAcc + adv * 15625) % 512)

/-- Unit steps for the timers of one source (R320). -/
def Dev.stepTimers (d : Dev) (fine : Bool) (k : Nat) : Dev :=
  (List.range 16).foldl (fun d n => if d.on (TIM.CFG_SRC n) == fine then d.owe n k else d) d

/-- Whether the multiples of `k` ticks are crossed from `t` by `adv`. -/
def crosses (t adv k : Nat) : Bool := t / k != (t + adv) / k

/-- STAMP of the receivers that accepted since the latest edge (R306). -/
def Dev.rippleStamps (d : Dev) : Dev :=
  let d' := (List.range 2).foldl (fun x r => if d.well.stampDue.getLsbD r then x.wr (RIPPLE.STAMP_TICK r) x.tick32 else x) d
  { d' with well := { d'.well with stampDue := 0#2 } }

/-- TICK advances by `adv` in all three copies, and the fraction starts again (R317, R318). -/
def Dev.moveTick (d : Dev) (adv acc : Nat) : Dev :=
  let up (x : BitVec 48) : BitVec 48 := x + BitVec.ofNat 48 adv
  let k := d.clep
  { d with clep := { k with tickA := up k.tickA, tickB := up k.tickB, tickC := up k.tickC, frac := 0#10, swallowed := adv == 0, acc := acc } }

/-- A crystal edge (R318): what the previous edge left is carried out, TICK advances, timers are stepped, deadlines and stall limits are
reached, and the second, the ledger bucket and HEARTBEAT become due where their multiples are crossed. -/
def Dev.crystalEdge (d : Dev) : Dev :=
  let d := d.settleAll
  let t := d.tick
  let adv := d.advance
  let d := d.moveTick adv d.trimStep.2
  let d := d.stepTimers false adv
  let d := if d.anyActive then d
    else
      let (k, a) := d.fineSteps adv
      ({ d with clep := { d.clep with fineAcc := a } } : Dev).stepTimers true k
  let d := ((d.reachMons t adv).reachStalls.countSubsec adv).rippleStamps
  let d := if crosses t adv 1024 then d.measureSupply else d
  { d with clep := { d.clep with bucketDue := crosses t adv 1966080, heartDue := crosses t adv 2048 } }

/-- A pending S reset (R367), whose reply has left by the cable or the air, or a pending F reset (R352) is applied. -/
def applyPending (c : Cells) (d : Dev) : Cells × Dev :=
  if d.spout.held.any fun h => h.thenReset && h.phase == 4 && (h.src == 4 || (d.aq (h.src - 2)).tx.isNone) then resetDevice c d 4
  else applyF c d

/-- TICK_EDGE (R318): a crystal edge; a pending reset is applied first. -/
def execTickEdge (s : State) : Host.Outcome State Fault Refusal :=
  onBoth s fun c d => ((applyPending c d).1, (applyPending c d).2.crystalEdge)

/-- TRIM_CORRECTION (R318): the crystal edge that opens a corrected period. -/
def execTrimCorrection (s : State) : Host.Outcome State Fault Refusal :=
  onDev s fun d => if d.trimStep.1 then d.crystalEdge else d

/-- FINE_EDGE (R320): one unit step for every FINE timer while a port is active. -/
def execFineEdge (s : State) : Host.Outcome State Fault Refusal :=
  onBoth s fun c d =>
    let (c, d) := applyPending c d
    (c, if d.anyActive then d.stepTimers true 1 else d)

/-! ### The vote (R317) -/

/-- All three copies take a value. -/
def Dev.setTick (d : Dev) (v : BitVec 48) : Dev := { d with clep := { d.clep with tickA := v, tickB := v, tickC := v } }

/-- One copy is outvoted: CORRECTED, with the copy as INST. -/
def Dev.outvoted (d : Dev) (v : BitVec 48) (copy : Nat) : Dev :=
  let d := (d.setTick v).setF CLEP.EVENTS_VOTE
  d.fault (mkUnitFault 0x18 20 copy d.tick32 0)

/-- The middle of three numbers. -/
def median (a b c : Nat) : Nat := max (min a b) (min (max a b) c)

/-- TICK_VOTE (R317): the copies stand at `a`, `b` and `c` at an edge.  When all differ they take the median and a FATAL Clepsydra
self-check failure is latched. -/
def execTickVote (a b c : BitVec 48) (s : State) : Host.Outcome State Fault Refusal :=
  onDev s fun d =>
    if a == b && b == c then d
    else if a == b then d.outvoted a 2
    else if a == c then d.outvoted a 1
    else if b == c then d.outvoted b 0
    else (d.setTick (BitVec.ofNat 48 (median a.toNat b.toNat c.toNat))).fatal (mkUnitFault 0x20 20 0 20 0x10)

/-! ### Timers, monitors, calendar, measurement -/

/-- TIMER_WRAP (R321): the unit step of timer `n` that sets COUNT to 0 is carried out, and those after it. -/
def execTimerWrap (n : Fin 16) (s : State) : Host.Outcome State Fault Refusal :=
  onDev s fun d =>
    let t := d.timerDue n.val
    if t.owed != 0 && !t.matchDue && d.wrapsNext n.val then (d.takeStep n.val).runTimer n.val t.owed else d

/-- TIMER_MATCH (R322): the match of timer `n` is served, and the steps after it are carried out. -/
def execTimerMatch (n : Fin 16) (s : State) : Host.Outcome State Fault Refusal :=
  onDev s fun d => if (d.timerDue n.val).matchDue then (d.serveMatch n.val).runTimer n.val (d.timerDue n.val).owed else d

/-- CMP_WRITE (R323). -/
def execCmpWrite (n : Fin 16) (v : Word) (s : State) : Host.Outcome State Fault Refusal := onBus s 2 fun d => d.cmpWrite n.val v

/-- TIMER_ARM (R323). -/
def execTimerArm (n : Fin 16) (delta : Word) (s : State) : Host.Outcome State Fault Refusal := onBus s 2 fun d => d.timerArm n.val delta

/-- DMON_ARM (R324). -/
def execDmonArm (m : Master) (n : Fin 64) (deadline : Word) (s : State) : Host.Outcome State Fault Refusal :=
  onBus s 2 fun d => d.dmonWrite m n.val deadline

/-- DMON_DISARM (R24, R324): a write of DMON_DISARM_LO or, with `hi`, _HI. -/
def execDmonDisarm (hi : Bool) (mask : Word) (s : State) : Host.Outcome State Fault Refusal :=
  onBus s 2 fun d => d.dmonDisarm hi.toNat mask

/-- DEADLINE_EXPIRY (R23, R325): the expiry of monitor `m` at the latest edge is served. -/
def execDeadlineExpiry (m : Fin 64) (s : State) : Host.Outcome State Fault Refusal := onDev s fun d => d.settleMon m.val

/-- SECOND_BOUNDARY (R326, R329). -/
def execSecondBoundary (s : State) : Host.Outcome State Fault Refusal := onDev s Dev.settleSecond

/-- TIME_WRITE (R327). -/
def execTimeWrite (v : Word) (s : State) : Host.Outcome State Fault Refusal := onBus s 2 fun d => d.timeWrite v

/-- DATE_WRITE (R327). -/
def execDateWrite (v : Word) (s : State) : Host.Outcome State Fault Refusal := onBus s 2 fun d => d.dateWrite v

/-- WEEKDAY_WRITE (R327). -/
def execWeekdayWrite (v : Word) (s : State) : Host.Outcome State Fault Refusal := onBus s 2 fun d => d.weekdayWrite v

/-- SUBSEC_READ (R328): the read returns SUBSEC and captures TIME and DATE. -/
def execSubsecRead (s : State) : Host.Outcome State Fault Refusal :=
  onBus s 2 fun d => d.subsecRead.answer (d.subsecRead.reg CAL.SUBSEC_at)

/-- TICK_LO_READ (R319): the read returns TICK[31:0] and captures the rest. -/
def execTickLoRead (s : State) : Host.Outcome State Fault Refusal := onBus s 2 fun d => d.tickLoRead.answer (Word.ofNat d.tick32)

/-- MEAS_GO (R330). -/
def execMeasGo (s : State) : Host.Outcome State Fault Refusal := onBus s 2 Dev.measGo

/-- MAINS_EDGE (R330): a rising edge of MAINS_REF at fraction `f`. -/
def execMainsEdge (f : BitVec 10) (s : State) : Host.Outcome State Fault Refusal := onDev s fun d => (d.atFrac f).mainsEdge

/-- NET_MARK (R330): LOC_RX is written with `loc`, committing the mark whose NET_TX was written before. -/
def execNetMark (loc : Word) (s : State) : Host.Outcome State Fault Refusal := onBus s 2 fun d => d.netMark loc

/-- NOREF (R330). -/
def execNoref (s : State) : Host.Outcome State Fault Refusal := onDev s Dev.noRef

/-- APPROVE (R331). -/
def execApprove (s : State) : Host.Outcome State Fault Refusal := onBus s 2 Dev.approve

/-- TRIM_WRITE (R330). -/
def execTrimWrite (v : Word) (s : State) : Host.Outcome State Fault Refusal := onBus s 2 fun d => d.trimWrite v

end Sys2Proof.Machine
end

