-- ==== Sys2Proof/Machine/Sluice.lean ====
section
/-! DEFINITION. Sluice and the repair engine: the log, first reactions, live tests and rotations, REPAIR commands, FATAL faults and fault
injection (chapter 15), with the scrubber and the copies of chapter 12. -/

namespace Sys2Proof.Machine

/-! ### The log (R335) -/

/-- Frees the oldest held record. -/
def Dev.retireOldest (d : Dev) : Dev :=
  match oldestOf d.sluice.held with
  | none => d
  | some (i, r) =>
    { d with sluice := { d.sluice with log := Store.put none d.sluice.log i none, retired := Store.put none d.sluice.retired i (some r) } }

/-- A write of LOG_RETIRE frees that many oldest records (R335). -/
def Dev.logRetire (d : Dev) (count : Nat) : Dev :=
  ((List.range (min count d.sluice.held.length)).foldl (fun d _ => d.retireOldest) d).sluiceWake

/-- LOG_RETIRE. -/
def execLogRetire (count : BitVec 7) (s : State) : Host.Outcome State Fault Refusal := onBus s 3 fun d => d.logRetire count.toNat

/-! ### Self-checks (R338, R339, R174, R28) -/

/-- A check of core unit `u` of a kind fails under slot `s` (R338). -/
def Dev.coreCheckFail (d : Dev) (kind u s code : Nat) (retryFails copyFails : Bool) : Dev :=
  let pc := (d.slot s).pc
  if !retryFails then d.fault (mkUnitFault 0x11 kind u pc code)
  else
    d.fenceCore kind u 5 0 copyFails

/-- CORE_CHECK_FAIL (R338): the residue (0), register-file parity (1) or return-stack parity (2) check of a serving unit fails before an
instruction commits; the retry passes or fails, and the state to be copied then is good or not. -/
def execCoreCheckFail (bowl : Bool) (u : Fin 9) (check : Fin 3) (retryFails copyFails : Bool) (s : State) :
    Host.Outcome State Fault Refusal :=
  onDev s fun d =>
    let kind := if bowl then 3 else 2
    match (d.serving kind).filter (fun x => d.rd (assignFld x) == u.val) |>.head? with
    | none => d
    | some x =>
      if (d.pausedAs x).isSome then d
      else
      let fails := match d.sluice.injected kind u.val with
        | some i => i.typ == 4
        | none => retryFails
      d.coreCheckFail kind u.val x (check.val + 1) fails copyFails

/-- LANE_SELF_CHECK_FAIL (R339): the frame ends FAULT; a second failure within STRIKE hours fences the lane. -/
def execLaneSelfCheckFail (n : Fin 72) (s : State) : Host.Outcome State Fault Refusal :=
  onDev s fun d =>
    if !(d.lane n.val).state.running then d
    else
      let again := match Store.get none d.sluice.strikes n.val with
        | some t => decide (d.tick ≤ t + d.strikeTicks)
        | none => false
      let d := { d with sluice := { d.sluice with strikes := Store.put none d.sluice.strikes n.val (some d.tick) } }
      if again then d.fenceLane n.val 5 0 else (d.faultLane n.val).fault (mkUnitFault 0x11 1 n.val 0 4)

/-- CHISEL_CORE_FAILURE (R174, R339). -/
def execChiselCoreFailure (c : Fin 9) (s : State) : Host.Outcome State Fault Refusal :=
  onDev s fun d => if d.unitFenced 4 c.val then d else d.fenceChisel c.val 5 0

/-- AQ_PORT_FAULT (R220). -/
def execAqPortFault (p : Fin 2) (s : State) : Host.Outcome State Fault Refusal :=
  onDev s fun d => if d.unitFenced 10 p.val then d else d.fenceUnspared 10 p.val 5 0

/-- CONTINUOUS_SELF_CHECK_FAIL (R28): a non-spared unit of KIND 6 to 14 is fenced; an essential unit is a FATAL fault. -/
def execContinuousSelfCheckFail (kind : BitVec 5) (inst : BitVec 7) (s : State) : Host.Outcome State Fault Refusal :=
  onDev s fun d =>
    let k := kind.toNat
    let i := inst.toNat
    if 6 ≤ k && k ≤ 14 then (if i < unitCount k && !d.unitFenced k i then d.fenceUnspared k i 5 0 else d)
    else if 15 ≤ k && k ≤ 20 then
      let d := if k == 17 then d.weirFails.aqSilent else d
      d.fatal (mkUnitFault 0x20 k 0 k 0x15)
    else d

/-! ### Memory upkeep (R270, R273, R274) -/

/-- SCRUB (R270): one word of every logical bank is read and checked; the word's place follows TICK (log entry 8). -/
def execScrub (s : State) : Host.Outcome State Fault Refusal :=
  onDev s fun d =>
    if (2 ≤ d.power && d.power ≤ 4) || d.well.coreOff then d
    else (List.range 96).foldl (fun d b => (d.sramRead (0x10000 * b + 4 * (d.tick % 16384))).2) d

/-- Reads `n` words from `a`, which checks and corrects them. -/
def Dev.checkWords (d : Dev) (a n : Nat) : Dev := (List.range n).foldl (fun d i => (d.sramRead (a + 4 * i)).2) d

/-- The copy of row `row` of physical bank `bank` onto a spare row completes (R273, R340). -/
def Dev.rowCopyDone (d : Dev) (c : RowCopy) : Dev :=
  let d := match d.bankServed c.bank with
    | some l => d.checkWords (0x10000 * l + 0x100 * c.row) 64
    | none => d
  let d := d.modRepair fun r => { r with rowCopies := r.rowCopies.filter fun x => x != c }
  let a := rowRepairAddr c.bank
  let d := (d.setReg a (setBits (d.reg a) (16 * c.spare) 16 (0x8000 + c.row))).setF REPAIR.EVENTS_DIRTY
  d.fault (mkUnitFault 0x17 5 c.bank c.row c.spare)

/-- ROW_COPY_DONE. -/
def execRowCopyDone (bank : Fin 102) (row : BitVec 8) (s : State) : Host.Outcome State Fault Refusal :=
  onDev s fun d =>
    match (d.repair.rowCopies.filter fun c => c.bank == bank.val && c.row == row.toNat).head? with
    | some c => d.rowCopyDone c
    | none => d

/-- The bank copy completes (R274): the switch takes effect, and the bank that was left becomes the spare or is fenced; the next fence that
waited begins (R343). -/
def Dev.bankCopyDone (d : Dev) (c : BankCopy) : Dev :=
  let d := d.checkWords (0x10000 * c.logical) 16384
  let old := d.physBank c.logical
  let d := (d.setPhysBank c.logical c.target).inc REPAIR.ROTATIONS_COUNT
  let d := d.modRepair fun r => { r with bankCopy := none, rowCopies := r.rowCopies.filter fun x => x.bank != old }
  let d := d.repairIdle
  let d := if c.fenceOld then (d.markFence 5 old).fencedRecord 5 old c.target 3 c.agent c.agentNo
    else d.setGroupSpare (c.logical / 16) old
  let d := (if c.agent != 0 && d.rd REPAIR.CMD_STATUS_RESULT == 6 then d.wr REPAIR.CMD_STATUS_RESULT 0 else d).syncRepair
  match d.repair.bankQueue with
  | [] => d
  | q :: rest => (d.modRepair fun r => { r with bankQueue := rest }).retireBank q

/-- BANK_COPY_DONE. -/
def execBankCopyDone (s : State) : Host.Outcome State Fault Refusal :=
  onDev s fun d =>
    match d.repair.bankCopy with
    | some c => d.bankCopyDone c
    | none => d

/-! ### Live tests (R345 to R347) -/

/-- The spare that a schedule tests. -/
def Dev.schedSpare (d : Dev) (k : Nat) : Option Nat :=
  if 5 ≤ k then (if d.groupSpare (k - 5) == 255 then none else some (d.groupSpare (k - 5)))
  else if d.rd (spareFld k) == 15 then none else some (d.rd (spareFld k))

/-- The order number of a unit's latest test. -/
def Dev.tested (d : Dev) (kind inst : Nat) : Nat := Store.get 0 d.repair.lastTest (128 * kind + inst)

/-- The healthy lane least recently tested. -/
def Dev.nextLane (d : Dev) : Option Nat := minBy (fun n => d.tested 1 n) (laneNos.filter fun n => !d.unitFenced 1 n)

/-- Whether R66 lets Basin take lane `n` to TEST. -/
def Dev.laneTestable (d : Dev) (n : Nat) : Bool :=
  (d.lane n).state == .idle && laneNos.all (fun m => (d.lane m).state != .test) && d.activeMax + 2 ≤ d.serviceable

/-- Whether a step of a schedule is held (R347). -/
def Dev.stepHeld (d : Dev) (k : Nat) : Bool :=
  (2 ≤ d.power && d.power ≤ 4) || d.on CORES.PL_STATUS_BUSY || d.cores.spareHeld.contains k ||
    d.repair.rots.any (fun r => r.kind == k) || d.repair.coreQueue.any (fun q => q.kind == k) ||
    (if k == 1 then (match d.nextLane with
      | some n => !d.laneTestable n
      | none => true)
     else (d.schedSpare k).isNone)

/-- A schedule takes its step, or it is held (R346, R347). -/
def Dev.rotationStep (d : Dev) (k : Nat) : Dev :=
  if (Store.get none d.repair.tests k).isSome then d
  else if d.stepHeld k then
    ((d.modRepair fun r => { r with held := if r.held.contains k then r.held else r.held ++ [k] }).setF REPAIR.EVENTS_SKIPPED).wr
      REPAIR.STATUS_PAUSED 1
  else
    let d := d.modRepair fun r => { r with held := r.held.filter fun x => x != k }
    let d := d.wrB REPAIR.STATUS_PAUSED (!d.repair.held.isEmpty)
    if k == 1 then
      match d.nextLane with
      | some n => (d.modLane n fun l => { l with state := .test }).startTest 1 n false
      | none => d
    else match d.schedSpare k with
      | some u => d.startTest k u false
      | none => d

/-- ROTATION_STEP (R346): the step of schedule `k` + 1 falls due; a PERIOD of 0 stops the engine. -/
def execRotationStep (k : Fin 10) (s : State) : Host.Outcome State Fault Refusal :=
  onDev s fun d => if d.rd REPAIR.CFG_PERIOD == 0 then d else d.rotationStep (k.val + 1)

/-- The end of a test is counted and shown (R359). -/
def Dev.testCounted (d : Dev) (k inst : Nat) (pass : Bool) : Dev :=
  let kind := schedKind k
  let d := d.modRepair fun r =>
    { r with tests := Store.put none r.tests k none, testSeq := r.testSeq + 1,
             lastTest := Store.put 0 r.lastTest (128 * kind + inst) (r.testSeq + 1) }
  let d := (((d.wr REPAIR.LAST_TEST_KIND kind).wr REPAIR.LAST_TEST_INST inst).wrB REPAIR.LAST_TEST_PASS pass).wr REPAIR.LAST_TEST_TICK d.tick
  let d := d.inc REPAIR.TESTS_COUNT
  let d := if pass then d else (d.inc REPAIR.TESTFAILS_COUNT).setF REPAIR.EVENTS_TESTFAIL
  d.repairIdle

/-- A spare that failed its test is fenced with TEST_FAIL (R346). -/
def Dev.spareFails (d : Dev) (k inst : Nat) (step : Word) : Dev :=
  let d := (d.markFence (schedKind k) inst).fault (mkUnitFault 0x15 (schedKind k) inst step.toNat 0)
  (if 5 ≤ k then d.setGroupSpare (k - 5) 255 else d.setSpare k 15).syncRepair

/-- A spare that passed takes over from the unit least recently tested (R346). -/
def Dev.sparePasses (d : Dev) (k u : Nat) : Dev :=
  if 5 ≤ k then
    let ls := (List.range 16).map (fun i => 16 * (k - 5) + i) |>.filter fun l => !d.repair.bankOut.contains l
    match minBy (fun l => d.tested 5 (d.physBank l)) ls with
    | some l => d.startBankCopy ⟨l, u, false, 0, 0⟩
    | none => d
  else if k == 4 then
    match minBy (fun i => d.tested 4 (d.corePos i)) ((List.range 8).filter fun i => d.corePos i != 255) with
    | some i => (d.modRepair fun r => { r with chiselMove := some i }).settleChiselMove
    | none => d
  else match minBy (fun s => d.tested k (d.rd (assignFld s))) (d.serving k) with
    | some s => d.askCore ⟨k, some s, u, 0, 0, false⟩
    | none => d

/-- The contents of a bank that returns to service are not stated: free words (log entry 3). -/
def Dev.freeBank (d : Dev) (l : Nat) : Dev :=
  (List.range 16384).foldl (fun d i =>
    let (w, d) := d.drawWord
    let (t, d) := d.drawWord
    d.putWord (4 * (16384 * l + i)) ⟨w, Tag.ofCode t.toNat⟩) d

/-- A retested unit that passed is unfenced (R345): it serves what waits for a unit, or becomes the spare. -/
def Dev.unfence (d : Dev) (kind inst : Nat) : Dev :=
  let d := (d.clearMapBit (mapPlace kind inst).1 (mapPlace kind inst).2).setF REPAIR.EVENTS_RETURNED
  let d := match kind with
    | 1 => (d.setLane inst Lane.blank).toIdle inst
    | 4 =>
      match (List.range 8).filter (fun i => d.corePos i == 255) |>.head? with
      | some i => d.setCorePos i inst
      | none => d.setSpare 4 inst
    | 5 =>
      match (d.repair.bankOut.filter fun l => l / 16 == inst / 17).mergeSort.head? with
      | some l => ((d.modRepair fun r => { r with bankOut := r.bankOut.filter fun x => x != l }).setPhysBank l inst).freeBank l
      | none => d.setGroupSpare (inst / 17) inst
    | _ =>
      match (slotsOf kind).filter (fun s => d.rd (assignFld s) == 15) |>.head? with
      | some s => (d.wr (assignFld s) inst).coreResetSlot s
      | none => d.setSpare kind inst
  d.syncRepair

/-- A live test of schedule `k` ends. -/
def Dev.testDone (d : Dev) (k : Nat) (t : TestRun) (pass : Bool) (step : Word) : Dev :=
  let kind := schedKind k
  let d := d.testCounted k t.inst pass
  if t.retest then
    if pass then (d.unfence kind t.inst).wr REPAIR.CMD_STATUS_RESULT 0 else d.wr REPAIR.CMD_STATUS_RESULT 5
  else if kind == 1 then
    if pass then d.toIdle t.inst
    else
      let d := (d.markFence 1 t.inst).fault (mkUnitFault 0x15 1 t.inst step.toNat 0)
      (d.setLane t.inst { Lane.blank with state := .fenced }).syncRepair
  else if pass then (if 5 ≤ k && d.repair.bankCopy.isSome then d else d.sparePasses k t.inst)
  else d.spareFails k t.inst step

/-- LIVE_TEST_DONE (R345, R346): the test of schedule `k` + 1 ends at test step `step`. -/
def execLiveTestDone (k : Fin 10) (pass : Bool) (step : Word) (s : State) : Host.Outcome State Fault Refusal :=
  onDev s fun d =>
    match Store.get none d.repair.tests (k.val + 1) with
    | some t => d.testDone (k.val + 1) t pass step
    | none => d

/-- LANE_TEST_END (R66, R346): the test of lane `n` ends. -/
def execLaneTestEnd (n : Fin 72) (pass : Bool) (s : State) : Host.Outcome State Fault Refusal :=
  onDev s fun d =>
    match Store.get none d.repair.tests 1 with
    | some t => if t.inst == n.val then (d.testDone 1 t pass 0#32).acquirePins else d
    | none => d

/-! ### REPAIR.CMD (R349) -/

/-- TEST_NOW. -/
def Dev.testNow (d : Dev) (kind inst : Nat) : Dev :=
  let k := schedOf kind inst
  if kind == 0 || 6 ≤ kind || (kind == 5 && 102 ≤ inst) then d.wr REPAIR.CMD_STATUS_RESULT 3
  else if (Store.get none d.repair.tests k).isSome || (kind == 5 && d.repair.bankCopy.isSome) || d.rotating kind then
    d.wr REPAIR.CMD_STATUS_RESULT 1
  else (d.rotationStep k).wr REPAIR.CMD_STATUS_RESULT 0

/-- FENCE, naming the master that wrote it. -/
def Dev.fenceCmd (d : Dev) (m : Master) (kind inst : Nat) : Dev :=
  if 15 ≤ kind && kind ≤ 20 then d.wr REPAIR.CMD_STATUS_RESULT 2
  else if kind == 14 || unitCount kind ≤ inst then d.wr REPAIR.CMD_STATUS_RESULT 3
  else if d.unitFenced kind inst then d.wr REPAIR.CMD_STATUS_RESULT 0
  else
    let waits := kind == 5 && (d.bankServed inst).isSome && (d.repair.bankCopy.isSome || d.groupSpare (inst / 17) != 255)
    let d := d.fenceUnit kind inst m.agent m.agentNo
    let moves := (kind == 2 || kind == 3) && (d.rotating kind || d.repair.coreQueue.any fun q => q.kind == kind && q.unit == inst)
    d.wr REPAIR.CMD_STATUS_RESULT (if waits || moves then 6 else 0)

/-- RETEST; of a core kind it waits for the loader (R244). -/
def Dev.retest (d : Dev) (kind inst : Nat) : Dev :=
  if kind == 0 || 6 ≤ kind || unitCount kind ≤ inst then d.wr REPAIR.CMD_STATUS_RESULT 3
  else if !d.unitFenced kind inst then d.wr REPAIR.CMD_STATUS_RESULT 4
  else if (Store.get none d.repair.tests (schedOf kind inst)).isSome then d.wr REPAIR.CMD_STATUS_RESULT 1
  else if (kind == 2 || kind == 3) && d.on CORES.PL_STATUS_BUSY then
    (d.modRepair fun r => { r with retests := r.retests ++ [(kind, inst)] }).wr REPAIR.CMD_STATUS_RESULT 6
  else (d.startTest (schedOf kind inst) inst true).wr REPAIR.CMD_STATUS_RESULT 6

/-- A write of REPAIR.CMD (R349); OP 0 and 4 to 7 have no effect. -/
def Dev.repairCmd (d : Dev) (m : Master) (v : Word) : Dev :=
  let kind := bitsOf v 3 5
  let inst := bitsOf v 8 7
  match bitsOf v 0 3 with
  | 1 => d.testNow kind inst
  | 2 => d.fenceCmd m kind inst
  | 3 => d.retest kind inst
  | _ => d

/-- TEST_NOW (R349). -/
def execTestNow (kind : BitVec 5) (inst : BitVec 7) (s : State) : Host.Outcome State Fault Refusal :=
  onBus s 4 fun d => d.testNow kind.toNat inst.toNat

/-- FENCE (R349). -/
def execFence (m : Master) (kind : BitVec 5) (inst : BitVec 7) (s : State) : Host.Outcome State Fault Refusal :=
  onBus s 4 fun d => d.fenceCmd m kind.toNat inst.toNat

/-- RETEST (R345, R349). -/
def execRetest (kind : BitVec 5) (inst : BitVec 7) (s : State) : Host.Outcome State Fault Refusal :=
  onBus s 4 fun d => d.retest kind.toNat inst.toNat

/-! ### FATAL faults (R352 to R354) -/

/-- Whether a FATAL fault is the failed start-up self-check of the unit that the FATAL record names (R353). -/
def Dev.startUpFails (d : Dev) (kind check : Nat) : Bool :=
  check == 0x14 && d.on SLUICE.STATUS_FATAL && d.rd SLUICE.FATAL_INFO_KIND == kind && d.rd CORES.BOOT_STATE == 0 && !d.sluice.fPending

/-- FATAL_FAULT (R352, R353): an essential unit's failure (KIND 15 to 20, check code of R415) is latched, unless one waits already, and the
F reset is applied, or the reset `cut` that arrives before it, which withdraws it. -/
def fatalFault (kind check : Nat) (cut : Option ResetKind) (c : Cells) (d : Dev) : Cells × Dev :=
  if d.on SLUICE.STATUS_STOPPED then (c, d)
  else if d.startUpFails kind check then enterStopped c (d.fatal (mkUnitFault 0x20 kind 0 kind check))
  else
    let d := if d.sluice.fPending || kind < 15 || 20 < kind then d else d.fatal (mkUnitFault 0x20 kind 0 kind check)
    if !d.sluice.fPending then (c, d)
    else match cut with
      | none => applyF c d
      | some .brownOut => brownOut c d
      | some .pin => resetDevice c d 3
      | some .spout => resetDevice c d 4

/-- FATAL_FAULT. -/
def execFatalFault (kind : BitVec 5) (check : BitVec 8) (cut : Option ResetKind) (s : State) : Host.Outcome State Fault Refusal :=
  onBoth s (fatalFault kind.toNat check.toNat cut)

/-- F_RESET_AGES_OUT (R353): F resets whose TICK has left the window no longer count. -/
def execFResetAgesOut (s : State) : Host.Outcome State Fault Refusal :=
  onDev s fun d => { d with sluice := { d.sluice with fResets := d.fCounted } }

/-- FATAL_ACK (R354). -/
def execFatalAck (s : State) : Host.Outcome State Fault Refusal := onBus s 3 fun d => d.wr SLUICE.STATUS_FATAL 0

/-! ### Fault injection (R357) -/

/-- A write of INJ_CTRL: ignored outside factory mode; TYPE 1 and 2 act at once on the SRAM word at INJ_ADDR, the others wait. -/
def Dev.injWrite (d : Dev) (v : Word) : Dev :=
  if !d.on SLUICE.STATUS_FACTORY then d
  else
    let t := bitsOf v 0 3
    let a := d.rd SLUICE.INJ_ADDR_ADDR / 4 * 4
    let d := d.setReg SLUICE.INJ_CTRL_at (v &&& fieldMask SLUICE.INJ_CTRL_at)
    let arm (d : Dev) (i : Inj) : Dev := { d with sluice := { d.sluice with injections := d.sluice.injections ++ [i] } }
    if t == 1 || t == 2 then
      if isSram a then arm (d.upset a (if t == 1 then 1#43 else 3#43)) ⟨t, 5, a⟩ else d
    else if 3 ≤ t && t ≤ 5 then arm d ⟨t, bitsOf v 3 5, bitsOf v 8 7⟩
    else d

/-- INJ_CTRL_WRITE. -/
def execInjCtrlWrite (v : Word) (s : State) : Host.Outcome State Fault Refusal := onBus s 3 fun d => d.injWrite v

end Sys2Proof.Machine
end

