-- ==== Sys2Proof/Machine/AmOps.lean ====
section
/-! DEFINITION. Amelaog: receiving images, activation and fallback (chapter 17). -/

namespace Sys2Proof.Machine

/-! ### Outcomes and notices (R384) -/

/-- Writes a notice: NOTE, TYPE, result code and chunk index. -/
def Dev.amNotice (d : Dev) (note typ code index : Nat) : Dev :=
  if d.on SYS.AM_CFG_NOTE_EN then
    d.flumeWrite (d.rd SYS.AM_CFG_NOTE_FLUME) (group
      [⟨Word.ofNat (note * 2 ^ 28 + typ % 16 * 2 ^ 24 + code % 64 * 2 ^ 16 + index % 1024), .nat⟩])
  else d

/-- An outcome is recorded in AM_RESULT, and a notice written. -/
def Dev.amOutcome (d : Dev) (note typ code index : Nat) : Dev :=
  (((d.wr SYS.AM_RESULT_CODE code).wr SYS.AM_RESULT_INDEX index).setF SYS.AM_EVENTS_DONE).amNotice note typ code index

/-- An outcome of a set of types: what TYPE its notice gives the spec does not state (log entry 3). -/
def Dev.amSetOutcome (d : Dev) (code : Nat) : Dev :=
  let (w, d) := d.drawWord
  d.amOutcome 4 (w.toNat % 16) code 0

/-- AM_STATUS.STATE. -/
def Dev.amState (d : Dev) : Nat := d.rd SYS.AM_STATUS_STATE

/-- Changes Amelaog's internal state. -/
def Dev.modAm (d : Dev) (f : Am → Am) : Dev := { d with am := f d.am }

/-! ### The engine's Cistern operations (R384, R386 to R388) -/

/-- Whether the engine can issue a Cistern command now; a fenced Cistern takes none (R28, log entry 22). -/
def Dev.cistFree (d : Dev) : Bool := d.cist.op.isNone && !d.on CIST.STATUS_AUTO && !d.cistFenced

/-- The engine erases block `b`. -/
def Dev.engErase (d : Dev) (b : Nat) : Dev :=
  let d := d.modCist fun c => ((c.journalWrite 1 b d.tick32).journalWrite 2 b d.tick32)
  let d := (d.unbuffer b).modCist fun c => { c with lines := eraseLines b c.lines, incomplete := c.incomplete.filter fun x => x != b }
  ((d.wr CIST.OPADDR_ADDR (0x08000000 + 0x10000 * b)).setF CIST.EVENTS_DONE).cistReport 2 0 b

/-- The engine programs the line at array address `a`, if it is ERASED; its verify passes or leaves it TORN.  A fenced Cistern takes no
command (R28, log entry 22). -/
def Dev.engProgram (d : Dev) (a : Nat) (line : BitVec 256) (pass : Bool) : Dev :=
  let n := cistLineNo a
  if d.cistFenced then d
  else
  let d := if (d.cistLine n).isSome then d
    else (d.unbuffer (cistBlock a)).modCist fun c => { c with lines := Store.put (shippedLine n) c.lines n (some ⟨line, 0#256, !pass⟩) }
  let d := (d.wr CIST.OPADDR_ADDR a).setF CIST.EVENTS_DONE
  if pass then d.cistReport 1 0 (cistBlock a)
  else ((d.fault (mkUnitFault 0x10 14 0 a 0)).cistErr 9 1).cistReport 1 9 (cistBlock a)

/-- The line of up to eight words; further words all ones. -/
def markLine (ws : List Word) : BitVec 256 := lineOf ((List.range 8).map fun i => ws.getD i 0xFFFFFFFF#32)

/-! ### Headers (R382, R385) -/

/-- An image header as 64 words. -/
abbrev Hdr := List Word

/-- Word `i` of a header. -/
def Hdr.w (h : Hdr) (i : Nat) : Word := h.getD i 0#32

/-- The octets of a header. -/
def Hdr.octets (h : Hdr) : List Nat := (h.flatMap octetsOf).map BitVec.toNat

/-- TYPE. -/
def Hdr.type (h : Hdr) : Nat := bitsOf (h.w 1) 8 8

/-- LENGTH. -/
def Hdr.length (h : Hdr) : Nat := (h.w 13).toNat

/-- The number of chunks (R383). -/
def Hdr.chunks (h : Hdr) : Nat := (h.length + 511) / 512

/-- KEYIDX. -/
def Hdr.key (h : Hdr) : Nat := bitsOf (h.w 14) 16 16

/-- BUILD. -/
def Hdr.build (h : Hdr) : Word × Word := (h.w 18, h.w 19)

/-- The REQUIRES entries in use: type and interface. -/
def requires (w : Nat → Word) : List (Nat × Word) :=
  (List.range 4).filterMap fun i => if bitsOf (w (5 + 2 * i)) 0 8 == 0 then none else some (bitsOf (w (5 + 2 * i)) 0 8, w (6 + 2 * i))

/-- Whether RESUME obeys R391 for a type. -/
def resumeOk (t : Nat) (w : Word) : Bool :=
  if t == 1 then decide (bitsOf w 0 16 < 0x4000) else if t == 2 || t == 4 then true else bitsOf w 0 16 == 0

/-- Check 8 of R385: LAYOUT fails. -/
def Hdr.badLayout (h : Hdr) : Bool :=
  bitsOf (h.w 1) 16 16 != 0 || (List.range 4).any (fun i => bitsOf (h.w (5 + 2 * i)) 8 24 != 0)
    || bitsOf (h.w 16) 16 16 != 0 || h.w 17 != 0#32 || (List.range 36).any (fun i => h.w (20 + i) != 0#32)
    || bitsOf (h.w 14) 0 16 != 512 || h.length == 0 || imageMax h.type < h.length || 1023 < h.key
    || (requires h.w).any (fun r => 6 < r.1 || r.1 == h.type) || !resumeOk h.type (h.w 16)

/-- The 16-octet CBC-MAC of R158 over octets under key-table entry `key`. -/
def Dev.mac16 (d : Dev) (key : Nat) (octets : List Nat) : List Nat :=
  cbcMac (d.keyEntry key).octets (blocksOf (octets.length / 16 + 1) octets) zeroBlock

/-- Whether `n` octets at `a` are word-aligned and lie in SRAM. -/
def inSram (a n : Nat) : Bool := a % 4 == 0 && decide (a + n ≤ 0x600000)

/-- The first failing check of 1 to 9 (R385), with the header read. -/
def Dev.headerChecks (d : Dev) (a : Nat) : Option Nat × Hdr × Dev :=
  if d.amState != 0 then (some 0x01, [], d)
  else if !d.on (CHISEL.QCFG_EN (d.rd SYS.AM_CFG_QUEUE)) || d.rd SYS.AM_WORK_ADDR % 64 != 0 || !inSram (d.rd SYS.AM_WORK_ADDR) 8256 then
    (some 0x02, [], d)
  else if !inSram a 256 then (some 0x03, [], d)
  else
    let (ws, d) := d.sramReads a 64
    let h : Hdr := ws.map TWord.data
    let step := d.rd SYS.ID_STEP
    let code :=
      if ws.any fun w => w.tag.bad then some 0x03
      else if h.w 0 != 0x49505548#32 then some 0x04
      else if bitsOf (h.w 1) 0 8 != 1 then some 0x05
      else if h.type == 0 || 6 < h.type then some 0x06
      else if bitsOf (h.w 2) 0 16 != 0x7740 || step < bitsOf (h.w 2) 16 8 || bitsOf (h.w 2) 24 8 < step then some 0x07
      else if h.badLayout then some 0x08
      else if !(d.keyEntry h.key).valid then some 0x09
      else none
    (code, h, d)

/-- A header is refused (R385). -/
def Dev.refuseHeader (d : Dev) (typ code : Nat) : Dev :=
  ((d.wr SYS.AM_STATUS_STATE 0).setF SYS.AM_EVENTS_REFUSED).amOutcome 1 typ code 0

/-- The TYPE octet of a header in SRAM, for the notice of a refusal; 0 where there is none to read. -/
def Dev.peekType (d : Dev) (a : Nat) : Nat := if inSram a 256 then bitsOf (d.word (a + 4)).data 8 4 else 0

/-- A write of SYS.AM_HEADER (R385): checks 1 to 9; a header that passes waits for its HDRMAC job. -/
def Dev.amHeader (d : Dev) (a : Nat) : Dev :=
  match d.headerChecks a with
  | (some 0x01, _, d) => ((d.setF SYS.AM_EVENTS_REFUSED).amOutcome 1 (d.peekType a) 0x01 0)
  | (some e, _, d) => d.refuseHeader (d.peekType a) e
  | (none, h, d) => (d.modAm fun m => { m with hdr := h, jobTick := d.tick }).wr SYS.AM_STATUS_STATE 1

/-! ### Compatibility (R390) -/

/-- Whether PROVIDES `p` meets requirement `r`. -/
def meets (p r : Word) : Bool := bitsOf p 16 16 == bitsOf r 16 16 && decide (bitsOf r 0 16 ≤ bitsOf p 0 16)

/-- Check 13 of R385: whether every REQUIRES entry is met by an image in force or a waiting one. -/
def Dev.hdrCompatible (d : Dev) (h : Hdr) : Bool :=
  (requires h.w).all fun (t, r) =>
    (d.inforce t != 3 && meets (d.imageProvides t (d.inforce t)) r) || [0, 1].any fun k => d.imageFresh t k && meets (d.imageProvides t k) r

/-- Checks 10 to 13 of R385. -/
def Dev.headerChecks2 (d : Dev) (h : Hdr) : Option Nat :=
  let t := h.type
  if d.mac16 h.key (h.octets.take 240) != h.octets.drop 240 then some 0x0A
  else if [0, 1].any fun k => d.imageValid t k && !d.imageRevoked t k && (d.imageHdr t k 18, d.imageHdr t k 19) == h.build then some 0x0B
  else if d.inforce t != 3 && (h.w 3).toNat ≤ (d.imageVersion t (d.inforce t)).toNat then some 0x0C
  else if !d.hdrCompatible h then some 0x0D
  else none

/-- The target slot of a reception (R386). -/
def Dev.targetSlot (d : Dev) (t : Nat) : Nat :=
  let pick (p : Nat → Bool) : Option Nat := if p 0 == p 1 then none else some (if p 0 then 0 else 1)
  if d.inforce t == 0 then 1 else if d.inforce t == 1 then 0
  else match pick (fun k => !d.imageValid t k) with
    | some k => k
    | none => match pick (fun k => d.imageRevoked t k) with
      | some k => k
      | none => match pick (fun k => d.imageConfirmed t k) with
        | some k => k
        | none => if d.imageConfirmed t 0 && d.imageSeq t 1 < d.imageSeq t 0 then 1 else 0

/-- The engine's workspace holds words of its own choosing (R384). -/
def Dev.fillWork (d : Dev) : Dev := d.writeFree (d.rd SYS.AM_WORK_ADDR) 2064

/-- A header whose HDRMAC result arrives is refused, or its target slot is chosen and erasing begins (R385, R386). -/
def Dev.headerDone (d : Dev) : Dev :=
  let h : Hdr := d.am.hdr
  match d.headerChecks2 h with
  | some e => d.refuseHeader h.type e
  | none =>
    let k := d.targetSlot h.type
    (((d.modAm fun m => { m with slot := k, stored := [], chunk := none }).wr SYS.AM_STATUS_STATE 2).wr SYS.AM_STATUS_CIST_OWN 1).wr
      SYS.AM_STATUS_TYPE h.type

/-- The target slot is erased, the header programmed and reception opened (R386); what code the notice of an accepted header carries the
spec does not state (log entry 3). -/
def Dev.openReception (d : Dev) : Dev :=
  let h : Hdr := d.am.hdr
  let t := h.type
  let d := (List.range (imageBlocks t).2).foldl (fun d i => d.engErase (regionBlock t d.am.slot + i)) d
  let d := (List.range 8).foldl (fun d i => d.engProgram (regionAt t d.am.slot + 32 * i) (lineOf ((h.drop (8 * i)).take 8)) true) d
  let d := (d.fillWork.syncWaiting.wr SYS.AM_STATUS_STATE 3).wr SYS.AM_STATUS_CIST_OWN 0
  let d := (d.wr SYS.AM_PROGRESS_STORED 0).wr SYS.AM_PROGRESS_MISSING 0
  let (w, d) := d.drawWord
  d.amOutcome 1 t (w.toNat % 64) 0

/-- RECEPTION_OPEN. -/
def execReceptionOpen (s : State) : Host.Outcome State Fault Refusal :=
  onDev s fun d =>
    if d.amState == 1 then d.headerDone
    else if d.amState == 2 && d.cistFree then d.openReception
    else d

/-- AM_HEADER. -/
def execAmHeader (a : Word) (s : State) : Host.Outcome State Fault Refusal := onBus s 0 fun d => d.amHeader a.toNat

/-! ### Chunks (R387, R388) -/

/-- A write of SYS.AM_CHUNK (R387): the rows that need no MAC; otherwise the unit waits for its MAC job. -/
def Dev.amChunk (d : Dev) (a : Nat) : Dev :=
  let h : Hdr := d.am.hdr
  let t := h.type
  if d.amState != 3 then d.amOutcome 2 0 0x11 0
  else if d.am.chunk.isSome then d.amOutcome 2 t 0x01 0
  else if !inSram a 32 then d.amOutcome 2 t 0x12 0
  else
    let (ws, d) := d.sramReads a 8
    let i := (ws.getD 4 voidWord).data.toNat
    let len := if i < h.chunks then min 512 (h.length - 512 * i) else 0
    if (ws.any fun w => w.tag.bad) || !inSram a (32 + len) then d.amOutcome 2 t 0x12 i
    else
      let (cs, d) := d.sramReads (a + 32) ((len + 3) / 4)
      if cs.any fun w => w.tag.bad then d.amOutcome 2 t 0x12 i
      else if h.chunks ≤ i then d.amOutcome 2 t 0x13 i
      else if (Store.get none d.am.stored i).isSome then d.amOutcome 2 t 0x14 i
      else if ((ws.getD 5 voidWord).data, (ws.getD 6 voidWord).data) != h.build then d.amOutcome 2 t 0x15 i
      else
        let o (l : List TWord) : List Nat := (l.flatMap fun w => octetsOf w.data).map BitVec.toNat
        d.modAm fun m => { m with chunk := some ⟨i, o (ws.take 4), (o (ws.drop 4) ++ o cs).take (16 + len)⟩, jobTick := d.tick }

/-- AM_CHUNK. -/
def execAmChunk (a : Word) (s : State) : Host.Outcome State Fault Refusal := onBus s 0 fun d => d.amChunk a.toNat

/-- Words of up to 32 octets; what completes a short line the spec does not state (log entry 3). -/
def Dev.chunkLine (d : Dev) (o : List Nat) : BitVec 256 × Dev :=
  let (pad, d) := (List.range 8).foldl (fun (l, d) _ =>
      let (w, d) := d.drawWord
      (l ++ (octetsOf w).map BitVec.toNat, d)) (([] : List Nat), d)
  let full := if 32 ≤ o.length then o else o ++ pad.drop o.length
  (lineOf ((List.range 8).map fun i => wordOfOctets (((full.drop (4 * i)).take 4).map fun x => BitVec.ofNat 8 x)), d)

/-- A chunk's lines are programmed in order, up to one whose verify fails. -/
def Dev.programChunk (d : Dev) (a : Nat) (bad : Option Nat) : Nat → List Nat → Dev
  | 0, _ => d
  | _, [] => d
  | fuel + 1, o =>
    let (line, d) := d.chunkLine (o.take 32)
    let fails := bad == some (16 - (fuel + 1))
    let d := d.engProgram a line (!fails)
    if fails then d else d.programChunk (a + 32) bad fuel (o.drop 32)

/-- The lowest chunk not stored, of those from `i`, `n` at most. -/
def Dev.missingFrom (d : Dev) : Nat → Nat → Nat
  | 0, i => i
  | n + 1, i => if (Store.get none d.am.stored i).isSome then d.missingFrom n (i + 1) else i

/-- A reception ends, complete or refused. -/
def Dev.closeReception (d : Dev) (code index : Nat) : Dev :=
  let t := (Hdr.type d.am.hdr)
  let d := ((d.modAm fun _ => Am.reset).wr SYS.AM_STATUS_STATE 0).syncWaiting
  let d := if code == 0x18 then d else d.setF SYS.AM_EVENTS_REFUSED
  d.amOutcome 3 t code index

/-- All chunks are stored (R388): BODYMAC is checked and the STORED line programmed. -/
def Dev.checkBody (d : Dev) : Dev :=
  let h : Hdr := d.am.hdr
  let t := h.type
  let k := d.am.slot
  let macs := (List.range h.chunks).flatMap fun i => (Store.get none d.am.stored i).getD []
  if d.mac16 h.key macs != (h.octets.drop 224).take 16 then d.closeReception 0x19 0
  else
    let octets := ((List.range (64 + (h.length + 3) / 4)).flatMap fun i => octetsOf (d.imageHdr t k i)).take (256 + h.length)
    let d := d.engProgram (regionEnd t k - 96) (markLine [1#32, Word.ofNat (crc32 octets), Word.ofNat h.length]) true
    d.closeReception 0x18 0

/-- A chunk's MAC result arrives (R387): refused, or programmed and noticed; the last chunk completes the image. -/
def Dev.chunkDone (d : Dev) (x : AmChunk) (bad : Option Nat) : Dev :=
  let h : Hdr := d.am.hdr
  let t := h.type
  let d := d.modAm fun m => { m with chunk := none }
  if d.mac16 h.key x.body != x.mac then d.amOutcome 2 t 0x16 x.index
  else
    let o := x.body.drop 16
    let fails := match bad with
      | some b => decide (b < (o.length + 31) / 32)
      | none => false
    let d := d.programChunk (regionAt t d.am.slot + 256 + 512 * x.index) bad 16 o
    if fails then d.closeReception 0x17 x.index
    else
      let d := (d.modAm fun m => { m with stored := Store.put none m.stored x.index (some x.mac) }).fillWork
      let d := (d.inc SYS.AM_PROGRESS_STORED).wr SYS.AM_PROGRESS_MISSING (d.missingFrom h.chunks 0)
      let d := d.amOutcome 2 t 0x10 x.index
      if d.missingFrom h.chunks 0 == h.chunks then d.checkBody else d

/-- CHUNK_STORED (R387, R388): the chunk in progress is verified and programmed; `bad` is a line of it whose program fails its verify. -/
def execChunkStored (bad : Option (Fin 16)) (s : State) : Host.Outcome State Fault Refusal :=
  onDev s fun d =>
    match d.am.chunk with
    | some x => if d.amState == 3 && d.cistFree then d.chunkDone x (bad.map Fin.val) else d
    | none => d

/-- CHISEL_RESULT_TIMEOUT (R384): the result of the job in progress is lost in a gap marker, or has not arrived within 32,768 ticks. -/
def execChiselResultTimeout (lost : Bool) (s : State) : Host.Outcome State Fault Refusal :=
  onDev s fun d =>
    if !lost && d.tick < d.am.jobTick + 32768 then d
    else if d.amState == 1 then d.refuseHeader (Hdr.type d.am.hdr) 0x0E
    else match d.am.chunk with
      | some x => (d.modAm fun m => { m with chunk := none }).amOutcome 2 (Hdr.type d.am.hdr) 0x0E x.index
      | none => d

/-! ### Activation (R390 to R393) -/

/-- The types of AM_STATUS.SET. -/
def Dev.amSet (d : Dev) : List Nat := imageTypes.filter fun t => (d.rd SYS.AM_STATUS_SET).testBit (t - 1)

/-- The conversion group of a type: 1 Spindle, 2 Bowl, 3 lanes, 5 and 6 the data types. -/
def groupOf (t : Nat) : Nat := if t == 4 then 2 else t

/-- The slot of a type's waiting image. -/
def Dev.waitingSlot (d : Dev) (t : Nat) : Option Nat :=
  ([0, 1].filter fun k => k != d.inforce t && d.imageFresh t k && resumeOk t (d.imageHdr t k 16)).head?

/-- The slot that would be in force for a type after activating `set`. -/
def Dev.afterSlot (d : Dev) (set : List Nat) (t : Nat) : Nat := if set.contains t then (d.waitingSlot t).getD 3 else d.inforce t

/-- The requirements of the image of a type that would be in force. -/
def Dev.afterReqs (d : Dev) (set : List Nat) (t : Nat) : List (Nat × Word) :=
  if d.afterSlot set t == 3 then [] else requires fun i => d.imageHdr t (d.afterSlot set t) i

/-- Whether the state after activating `set` is compatible (R390). -/
def Dev.setCompatible (d : Dev) (set : List Nat) : Bool :=
  imageTypes.all fun t => (d.afterReqs set t).all fun (u, r) =>
    d.afterSlot set u != 3 && meets (d.imageProvides u (d.afterSlot set u)) r

/-- The order of a set, providers first: at each turn the lowest member whose requirements among those left (as `dep` names them) are none;
`none` if the requirements form a cycle. -/
def orderSet (dep : Nat → Nat → Bool) : Nat → List Nat → Option (List Nat)
  | _, [] => some []
  | 0, _ => none
  | fuel + 1, l =>
    match (l.filter fun x => l.all fun y => x == y || !dep x y).head? with
    | none => none
    | some x => (orderSet dep fuel (l.filter fun y => y != x)).map fun r => x :: r

/-- Whether type `t` requires type `u` after activating `set`. -/
def Dev.typeDep (d : Dev) (set : List Nat) (t u : Nat) : Bool := (d.afterReqs set t).any fun r => r.1 == u

/-- The groups of a set, providers before consumers; where groups require one another though their types do not, in number order. -/
def Dev.groupOrder (d : Dev) (set : List Nat) : List Nat :=
  let groups := [1, 2, 3, 5, 6].filter fun g => set.any fun t => groupOf t == g
  let dep (g h : Nat) : Bool := set.any fun t => groupOf t == g && set.any fun u => groupOf u == h && d.typeDep set t u
  (orderSet dep 6 groups).getD groups

/-- The kinds whose spare a set holds (2 Spindle, 3 Bowl). -/
def setKinds (set : List Nat) : List Nat := [2, 3].filter fun k => set.any fun t => groupOf t + 1 == k && t != 3

/-- Why an activation is refused (R391). -/
def Dev.activationRefusal (d : Dev) (set : List Nat) : Option Nat :=
  if d.amState != 0 then some 0x24
  else if set.any fun t => (d.waitingSlot t).isNone then some 0x21
  else if !d.setCompatible set || (orderSet (d.typeDep set) 6 set).isNone then some 0x22
  else if (setKinds set).any fun k => d.rd (spareFld k) == 15 then some 0x23
  else none

/-- The new slot of a type of the set, or the one in force. -/
def Dev.newSlot (d : Dev) (t : Nat) : Nat := Store.get (d.inforce t) d.am.new t

/-- The slot that was in force for a type of the set. -/
def Dev.oldSlot (d : Dev) (t : Nat) : Nat := Store.get (d.inforce t) d.am.old t

/-- Whether lane `n` still has to be converted. -/
def Dev.laneLeft (d : Dev) (n : Nat) : Bool := (d.lane n).state != .fenced && !(d.lane n).converted

/-- The trial begins (R393): 32,768 ticks for each second of the smallest TRIAL of the set, 0 meaning 600. -/
def Dev.startTrial (d : Dev) : Dev :=
  let secs (t : Nat) : Nat :=
    let v := (d.imageHdr t (d.newSlot t) 15).toNat
    if v == 0 then 600 else v
  let m := (d.amSet.map secs).foldl min (2 ^ 32)
  (d.setReg SYS.AM_TRIAL_END_at (Word.ofNat (d.tick + 32768 * m))).wr SYS.AM_STATUS_STATE 5

/-- The spare of a kind (0 Spindle, 1 Bowl) takes the images of slots `kp` and `ku`. -/
def Dev.loadSpare (d : Dev) (kind kp ku : Nat) : Dev :=
  if d.rd (spareFld (kind + 2)) == 15 then d else d.loadUnit kind (d.spareKey kind) kp ku

/-- What follows of an activation without waiting: data images change at once; a finished kind is shown; after the last the trial begins. -/
def Dev.amAdvance : Nat → Dev → Dev
  | 0, d => d
  | fuel + 1, d =>
    match d.am.order with
    | [] => d.startTrial
    | g :: rest =>
      let d := if d.am.undo.head?.map Prod.fst == some g then d
        else
          let d := d.modAm fun m => { m with undo := (g, []) :: m.undo, since := d.tick }
          if g == 3 then (List.range 72).foldl (fun d n => d.modLane n fun l => { l with converted := false }) d else d
      let done := ((d.am.undo.head?.map Prod.snd).getD [])
      let next (d : Dev) : Dev := (d.modAm fun m => { m with order := rest }).syncWaiting.amAdvance fuel
      if 5 ≤ g then next (d.setInforce g (d.newSlot g))
      else if g == 3 then
        if laneNos.any fun n => d.laneLeft n then d else next (d.setInforce 3 (d.newSlot 3))
      else if (d.serving (g + 1)).any fun s => !done.contains s then d
      else
        let kp := d.newSlot g
        let ku := d.newSlot 4
        let d := (d.loadSpare (g - 1) kp ku).setImgVer (g - 1) kp
        let d := d.setInforce g kp
        next (if g == 2 then d.setInforce 4 ku else d)

/-- An activation is accepted (R391): the spares are held and conversion begins. -/
def Dev.activate (d : Dev) (set : List Nat) : Dev :=
  let d := set.foldl (fun d t => match d.waitingSlot t with
    | some k => d.readImage t k
    | none => d) d
  match d.activationRefusal set with
  | some e => (d.setF SYS.AM_EVENTS_REFUSED).amSetOutcome e
  | none =>
    let news := set.foldl (fun st t => Store.put 4 st t ((d.waitingSlot t).getD 0)) ([] : Store Nat)
    let olds := set.foldl (fun st t => Store.put 4 st t (d.inforce t)) ([] : Store Nat)
    let order := d.groupOrder set
    let d := d.modAm fun _ => { Am.reset with new := news, old := olds, order := order, since := d.tick }
    let d : Dev := { d with cores := { d.cores with spareHeld := setKinds set } }
    let d := (d.wr SYS.AM_STATUS_STATE 4).wr SYS.AM_STATUS_SET (set.map fun t => 2 ^ (t - 1)).sum
    d.amAdvance 8

/-- The types that a write of AM_ACT selects. -/
def actTypes (v : Word) : List Nat := imageTypes.filter fun t => v.getLsbD t

/-! ### Fallback (R394) -/

/-- The end of an activation, confirmed or undone: the spares are free again. -/
def Dev.amEnds (d : Dev) (code : Nat) : Dev :=
  let d : Dev := { d with cores := { d.cores with spareHeld := [] }, am := Am.reset }
  ((d.wr SYS.AM_STATUS_STATE 0).wr SYS.AM_STATUS_SET 0).syncWaiting.amSetOutcome code

/-- The new slots are revoked and FELLBACK reported. -/
def Dev.fallEnds (d : Dev) : Dev :=
  let d := d.amSet.foldl (fun d t => d.engProgram (regionEnd t (d.newSlot t) - 32) (markLine [3#32]) true) d
  (d.setF SYS.AM_EVENTS_FELLBACK).amEnds 0x26

/-- What follows of a fallback without waiting, the latest conversion first. -/
def Dev.fallAdvance : Nat → Dev → Dev
  | 0, d => d
  | fuel + 1, d =>
    match d.am.undo with
    | [] => d.fallEnds
    | (g, slots) :: rest =>
      let next (d : Dev) : Dev := (d.modAm fun m => { m with undo := rest, since := d.tick }).syncWaiting.fallAdvance fuel
      if 5 ≤ g then next (d.setInforce g (d.oldSlot g))
      else if g == 3 then
        if laneNos.any fun n => d.laneLeft n then d else next (d.setInforce 3 (d.oldSlot 3))
      else if !slots.isEmpty then d
      else
        let kp := d.oldSlot g
        let ku := d.oldSlot 4
        let d := ((d.loadSpare (g - 1) kp ku).setImgVer (g - 1) kp).setInforce g kp
        next (if g == 2 then d.setInforce 4 ku else d)

/-- Fallback begins with DETAIL (R394). -/
def Dev.fallBack (d : Dev) (detail : Nat) : Dev := (d.amFallStart detail).fallAdvance 8

/-- A write of SYS.AM_ACT: REVERT, otherwise GO (R391, R394). -/
def Dev.amActWrite (d : Dev) (v : Word) : Dev :=
  if v.getLsbD 7 && (d.amState == 4 || d.amState == 5) then d.fallBack 1
  else if v.getLsbD 0 && !(actTypes v).isEmpty then d.activate (actTypes v)
  else d

/-- A write of SYS.HEALTH_CONFIRM (R393). -/
def Dev.healthConfirm (d : Dev) (v : Word) : Dev :=
  if d.amState == 5 && v == 0x4F4B2121#32 then
    let d := d.amSet.foldl (fun d t =>
      let seqs := [0, 1, 2].map fun k => if d.imageConfirmed t k then d.imageSeq t k else 0
      d.engProgram (regionEnd t (d.newSlot t) - 64) (markLine [2#32, Word.ofNat (seqs.foldl max 0 + 1)]) true) d
    d.amEnds 0x25
  else d.setF SYS.AM_EVENTS_STRAYCONF

/-! ### Conversion of slots and lanes (R392, R394) -/

/-- The slot whose turn it is, with its group. -/
def Dev.amNext (d : Dev) : Option (Nat × Nat) :=
  if d.amState == 4 then
    match d.am.order with
    | g :: _ =>
      if g == 1 || g == 2 then
        let done := (d.am.undo.head?.map Prod.snd).getD []
        (((d.serving (g + 1)).reverse.filter fun s => !done.contains s).head?).map fun s => (g, s)
      else none
    | [] => none
  else if d.amState == 6 then
    match d.am.undo with
    | (g, s :: _) :: _ => some (g, s)
    | _ => none
  else none

/-- A slot is quiescent (R392): WAIT, STALLED, HALTED or DOUBLE. -/
def Dev.quiescent (d : Dev) (s : Nat) : Bool :=
  d.slotState s == 3 || d.slotState s == 2 || d.slotState s == 0 || d.slotState s == 4

/-- The state of a converted slot (R392): PC at RESUME, an empty return stack, no trap, repetition or read pending; a slot that was WAIT or
STALLED runs. -/
def Dev.resumeAt (d : Dev) (s pc : Nat) : Dev :=
  let st := d.slotState s
  let d := (d.leaveFlumes s).modSlot s fun v =>
    ((({ v with pc := pc % progSize s, stack := [], sp := 0, depth := 0, rcount := 0#32, rep := none, pend := none, resume := none } : Slot).setFlag
      flagINTRAP false).setFlag flagINREP false)
  if st == 3 then d.leaveWait s 1 else if st == 2 then d.setSlotState s 1 else d

/-- A slot stops where it is, and starts at 0x0000 (R394); with `fresh` after a core reset. -/
def Dev.restartSlot (d : Dev) (s : Nat) (fresh : Bool) : Dev :=
  let d := if fresh then d.coreResetSlot s
    else
      let d := d.leaveFlumes s
      let d := if d.slotState s == 3 then d.leaveWait s 0 else d
      d.modSlot s fun v => { v with pc := 0, rep := none, pend := none, resume := none }
  d.setSlotState s 1

/-- Slot `s` is rotated onto the spare of its kind (0 Spindle, 1 Bowl), loaded with the images of slots `kp` and `ku`. -/
def Dev.rotateOnto (d : Dev) (s kind kp ku : Nat) : Dev :=
  let spare := d.rd (spareFld (kind + 2))
  let old := d.rd (assignFld s)
  ((d.loadSpare kind kp ku).moveSlot s spare).setSpare (kind + 2) old

/-- The address at which a converted slot of group `g` resumes: RESUME of the program image if it is in the set, otherwise of the
microcode. -/
def Dev.resumeOf (d : Dev) (g kp ku : Nat) : Nat := if d.amSet.contains g then d.imageResume g kp else d.imageResume 4 ku

/-- Notes that slot `s` of the current group is converted, or converted back. -/
def Dev.noteSlot (d : Dev) (s : Nat) : Dev :=
  d.modAm fun m =>
    match m.undo with
    | (g, l) :: r => { m with undo := (g, if d.amState == 4 then s :: l else l.filter fun x => x != s) :: r, since := d.tick }
    | [] => m

/-- The slot whose turn it is, quiescent, is converted (R392), or in a fallback converted back; `forced` where it did not become quiescent
in time. -/
def Dev.convertSlot (d : Dev) (g s : Nat) (forced : Bool) : Dev :=
  let back := d.amState == 6
  let kp := if back then d.oldSlot g else d.newSlot g
  let ku := if back then d.oldSlot 4 else d.newSlot 4
  let kind := g - 1
  let readable := d.imageReadable g kp && (g == 1 || d.imageReadable 4 ku)
  if !back && !readable then d.fallBack 4
  else
    let d := if d.rd (spareFld (kind + 2)) == 15 then
        (d.loadUnit kind ((d.unitOfSlot s).getD 0) kp ku).restartSlot s false
      else if forced then ((d.haltSlot s).rotateOnto s kind kp ku).restartSlot s true
      else (d.rotateOnto s kind kp ku).resumeAt s (d.resumeOf g kp ku)
    let d := d.noteSlot s
    if back then d.fallAdvance 8 else d.amAdvance 8

/-- SLOT_CONVERSION (R392, R394): the slot whose turn it is, is quiescent or, in a fallback without a spare, is reloaded in place. -/
def execSlotConversion (s : State) : Host.Outcome State Fault Refusal :=
  onDev s fun d =>
    match d.amNext with
    | some (g, x) =>
      let noSpare := d.rd (spareFld (g + 1)) == 15
      if d.on CORES.PL_STATUS_BUSY || !d.running then d
      else if d.amState == 6 && noSpare then d.convertSlot g x false
      else if d.quiescent x && !noSpare then d.convertSlot g x false
      else d
    | none => if d.amState == 6 then d.fallAdvance 8 else d

/-- QUIET_EXPIRY (R394): the slot whose turn it is has not become quiescent within QUIET ticks. -/
def execQuietExpiry (s : State) : Host.Outcome State Fault Refusal :=
  onDev s fun d =>
    match d.amNext with
    | some (g, x) =>
      if d.quiescent x || d.tick < d.am.since + max 1 (d.rd SYS.AM_CFG_QUIET) then d
      else if d.amState == 4 then d.fallBack 2
      else d.convertSlot g x true
    | none => d

/-- LANE_CONVERSION (R392): an IDLE lane is loaded with the microcode to be reached. -/
def execLaneConversion (n : Fin 72) (s : State) : Host.Outcome State Fault Refusal :=
  onDev s fun d =>
    let turn := if d.amState == 4 then d.am.order.head? == some 3 else d.amState == 6 && d.am.undo.head?.map Prod.fst == some 3
    if turn && d.laneLeft n.val && d.laneTestable n.val then
      let d := d.modLane n.val fun l => { l with converted := true }
      if d.amState == 4 then d.amAdvance 8 else d.fallAdvance 8
    else d

/-- ACTIVATE: AM_ACT is written with GO = 1. -/
def execActivate (types : BitVec 6) (s : State) : Host.Outcome State Fault Refusal :=
  onBus s 0 fun d => d.amActWrite (Word.ofNat (2 * types.toNat + 1))

/-- HEALTH_CONFIRM. -/
def execHealthConfirm (v : Word) (s : State) : Host.Outcome State Fault Refusal := onBus s 0 fun d => d.healthConfirm v

/-- TRIAL_EXPIRY (R394): the trial ends without confirmation. -/
def execTrialExpiry (s : State) : Host.Outcome State Fault Refusal :=
  onDev s fun d =>
    if d.amState == 5 && ticksFrom (d.reg SYS.AM_TRIAL_END_at).toNat d.tick32 < 2 ^ 31 then d.fallBack 0 else d

/-- REVERT: AM_ACT is written with REVERT = 1. -/
def execRevert (s : State) : Host.Outcome State Fault Refusal := onBus s 0 fun d => d.amActWrite 0x80#32

end Sys2Proof.Machine
end

