-- ==== Sys2Proof/Machine/QspOps.lean ====
section
/-! DEFINITION. The QSP masters: indirect frames and the direct map; the QSP slave's window (R371 to R373, R376, R377). -/

namespace Sys2Proof.Machine

/-! ### Indirect frames (R376) -/

/-- The bits of a number, the most significant of `k` first. -/
def bitsMsb : Nat → Nat → List Bool
  | 0, _ => []
  | k + 1, n => n.testBit k :: bitsMsb k n

/-- What `k` lanes carry in one cycle: the highest bit on the highest lane; bits missing at the end count as 0. -/
def laneValue : Nat → List Bool → Nat
  | 0, _ => 0
  | k + 1, l => (l.headD false).toNat * 2 ^ k + laneValue k l.tail

/-- The SCK cycles of a phase on `k` lanes, `fuel` at most (R376). -/
def laneCycles (k : Nat) : Nat → List Bool → List (Option Nat)
  | 0, _ => []
  | _, [] => []
  | fuel + 1, l => some (laneValue k l) :: laneCycles k fuel (l.drop k)

/-- The cycles of a phase whose lane code is `code`. -/
def phaseCycles (code : Nat) (bits : List Bool) : List (Option Nat) := laneCycles (2 ^ code) bits.length bits

/-- The cycles in which a dummy phase releases the lanes. -/
def dummyCycles (n : Nat) : List (Option Nat) := List.replicate n none

/-- The octets of a frame's data phase as bits. -/
def dataBits (l : List Byte) : List Bool := l.flatMap fun b => bitsMsb 8 b.toNat

/-- What the lanes of master `n` carry through the phases of an indirect frame that it drives; `octets` are the data of a write. -/
def Dev.frameWire (d : Dev) (n : Nat) (octets : List Byte) : List (Option Nat) :=
  let cbits := 8 * min 2 (d.rd (QSP.CMD_BITS n))
  let abits := 8 * min 4 (d.rd (QSP.PHASE_ABITS n))
  phaseCycles (d.rd (QSP.CMD_LANES n)) (bitsMsb cbits (d.rd (QSP.CMD_VALUE n)))
    ++ phaseCycles (d.rd (QSP.PHASE_ALANES n)) (bitsMsb abits (d.rd (QSP.ADDR_ADDR n)))
    ++ dummyCycles (d.rd (QSP.PHASE_DUMMY n)) ++ phaseCycles (d.rd (QSP.PHASE_DLANES n)) (dataBits octets)

/-- The frame that master `n` runs. -/
def Dev.qspFrame (d : Dev) (n : Nat) : Option QspFrame := Store.get none d.qsp.frames n

/-- Sets or clears the frame that master `n` runs. -/
def Dev.setFrame (d : Dev) (n : Nat) (f : Option QspFrame) : Dev :=
  { d with qsp := { d.qsp with frames := Store.put none d.qsp.frames n f } }

/-- QSP.EVENTS.DONE of master `n`. -/
def doneFld (n : Nat) : Fld := if n == 0 then QSP.EVENTS_DONE_0 else QSP.EVENTS_DONE_1

/-- A RESULT is shown and its completion word written (R376). -/
def Dev.qspResult (d : Dev) (n result : Nat) : Dev :=
  let d := d.wr (QSP.STATUS_RESULT n) result
  if d.on (QSP.CTRL_DONE_EN n) then d.flumeWrite (d.rd (QSP.CTRL_DONE_FLUME n)) (group [⟨Word.ofNat result, .nat⟩]) else d

/-- A frame ends, or is refused before it starts. -/
def Dev.qspEnd (d : Dev) (n result len : Nat) : Dev :=
  (((d.setFrame n none).wr (QSP.STATUS_DONE_LEN n) len).setF (doneFld n)).qspResult n result

/-- A write of GO[n] with GO = 1 (R376). -/
def Dev.qspGo (d : Dev) (n : Nat) : Dev :=
  let buf := d.rd (QSP.BUF_ADDR n)
  let len := min 4096 (d.rd (QSP.LEN_OCTETS n))
  let words := (len + 3) / 4
  let placed := buf % 4 == 0 && ((0x500000 ≤ buf && buf + 4 * words ≤ 0x600000) || buf + 4 * words ≤ 0x400000)
  if !d.on (QSP.CTRL_EN n) || d.unitFenced 13 n then d
  else if (d.qspFrame n).isSome then d.qspResult n 3
  else if n == 0 && d.on QSP.MAP_EN then d.qspEnd n 4 0
  else if len != 0 && !placed then d.qspEnd n 1 0
  else if d.on (QSP.PHASE_DIR n) && len != 0 then
    let (ws, d) := d.sramReads buf words
    if ws.any fun w => w.tag != .bytes && !w.tag.bad then d.qspEnd n 1 0
    else if ws.any fun w => w.tag.bad then d.qspEnd n 2 0
    else
      let octets := (ws.flatMap fun w => octetsOf w.data).take len
      d.setFrame n (some ⟨true, len, buf, octets, d.frameWire n octets, false⟩)
  else d.setFrame n (some ⟨d.on (QSP.PHASE_DIR n), len, buf, [], d.frameWire n [], false⟩)

/-- A write of GO[n] with ABORT = 1: the frame ends at its next octet boundary. -/
def Dev.qspAbort (d : Dev) (n : Nat) : Dev :=
  match d.qspFrame n with
  | some f => d.setFrame n (some { f with aborting := true })
  | none => d

/-- A write of GO[n]. -/
def Dev.qspGoWrite (d : Dev) (n : Nat) (v : Word) : Dev :=
  let d := if v.getLsbD 1 then d.qspAbort n else d
  if v.getLsbD 0 then d.qspGo n else d

/-- A running frame completes, or ends ABORTED after `count` data octets; `data` are the octets a read frame received (missing ones read
all ones: the lanes are released). -/
def Dev.qspDone (d : Dev) (n : Nat) (f : QspFrame) (count : Nat) (data : List Byte) : Dev :=
  let len := if f.aborting then min count f.len else f.len
  let octets := (data ++ List.replicate len 0xFF#8).take len
  let d := if f.isWrite || len == 0 then d else d.sramWrites f.buf (bytesWords octets)
  d.qspEnd n (if f.aborting then 5 else 0) len

/-! ### The direct map (R377) -/

/-- The 32 octets of map line `a` as fetched: from `data`, or free octets where no command carries them (log entry 6). -/
def Dev.mapFetch (d : Dev) : List Byte → List Byte × Dev
  | [] =>
    (List.range 8).foldl (fun (l, d) _ =>
      let (w, d) := d.drawWord
      (l ++ octetsOf w, d)) ([], d)
  | data => ((data ++ List.replicate 32 0xFF#8).take 32, d)

/-- A load from offset `a` of the direct map: from a prefetch line, or its line is fetched and with PREFETCH the next one after it. `data`
holds the octets that the memory gives, the missed line's first. -/
def Dev.mapLoad (d : Dev) (a : Nat) (data : List Byte) : Word × Dev :=
  let line := a - a % 32
  let wordAt (l : List Byte) : Word := wordOfOctets ((l.drop (a % 32)).take 4)
  if !d.on QSP.MAP_EN || d.unitFenced 13 0 then d.drawWord
  else match (d.qsp.lines.filter fun l => l.1 == line).head? with
    | some l => (wordAt l.2, d)
    | none =>
      let (o, d) := d.mapFetch (data.take 32)
      let next := (line + 32) % 2 ^ 24
      let cont := d.on QSP.MAP_CONT
      if d.on QSP.MAP_PREFETCH then
        let (p, d) := d.mapFetch (data.drop 32)
        (wordAt o, { d with qsp := { d.qsp with lines := [(next, p), (line, o)], cont := cont } })
      else (wordAt o, { d with qsp := { d.qsp with lines := ((line, o) :: d.qsp.lines).take 2, cont := cont } })

/-- The external address that map offset `a` reads (R377). -/
def Dev.mapAddress (d : Dev) (a : Nat) : Nat := (d.rd QSP.MAP_MODE_BASE * 256 + a) % 2 ^ 24

/-- A write of QSP.MAP: setting EN empties the prefetch lines; clearing it leaves continuous mode with the exit frame. -/
def Dev.mapWrite (d : Dev) (v : Word) : Dev :=
  let was := d.on QSP.MAP_EN
  let d := d.setReg QSP.MAP_at (v &&& fieldMask QSP.MAP_at)
  if !was && d.on QSP.MAP_EN then { d with qsp := { d.qsp with lines := [], cont := false } }
  else if was && !d.on QSP.MAP_EN then { d with qsp := { d.qsp with cont := false } }
  else d

/-! ### The slave (R371 to R373) -/

/-- The slave serves a transaction (R372): CFG_S.EN is 1 and the device is in RUN or DOZE. -/
def Dev.slaveServes (d : Dev) : Bool := d.on QSP.CFG_S_EN && (d.running || d.power == 1) && !d.unitFenced 13 2

/-- The select of the QSP slave is low (R372): a falling select fires the level source QSP_S. -/
def Dev.selectLow (d : Dev) : Dev :=
  if d.on QSP.CFG_S_EN && !d.unitFenced 13 2 && !d.well.levels.getLsbD 11 then d.setLevel 11 true else d

/-- A transaction of the slave carries out `f` if the slave serves it, and `g` otherwise. -/
def Dev.slaveAccess (d : Dev) (f g : Dev → Dev) : Dev := if d.slaveServes then f d.selectLow else g d.selectLow

/-- A rise of one of the SCOUNT counters. -/
def Dev.slaveErr (d : Dev) (partials shorts busyWr : Nat) : Dev :=
  let s := d.spout
  ({ d with spout := { s with partials := min 255 (s.partials + partials), shorts := min 255 (s.shorts + shorts),
                              busyWr := min 255 (s.busyWr + busyWr) } } : Dev).setF QSP.EVENTS_SLAVE_ERR

/-- The octets of a window word, bits 31:24 first (R373). -/
def slaveOctets (w : Word) : List Byte := (octetsOf w).reverse

/-- A slave write of CMD_FIFO (R369, R373). -/
def Dev.cmdFifoWrite (d : Dev) (w : Word) : Dev :=
  if (d.heldCmd 1).isSome then d.slaveErr 0 0 1
  else { d with spout := { d.spout with cmdFifo := (d.spout.cmdFifo ++ slaveOctets w).take 1032 } }

/-- The next word of REPLY_FIFO (R373): zero past the end. -/
def Dev.replyFifoWord (d : Dev) : Word :=
  match d.heldCmd 1 with
  | some h =>
    if h.phase == 3 then wordOfOctets ((List.range 4).map fun i => (h.reply.drop d.spout.replyPos).getD (3 - i) 0#8) else 0#32
  | none => 0#32

/-- SSTAT (R373). -/
def Dev.sstat (d : Dev) : Word :=
  match d.heldCmd 1 with
  | some h => Word.ofNat ((if h.phase == 3 then h.reply.length + 2 ^ 17 else 0) + 2 ^ 31)
  | none => Word.ofNat (2 ^ 16 + 2 ^ 31)

/-- SCOUNT (R373). -/
def Dev.scount (d : Dev) : Word := Word.ofNat (d.spout.partials + d.spout.shorts * 256 + d.spout.busyWr * 65536)

end Sys2Proof.Machine
end

