-- ==== Sys2Proof/Machine/RegView.lean ====
section
/-! DEFINITION. What a read of a register shows where the value is not kept in the register itself: statuses computed from the state of the
unit (the tables of R66, R101, R119, R135, R175, R195, R221, R246, R294, R315, R316, R332, R358, R359, R378, R379, R411). -/

namespace Sys2Proof.Machine

/-- A truth value at bit `i` of a register word. -/
def bitAt (i : Nat) (b : Bool) : Nat := if b then 2 ^ i else 0

/-! ### Basin (R66) -/

/-- BASIN.STATUS. -/
def Dev.basinStatus (d : Dev) : Nat :=
  d.activeLanes + (laneNos.countP fun n => (d.lane n).state != .fenced) * 2 ^ 8
    + ((laneNos.find? fun n => (d.lane n).state == .test).getD 0x7F) * 2 ^ 16
    + bitAt 24 (d.blanked 0) + bitAt 25 (d.blanked 1) + bitAt 26 (d.portActive 0) + bitAt 27 (d.portActive 1)

/-- BASIN.LANE[n]. -/
def Lane.word (l : Lane) : Nat :=
  l.state.code + bitAt 3 (l.isShadow && (l.state == .search || l.state == .demod)) + bitAt 4 l.pin.isSome + l.group.port * 2 ^ 5
    + l.group.bin * 2 ^ 6 + l.group.width * 2 ^ 12 + l.restarts * 2 ^ 16 + (l.pin.getD 0) * 2 ^ 20

/-- BASIN.PINS[j]. -/
def Dev.pinsWord (d : Dev) (j : Nat) : Nat :=
  match d.pinLane j with
  | some n => n + (d.lane n).state.code * 2 ^ 8
  | none => 0x7F

/-- The computed words of BASIN. -/
def Dev.viewBasin (d : Dev) (off : Nat) : Option Nat :=
  if off == 8 then some d.basinStatus
  else if 0x604 ≤ off && off < 0x684 && off % 8 == 4 then some (d.pinsWord ((off - 0x604) / 8))
  else if 0x800 ≤ off && off < 0x920 then some (d.lane ((off - 0x800) / 4)).word
  else none

/-! ### Synthesisers and transmit chains (R119) -/

/-- RFx.SYN_STATUS. -/
def Dev.synStatus (d : Dev) (p : Nat) : Nat :=
  let s := d.syn p
  s + bitAt 3 (s == 3 || s == 6 || s == 7) + bitAt 4 (d.claimed p) + bitAt 5 (d.rfp p).syn.heldCal.isSome
    + (d.rfp p).syn.cache.length * 2 ^ 6 + d.rd (RF.SYN_STATUS_LOCKFAILS p) * 2 ^ 11

/-- RFx.TX_STATUS. -/
def Dev.txStatus (d : Dev) (p : Nat) : Nat :=
  let tx := (d.rfp p).tx
  let free := tx.free.isSome || (tx.now.map fun t => !t.req.sched && t.ending.isNone).getD false
  (d.heldScheds p).length + bitAt 3 free + bitAt 4 ((tx.now.map TxNow.granted).getD false) + bitAt 5 (d.syn p == 7)

/-- The computed words of RFA and RFB. -/
def Dev.viewRf (d : Dev) (p off : Nat) : Option Nat :=
  if off == 8 then some (d.synStatus p) else if off == 0x1C then some (d.txStatus p) else none

/-! ### Lathe (R101) -/

/-- LATHE.STATUS. -/
def Dev.latheStatus (d : Dev) : Nat :=
  d.lathe.heap.length + bitAt 14 (d.on LATHE.CMD_STATUS_BUSY) + d.lathe.windows.length * 2 ^ 16 + d.lathe.backbone.length * 2 ^ 25

/-- LATHE.HEAD. -/
def Dev.latheHead (d : Dev) : Nat :=
  match d.lathe.heap.head? with
  | some e => e.slot
  | none => 2 ^ 31

/-- The computed words of LATHE. -/
def Dev.viewLathe (d : Dev) (off : Nat) : Option Nat :=
  if off == 0x9C then some d.latheStatus else if off == 0xB0 then some d.latheHead else none

/-! ### The Weir (R135, R136) -/

/-- WEIR.STATUS. -/
def Dev.weirStatus (d : Dev) : Nat :=
  let g (p : Nat) : Bool := ((d.rfp p).tx.now.map TxNow.granted).getD false
  (d.reg WEIR.STATUS_at).toNat / 2 ^ 7 * 2 ^ 7 + (d.reg WEIR.STATUS_at).toNat % 2 ^ 5 + bitAt 5 (g 0) + bitAt 6 (g 1)

/-- The computed words of WEIR. -/
def Dev.viewWeir (c : Cells) (d : Dev) (off : Nat) : Option Nat :=
  let b := (off - 0x100) / 0x20
  if off == 0 then some d.weirStatus
  else if off == 4 then some c.lockWord.toNat
  else if off == 0x20 then some (d.bucketCharge (d.rd WEIR.LEDGER_SEL_RECORD) (min 59 (d.rd WEIR.LEDGER_SEL_AGE)))
  else if 0x100 ≤ off && off < 0x200 then
    if off % 0x20 == 0x14 then some (d.used b)
    else if off % 0x20 == 0x18 then some (d.resv b)
    else if off % 0x20 == 0x1C then some (twos 32 (d.remain b))
    else none
  else none

/-! ### Chisel (R175) -/

/-- CHISEL.STATUS. -/
def Dev.chiselStatus (d : Dev) : Nat :=
  ((List.range 8).countP fun i => decide (d.corePos i < 9)) + bitAt 4 (d.on REPAIR.SPARES_CHISEL)
    + ((List.range 8).map fun i => bitAt (5 + i) (d.coreBusy (d.corePos i))).sum
    + bitAt 13 ((List.range 4).any fun q => !(d.waitingJobs q).isEmpty)

/-- The computed words of CHISEL. -/
def Dev.viewChisel (d : Dev) (off : Nat) : Option Nat :=
  if off == 4 then some d.chiselStatus
  else if off == 0x1C then
    some (match d.chisel.lease with
      | some l => l.1 + 2 ^ 16
      | none => 0)
  else if off == 0xA0 then some (d.chisel.wseq % 2 ^ 32)
  else none

/-! ### Flumes (R195) -/

/-- FLUME.STATUS[n]. -/
def Flume.status (f : Flume) : Nat :=
  f.entries.length + bitAt 17 f.openGap + bitAt 18 f.suspect + bitAt 19 (!f.stalled.isEmpty)

/-- The computed words of FLUME. -/
def Dev.viewFlume (d : Dev) (off : Nat) : Option Nat :=
  if off == 0x18 then some d.spareUnits
  else if 0x200 ≤ off && off < 0x300 then some (d.flume ((off - 0x200) / 4)).status
  else if 0x300 ≤ off && off < 0x400 then some (d.flume ((off - 0x300) / 4)).pkts
  else none

/-! ### Aqueduct (R221) -/

/-- AQUA.AMP[p]. -/
def Dev.ampWord (d : Dev) (p : Nat) : Nat := d.rd (AQUA.AMP_AMP p) + d.ampInForce p * 2 ^ 8 + bitAt 16 (d.ampClamped p)

/-- The computed words of AQUA. -/
def Dev.viewAqua (d : Dev) (off : Nat) : Option Nat :=
  if off == 0x108 then some (d.ampWord 0) else if off == 0x148 then some (d.ampWord 1) else none

/-! ### Cistern (R294) -/

/-- CIST.STATUS. -/
def Dev.cistStatus (d : Dev) : Nat :=
  let op := match d.cist.op, d.cist.susp with
    | some o, _ => o.op
    | none, some o => o.op
    | none, none => 0
  bitAt 0 d.cist.op.isSome + op * 2 + bitAt 4 d.cist.susp.isSome + bitAt 5 (d.on CIST.STATUS_SUSP_PEND) + bitAt 6 (d.on CIST.STATUS_AUTO)
    + bitAt 7 ((d.cist.op.map fun o => decide (d.now < o.rotTill)).getD false) + d.cist.seq.code * 2 ^ 8 + bitAt 10 (d.on CIST.STATUS_OPT_COPY) + bitAt 11 (d.on CIST.STATUS_OPT_OK)

/-- The computed words of CIST; ERASE_RUN of a running erase is computed to the present instant. -/
def Dev.viewCist (d : Dev) (off : Nat) : Option Nat :=
  if off == 4 then some d.cistStatus
  else if off == 0x24 then some d.incompleteWord.toNat
  else if off == 0x18 then
    match d.cist.op with
    | some o => if o.op == 2 then some (runUs (o.run + (d.now - o.since))) else none
    | none => none
  else none

/-! ### Cores (R246) -/

/-- CORES.STATUS[s]. -/
def Dev.coreStatus (d : Dev) (s : Nat) : Nat :=
  let v := d.slot s
  d.slotState s + bitAt 3 (v.flag flagINTRAP) + bitAt 4 (v.flag flagINREP) + bitAt 5 (d.on (CORES.STATUS_KICKED s))
    + bitAt 6 (d.on (CORES.STATUS_BRKHIT s)) + (if d.slotState s == 2 then (v.pend.map PendRead.flume).getD 0 else 0) * 2 ^ 8 + v.pc * 2 ^ 16

/-- The computed words of CORES. -/
def Dev.viewCores (d : Dev) (off : Nat) : Option Nat :=
  if 0x100 ≤ off && off < 0x1C0 && off % 16 == 8 then some (d.coreStatus ((off - 0x100) / 16)) else none

/-! ### Wellspring, Clepsydra, Sluice, repair (R315, R332, R358, R359) -/

/-- WELL.VCORE.TARGET as it acts. -/
def Dev.vcoreTarget (d : Dev) : Nat := clampN 45 90 (d.rd WELL.VCORE_TARGET)

/-- Whether the floor of R20 raises the target. -/
def Dev.vcoreFloored (d : Dev) : Bool := d.anyActive && decide (d.vcoreTarget < 62)

/-- VCORE in force (R20, R295): 0.45 V in DOZE. -/
def Dev.vcoreNow (d : Dev) : Nat := if d.power == 1 then 45 else if d.vcoreFloored then 62 else d.vcoreTarget

/-- WELL.VCORE. -/
def Dev.vcoreWord (d : Dev) : Nat := d.rd WELL.VCORE_TARGET + d.vcoreNow * 2 ^ 8 + bitAt 15 d.vcoreFloored

/-- The computed words of WELL. -/
def Dev.viewWell (d : Dev) (off : Nat) : Option Nat :=
  if off == 8 then some ((setBits (d.reg WELL.STATUS_at) 6 1 d.anyActive.toNat).toNat)
  else if off == 0x24 then some d.vcoreWord
  else none

/-- The computed words of CLEP. -/
def Dev.viewClep (d : Dev) (off : Nat) : Option Nat :=
  if off == 8 then some d.tick32
  else if off == 0x10 then some (d.tick / 2 ^ 32)
  else if off == 0x80 then some (d.dmonArmed 0)
  else if off == 0x84 then some (d.dmonArmed 1)
  else if 0x100 ≤ off && off < 0x300 && off % 0x20 == 0x18 then
    let n := (off - 0x100) / 0x20
    some ((setBits (d.reg (TIM.STATUS_at n)) 3 1 (d.on (TIM.CFG_SRC n) && !d.anyActive).toNat).toNat)
  else none

/-- Word `w` of a fault record (R333). -/
def LogRec.word (r : LogRec) (w : Nat) : Nat :=
  match w with
  | 0 => r.cls * 2 ^ 30 + r.code * 2 ^ 24 + r.kind * 2 ^ 19 + r.inst * 2 ^ 12 + r.reaction * 2 ^ 9 + bitAt 8 r.late + r.rep
  | 1 => r.tick % 2 ^ 32
  | 2 => r.tick / 2 ^ 32 % 2 ^ 16 * 2 ^ 16 + r.frac * 2 ^ 6
  | 3 => r.d0 % 2 ^ 32
  | 4 => r.d1 % 2 ^ 32
  | 5 => r.agent * 2 ^ 28 + r.agentNo * 2 ^ 24 + bitAt 23 r.injected
  | 6 => r.last % 2 ^ 32
  | _ => r.seq % 2 ^ 32

/-- LOG[i].W[w]: the held record, or a retired one that its number still shows. -/
def Dev.logWord (d : Dev) (i w : Nat) : Nat :=
  match Store.get none d.sluice.log i, Store.get none d.sluice.retired i with
  | some r, _ => r.word w
  | none, some r => r.word w
  | none, none => 0

/-- The computed words of SLUICE. -/
def Dev.viewSluice (d : Dev) (off : Nat) : Option Nat :=
  if off == 0 then some ((setBits (d.reg SLUICE.STATUS_at) 4 4 (min 15 d.fCounted.length)).toNat)
  else if off == 0x18 then some (((oldestOf d.sluice.held).map Prod.fst).getD 0 + d.sluice.held.length * 2 ^ 8)
  else if 0x1000 ≤ off && off < 0x1800 then some (d.logWord ((off - 0x1000) / 32) (off % 32 / 4))
  else none

/-- The computed words of REPAIR: DIRTY, and the map window's CRC (R351). -/
def Dev.viewRepair (c : Cells) (d : Dev) (off : Nat) : Option Nat :=
  if off == 4 then some ((setBits (d.reg REPAIR.STATUS_at) 4 1 (d.mapDirty c).toNat).toNat)
  else if off == 0x13FC then some d.mapCrc.toNat
  else none

/-! ### Spout, QSP, GPIO (R378, R379, R411) -/

/-- SPOUT.STATUS. -/
def Dev.spoutStatus (d : Dev) : Nat :=
  let soft := match (d.spout.held.filter fun h => h.phase == 2).head? with
    | some h => 1 + h.src * 2 + (h.octets.getD 1 0#8).toNat * 2 ^ 8
    | none => 0
  soft + ((List.range 5).map fun t => bitAt (16 + t) (d.heldCmd t).isSome).sum

/-- QSP.STATUS[n]. -/
def Dev.qspStatus (d : Dev) (n : Nat) : Nat := (setBits (d.reg (QSP.STATUS_at n)) 0 1 (d.qspFrame n).isSome.toNat).toNat

/-- The computed words of every block, by block number of R33. -/
def Dev.view (c : Cells) (d : Dev) (u off : Nat) : Option Nat :=
  match u with
  | 1 => d.viewWell off
  | 2 => d.viewClep off
  | 3 => d.viewSluice off
  | 4 => d.viewRepair c off
  | 5 => d.viewWeir c off
  | 6 => d.viewRf 0 off
  | 7 => d.viewRf 1 off
  | 8 => d.viewBasin off
  | 10 => d.viewLathe off
  | 11 => d.viewChisel off
  | 12 => d.viewFlume off
  | 13 => d.viewAqua off
  | 14 => d.viewCist off
  | 15 => if off == 0x18 then some d.spoutStatus else none
  | 16 => if off == 0x1C then some (d.qspStatus 0) else if off == 0x5C then some (d.qspStatus 1) else none
  | 17 => d.viewCores off
  | 18 => if off == 8 then some d.ballLevels.toNat else none
  | _ => none

end Sys2Proof.Machine
end

