-- ==== Sys2Proof/Machine/RfExec.lean ====
section
/-! DEFINITION. The commands of the synthesisers, the transmit chains and the Weir's cuts (chapters 04 and 05). -/

namespace Sys2Proof.Machine

/-- The junction temperature the command reports (R106). -/
def Dev.atTemp (d : Dev) (t : Int) : Dev := { d with junction := t }

/-- SYN_EN. -/
def execSynEn (p : Fin 2) (on : Bool) (temp : Int) (s : State) : Host.Outcome State Fault Refusal :=
  onBus s (6 + p.val) fun d => (d.atTemp temp).synEnWrite p.val on

/-- FC_WRITE. -/
def execFcWrite (p : Fin 2) (hz : BitVec 30) (temp : Int) (s : State) : Host.Outcome State Fault Refusal :=
  onBus s (6 + p.val) fun d => (d.atTemp temp).fcWrite p.val hz.toNat

/-- CALIBRATION_DONE (R103, R106): the segment is stored; a pending claim, the receiver's lock or OFF follows, or the transmission that
waited for its calibration ends. -/
def execCalibrationDone (p : Fin 2) (temp : Int) (s : State) : Host.Outcome State Fault Refusal :=
  onDev s fun d =>
    let f := (d.rfp p.val).syn.calFreq
    if d.syn p.val == 1 then
      let d := (d.atTemp temp).storeCache p.val f
      let d := (d.setSyn p.val 2).claim p.val
      if d.claimed p.val then d else d.returnToFc p.val
    else if d.syn p.val == 4 then
      let d := (d.atTemp temp).storeCache p.val f
      match (d.rfp p.val).tx.now with
      | some t =>
        if t.ending.isSome then (d.modTx p.val fun c => { c with now := none }).returnToFc p.val else d.setSyn p.val 5
      | none => d.returnToFc p.val
    else d

/-- LOCK_ACHIEVED (R103): LOCK_RX goes to RX, TX_LOCK to TX_READY; the run of lock failures ends. -/
def execLockAchieved (p : Fin 2) (s : State) : Host.Outcome State Fault Refusal :=
  onDev s fun d =>
    if d.syn p.val == 2 then ((d.wr (RF.SYN_STATUS_LOCKFAILS p.val) 0).setSyn p.val synRX).noteActive
    else if d.syn p.val == 5 then
      let failed := match (d.rfp p.val).tx.now with
        | some t => t.lockFailed
        | none => true
      if failed then d else (d.wr (RF.SYN_STATUS_LOCKFAILS p.val) 0).setSyn p.val 6
    else d

/-- LOCK_FAILURE (R105): the failure is recorded, the cache entry invalidated; LOCK_RX recalibrates, a claimed transmission will fail
NOLOCK, and the eighth failure in a row fences the synthesiser. -/
def execLockFailure (p : Fin 2) (s : State) : Host.Outcome State Fault Refusal :=
  onDev s fun d =>
    let st := d.syn p.val
    if st != 2 && st != 5 then d
    else
      let f := (d.rfp p.val).syn.calFreq
      let n := min 8 (d.rd (RF.SYN_STATUS_LOCKFAILS p.val) + 1)
      let d := (d.wr (RF.SYN_STATUS_LOCKFAILS p.val) n).setF (RF.EVENTS_NOLOCK p.val)
      let d := d.fault { mkUnitFault 0x09 6 p.val f n with reaction := if n == 8 then 5 else 0 }
      let d := d.dropCache p.val f
      if n == 8 then (d.markFence 6 p.val).fenceSyn p.val
      else if st == 2 then (d.blankStart p.val).setSyn p.val 1
      else d.modTx p.val fun c => { c with now := c.now.map fun t => { t with lockFailed := true } }

/-- CAL_GO. -/
def execCalGo (p : Fin 2) (hz : BitVec 30) (s : State) : Host.Outcome State Fault Refusal := onBus s (6 + p.val) fun d => d.calGo p.val hz.toNat

/-- CAL_FLUSH. -/
def execCalFlush (p : Fin 2) (s : State) : Host.Outcome State Fault Refusal := onBus s (6 + p.val) fun d => d.calFlush p.val

/-- CAL_HELD_START. -/
def execCalHeldStart (p : Fin 2) (s : State) : Host.Outcome State Fault Refusal := onDev s fun d => d.calStart p.val

/-- SCHEDULED_DESCRIPTOR. -/
def execScheduledDescriptor (p : Fin 2) (s : State) : Host.Outcome State Fault Refusal := onDev s fun d => d.schedDescriptor p.val

/-- FREE_DESCRIPTOR. -/
def execFreeDescriptor (p : Fin 2) (f : BitVec 10) (s : State) : Host.Outcome State Fault Refusal :=
  onDev s fun d => (d.atFrac f).freeDescriptor p.val

/-- CLAIM. -/
def execClaim (p : Fin 2) (f : BitVec 10) (temp : Int) (s : State) : Host.Outcome State Fault Refusal :=
  onDev s fun d => ((d.atFrac f).atTemp temp).claim p.val

/-- CLEARANCE. -/
def execClearance (p : Fin 2) (f : BitVec 10) (s : State) : Host.Outcome State Fault Refusal :=
  onDev s fun d => (d.atFrac f).clear p.val

/-- RAMP_START. -/
def execRampStart (p : Fin 2) (f : BitVec 10) (s : State) : Host.Outcome State Fault Refusal :=
  onDev s fun d => (d.atFrac f).rampUp p.val

/-- LAST_SYMBOL_END (R111 step 9): ramp-down starts. -/
def execLastSymbolEnd (p : Fin 2) (f : BitVec 10) (s : State) : Host.Outcome State Fault Refusal :=
  onDev s fun d => (d.atFrac f).modTx p.val fun c => { c with now := c.now.map fun t =>
    if t.rampStart.isSome && t.down.isNone then { t with down := some ⟨(d.atFrac f).rfNow, t.ramp⟩ } else t }

/-- PA_OFF. -/
def execPaOff (p : Fin 2) (f : BitVec 10) (s : State) : Host.Outcome State Fault Refusal :=
  onDev s fun d => (d.atFrac f).paOff p.val

/-- TX_ABORT_NOW. -/
def execTxAbortNow (p : Fin 2) (s : State) : Host.Outcome State Fault Refusal := onBus s (6 + p.val) fun d => d.txAbortWrite p.val 1#32

/-- TX_ABORT_FREE. -/
def execTxAbortFree (p : Fin 2) (s : State) : Host.Outcome State Fault Refusal := onBus s (6 + p.val) fun d => d.txAbortWrite p.val 2#32

/-- TX_ABORT_ALL. -/
def execTxAbortAll (p : Fin 2) (s : State) : Host.Outcome State Fault Refusal := onBus s (6 + p.val) fun d => d.txAbortWrite p.val 4#32

/-- DWELL_CUT (R134): the measured PA-on time has reached the smallest MAXTX_MS that covered the clearance (R127). -/
def execDwellCut (p : Fin 2) (f : BitVec 10) (s : State) : Host.Outcome State Fault Refusal :=
  onDev s fun d =>
    let d := d.atFrac f
    match (d.rfp p.val).tx.now with
    | some t =>
      match t.rampStart with
      | some r =>
        let us := unitsToUs (d.rfNow - r)
        if t.ending.isNone && t.dwell.2 ≤ us then (d.fault (mkUnitFault 0x0A 7 p.val us t.dwell.1)).weirCutPort p.val 8 t.dwell.1 else d
      | none => d
    | none => d

/-- WEIR_SELF_CHECK_FAIL (R134): the Weir goes SILENT, running transmissions are cut and a FATAL fault is latched; `code` is the check of
R415. -/
def execWeirSelfCheckFail (code : Fin 3) (s : State) : Host.Outcome State Fault Refusal :=
  onDev s fun d => d.weirFails.aqSilent.fatal (mkUnitFault 0x20 17 0 17 (0x11 + code.val))

/-- VPA_LOW (R133): a port's VPA has fallen. -/
def execVpaLow (v : VpaReport) (s : State) : Host.Outcome State Fault Refusal :=
  onDev s fun d => (d.atFrac v.f).vpaLevel v.port.val v.mv.toNat

end Sys2Proof.Machine
end

