-- ==== Sys2Proof/Machine/Bus.lean ====
section
/-! DEFINITION. The bus: what a read or a write of one address does, for any master (R5, R6, R8, R30 to R32, R34), and the commands
REGISTER_WRITE and TAG_ALIAS_WRITE. -/

namespace Sys2Proof.Machine

/-! ### Registers by access code (R6, R8) -/

/-- The bits of the register at `a` whose access code satisfies `p`. -/
def accMask (a : Nat) (p : Acc → Bool) : Word :=
  Word.ofNat ((regFields a).foldl (fun n f => if p f.acc then n + (2 ^ f.width - 1) * 2 ^ f.lo else n) 0)

/-- A write by the access codes alone: RW fields take the value, W1C bits written 1 are cleared, all else stays. -/
def Dev.plainWrite (d : Dev) (a : Nat) (v : Word) : Dev :=
  let rw := accMask a fun x => x == .rw
  let w1c := accMask a fun x => x == .w1c
  d.setReg a (((d.reg a &&& ~~~rw) ||| (v &&& rw)) &&& ~~~(v &&& w1c))

/-! ### Writes of each block -/

/-- A write into the SYS block. -/
def Dev.writeSys (d : Dev) (a off : Nat) (v : Word) : Dev :=
  if off == 0x108 then d.amHeader v.toNat
  else if off == 0x10C then d.amChunk v.toNat
  else if off == 0x110 then d.amActWrite v
  else if off == 0x114 then d.healthConfirm v
  else d.plainWrite a v

/-- A write into the WELL block; RETAIN.3 ignores writes. -/
def Dev.writeWell (d : Dev) (a off : Nat) (v : Word) : Dev :=
  if off == 0 then d.modeWrite v
  else if off == 0x28 then d.gpwakeWrite v
  else if off == 0x3C then d
  else d.plainWrite a v

/-- A write of a timer register (R320 to R323). -/
def Dev.writeTimer (d : Dev) (n a off : Nat) (v : Word) : Dev :=
  if off == 0x0C then d.cmpWrite n v
  else if off == 0x14 then d.timerArm n v
  else (d.settleTimer n).plainWrite a v

/-- A write into the CLEP block. -/
def Dev.writeClep (d : Dev) (m : Master) (a off : Nat) (v : Word) : Dev :=
  if off == 0x20 then d.trimWrite v
  else if off == 0x24 then d.measCtrlWrite v
  else if off == 0x34 then d.netMark v
  else if off == 0x44 then d.timeWrite v
  else if off == 0x48 then d.dateWrite v
  else if off == 0x4C then d.weekdayWrite v
  else if off == 0x88 then d.dmonDisarm 0 v
  else if off == 0x8C then d.dmonDisarm 1 v
  else if 0x400 ≤ off then d.dmonWrite m ((off - 0x400) / 4) v
  else if 0x100 ≤ off then d.writeTimer ((off - 0x100) / 0x20) a (off % 0x20) v
  else d.plainWrite a v

/-- A write into the SLUICE block. -/
def Dev.writeSluice (d : Dev) (m : Master) (a off : Nat) (v : Word) : Dev :=
  if off == 0x1C then d.logRetire (bitsOf v 0 7)
  else if off == 0x28 then d.hbFeed m
  else if off == 0x34 then (if v.getLsbD 0 then d.wr SLUICE.STATUS_FATAL 0 else d)
  else if off == 0x38 then d.injWrite v
  else if off == 0x3C then (if d.on SLUICE.STATUS_FACTORY then d.plainWrite a v else d)
  else d.plainWrite a v

/-- A write into the REPAIR block. -/
def Dev.writeRepair (d : Dev) (m : Master) (a off : Nat) (v : Word) : Dev := if off == 8 then d.repairCmd m v else d.plainWrite a v

/-- Whether a set lock governs the Weir register at offset `off` (R125, R127). -/
def Cells.weirLocked (c : Cells) (off : Nat) : Bool :=
  if off == 8 then c.locked 8 else if off == 0xC then c.locked 9 else c.bandLocked ((off - 0x100) / 0x20)

/-- A write into the WEIR block: RWL fields take the value only while their lock is clear (R8, R127). -/
def Dev.writeWeir (c : Cells) (d : Dev) (a off : Nat) (v : Word) : Dev :=
  let d := d.plainWrite a v
  let rwl := accMask a fun x => x == .rwl
  if rwl == 0#32 || c.weirLocked off then d
  else
    let d := d.setReg a ((d.reg a &&& ~~~rwl) ||| (v &&& rwl))
    if off == 8 then d.cableCheck
    else if off == 0xC then (d.vpaLevel 0 (d.vpa 0)).vpaLevel 1 (d.vpa 1)
    else d

/-- A write into the block of port `p`'s synthesiser and transmit chain; SHAPE[31] is read-only. -/
def Dev.writeRf (d : Dev) (p a off : Nat) (v : Word) : Dev :=
  if off == 0 then d.synEnWrite p (v.getLsbD 0)
  else if off == 4 then d.fcWrite p (bitsOf v 0 30)
  else if off == 0x0C then d.calWrite p v
  else if off == 0x18 then d.txAbortWrite p v
  else if off == 0xFC then d
  else d.plainWrite a v

/-- A write into the BASIN block; a new profile makes every detector's word be checked again (R46), and a new ACTIVE_MAX
lets waiting pin slots acquire lanes (R50). -/
def Dev.writeBasin (d : Dev) (a off : Nat) (v : Word) : Dev :=
  if off == 0 then d.basinCtrlWrite v
  else if off == 4 then (d.plainWrite a v).acquirePins
  else if off == 0x10 then d.laneAbortWrite v
  else if off == 0x100 then d.pcfgWrite 0 v
  else if off == 0x140 then d.pcfgWrite 1 v
  else if 0x200 ≤ off && off < 0x300 && off % 16 == 0 then (List.range 128).foldl Dev.checkDet (d.plainWrite a v)
  else if 0x400 ≤ off && off < 0x600 then d.detWrite ((off - 0x400) / 4) v
  else if 0x600 ≤ off && off < 0x680 && off % 8 == 0 then d.pincWrite ((off - 0x600) / 8) v
  else d.plainWrite a v

/-- A write into the LATHE block. -/
def Dev.writeLathe (d : Dev) (a off : Nat) (v : Word) : Dev :=
  if off == 0x8C then d.latheCmd (bitsOf v 0 13) (bitsOf v 13 3)
  else if off == 0x94 then d.commit (bitsOf v 0 13) (bitsOf v 13 3) (bitsOf v 16 8)
  else d.plainWrite a v

/-- A write into the CHISEL block. -/
def Dev.writeChisel (d : Dev) (a off : Nat) (v : Word) : Dev :=
  if off == 0 then d.chiselCfgWrite v
  else if off == 0x18 then d.lockWrite (bitsOf v 0 16) (bitsOf v 16 3)
  else if off == 0x44 then d.kctrlWrite v
  else d.plainWrite a v

/-- A write into the FLUME block. -/
def Dev.writeFlume (d : Dev) (a off : Nat) (v : Word) : Dev :=
  if 0x100 ≤ off && off < 0x200 then d.flumeCfgWrite ((off - 0x100) / 4) v
  else if 0x1000 ≤ off && off % 16 == 4 then d.flumePush ((off - 0x1000) / 16) v
  else d.plainWrite a v

/-- A write into the AQUA block. -/
def Dev.writeAqua (d : Dev) (a off : Nat) (v : Word) : Dev :=
  if off == 0x100 then d.pctrlWrite 0 v
  else if off == 0x140 then d.pctrlWrite 1 v
  else if off == 0x108 then d.ampWrite 0 v
  else if off == 0x148 then d.ampWrite 1 v
  else d.plainWrite a v

/-- A write into the QSP block. -/
def Dev.writeQsp (d : Dev) (a off : Nat) (v : Word) : Dev :=
  if off == 0x18 then d.qspGoWrite 0 v
  else if off == 0x58 then d.qspGoWrite 1 v
  else if off == 0x80 then d.mapWrite v
  else d.plainWrite a v

/-- A write into the CORES block. -/
def Dev.writeCores (d : Dev) (a off : Nat) (v : Word) : Dev :=
  if off == 0x18 then d.plDataWrite v
  else if off == 0x24 then (if v.getLsbD 0 then d.plCheck else d)
  else if off == 0x30 then d.dbgSelWrite v
  else if off == 0x34 then d.dbgDataWrite v
  else if 0x100 ≤ off && off % 16 == 0 then d.ctrlWrite ((off - 0x100) / 16) v
  else d.plainWrite a v

/-- A whole-word write of the register at `a` by master `m`: an unlisted offset ignores it (R6), and so does a unit held in STOPPED (R363). -/
def Dev.regWrite (c : Cells) (d : Dev) (m : Master) (a : Nat) (v : Word) : Dev :=
  let off := a % 0x10000
  if (regFields a).isEmpty || !d.blockOpen (unitOf a) then d
  else match unitOf a with
    | 0 => d.writeSys a off v
    | 1 => d.writeWell a off v
    | 2 => d.writeClep m a off v
    | 3 => d.writeSluice m a off v
    | 4 => d.writeRepair m a off v
    | 5 => d.writeWeir c a off v
    | 6 => d.writeRf 0 a off v
    | 7 => d.writeRf 1 a off v
    | 8 => d.writeBasin a off v
    | 10 => d.writeLathe a off v
    | 11 => d.writeChisel a off v
    | 12 => d.writeFlume a off v
    | 13 => d.writeAqua a off v
    | 16 => d.writeQsp a off v
    | 17 => d.writeCores a off v
    | 18 => (d.plainWrite a v).sensePins d.ballLevels
    | _ => d.plainWrite a v

/-! ### Reads -/

/-- What the latest TICK edge left is served before a read that would show it (R21, R24, R321). -/
def Dev.readPrep (d : Dev) (u off : Nat) : Dev :=
  if u == 2 then
    if 0x40 ≤ off && off ≤ 0x5C then d.settleSecond
    else if 0x100 ≤ off && off < 0x300 then d.settleTimer ((off - 0x100) / 0x20)
    else if off == 0 || (0x80 ≤ off && off ≤ 0x90) then (List.range 64).foldl Dev.settleMon d
    else d
  else if u == 3 && off ≤ 4 then d.settleHeart
  else if u == 5 then d.settleBucket
  else d

/-- A read that captures, takes or advances something, or that shows what no command carries: the value and the effect. -/
def Dev.readSpecial (d : Dev) (a u off : Nat) (who : Nat × Nat) : Option (Word × Dev) :=
  if u == 2 && off == 8 then some (Word.ofNat d.tick32, d.tickLoRead)
  else if u == 2 && off == 0x40 then some (d.subsecRead.reg a, d.subsecRead)
  else if u == 11 && off == 0xA0 then some (Word.ofNat d.chisel.wseq, d.wseqRead)
  else if u == 12 && 0x1000 ≤ off && off % 16 == 8 then some (d.flumePop ((off - 0x1000) / 16) who)
  else if u == 17 && off == 0x18 then some d.plDataRead
  else if u == 9 && (off == 0x110 || off == 0x130) && d.rippleOn (if off == 0x110 then 0 else 1) then
    some (setBits (d.reg a) 3 1 d.drawBool.1.toNat, d.drawBool.2)
  else none

/-- A whole-word read of the register at `a`: an unlisted offset reads 0 (R6), and so does a unit held in STOPPED (R363); WO fields read 0
and RC fields are cleared by the access (R8). -/
def Dev.regRead (c : Cells) (d : Dev) (a : Nat) (who : Nat × Nat := noAgent) : Word × Dev :=
  let u := unitOf a
  let off := a % 0x10000
  if (regFields a).isEmpty then (0#32, d)
  else if !d.blockOpen u && a != SYS.ID_at then (0#32, d)
  else
    let d := d.readPrep u off
    match d.readSpecial a u off who with
    | some r => r
    | none =>
      let w := match d.view c u off with
        | some n => Word.ofNat n
        | none => d.reg a
      let rc := accMask a fun x => x == .rc
      (w &&& accMask a fun x => x != .wo, if rc == 0#32 then d else d.setReg a (d.reg a &&& ~~~rc))

/-! ### The address map (R30 to R32) -/

/-- Whether `a` lies in the Cistern array, the option area, the QSP direct map, or the tag alias. -/
def isCist (a : Nat) : Bool := 0x08000000 ≤ a && a ≤ 0x09FFFFFF
def isOpt (a : Nat) : Bool := 0x0A000000 ≤ a && a ≤ 0x0A00FFFF
def isMap (a : Nat) : Bool := 0x0C000000 ≤ a && a ≤ 0x0CFFFFFF
def isAlias (a : Nat) : Bool := 0x40000000 ≤ a && a ≤ 0x405FFFFF

/-- A tagless word, which every master reads as RAW (R225). -/
def rawWord (w : Word) : TWord := ⟨w, .raw⟩

/-- A read of the aligned word at `a` by master `m`. -/
def Dev.busRead (c : Cells) (d : Dev) (m : Master) (a : Nat) : TWord × Dev :=
  if isSram a then d.sramReadBy a m.who
  else if isRegAddr a then (rawWord (d.regRead c a m.who).1, (d.regRead c a m.who).2)
  else if isCist a then
    if d.cistFenced then (rawWord d.drawWord.1, d.drawWord.2) else (rawWord (d.cistLoad a m.who).1, (d.cistLoad a m.who).2)
  else if isOpt a then
    if d.cistFenced then (rawWord d.drawWord.1, d.drawWord.2) else (rawWord (d.optLoadWord c (a - 0x0A000000) m.who).1, (d.optLoadWord c (a - 0x0A000000) m.who).2)
  else if isMap a then (rawWord (d.mapLoad (a - 0x0C000000) []).1, (d.mapLoad (a - 0x0C000000) []).2)
  else if isAlias a then
    let r := d.sramReadBy (a - 0x40000000) m.who
    (rawWord (Word.ofNat r.1.tag.code), r.2)
  else (⟨0#32, .poison⟩, d.busFault m a 0)

/-- A write of the tag-alias word of SRAM address `a` (R32). -/
def Dev.tagWrite (d : Dev) (m : Master) (a : Nat) (v : Word) : Dev :=
  if v.toNat < 16 then d.setTag a (Tag.ofCode v.toNat) m.who else d.busFault m (0x40000000 + a) v.toNat

/-- A write of the aligned word at `a` by master `m`; a destination without tags takes the data only (R280, R365). -/
def Dev.busWrite (c : Cells) (d : Dev) (m : Master) (a : Nat) (w : TWord) : Dev :=
  if isSram a then d.sramWrite a w
  else if isRegAddr a then d.regWrite c m a w.data
  else if isCist a then (if d.cistFenced then d else d.cistStore c a w.data)
  else if isOpt a then (if d.cistFenced then d else d.optStore)
  else if isMap a then d.setF QSP.EVENTS_MAPWRITE
  else if isAlias a then d.tagWrite m (a - 0x40000000) w.data
  else d.busFault m a w.data.toNat

/-- REGISTER_WRITE (R5, R8): an access that is not one aligned 32-bit word is discarded with a bus-access fault. -/
def execRegisterWrite (m : Master) (addr : BitVec 32) (whole : Bool) (value : Word) (s : State) : Host.Outcome State Fault Refusal :=
  onDevC s fun c d =>
    if !d.mastersUp then d
    else if whole && addr.toNat % 4 == 0 then d.busWrite c m addr.toNat ⟨value, .raw⟩
    else d.busFault m addr.toNat value.toNat

/-- TAG_ALIAS_WRITE (R32): `offset` is the SRAM address; outside the alias, or misaligned, the write is discarded with a bus-access fault. -/
def execTagAliasWrite (m : Master) (offset : BitVec 32) (value : Word) (s : State) : Host.Outcome State Fault Refusal :=
  onDev s fun d =>
    let a := 0x40000000 + offset.toNat
    if !d.mastersUp then d
    else if offset.toNat % 4 == 0 && isSram offset.toNat then d.tagWrite m offset.toNat value
    else d.busFault m (a % 2 ^ 32) value.toNat

end Sys2Proof.Machine
end

