-- ==== Sys2Proof/Machine/CoreAlu.lean ====
section
/-! DEFINITION. What the core instructions compute: operand classes and tags, arithmetic, logic, octets and cyclic checks, table look-up
(chapters 10 and 11), as functions of tagged words alone. -/

namespace Sys2Proof.Machine

/-! ### Operand classes (R227 to R231, R233) -/

/-- A trap that an instruction's own checks raise: the cause, TINFO (none where R233 gives the cause none), and for a poison consumption
DETAIL1 of its record (R416). -/
structure Trp where
  cause : Nat
  info : Option Nat
  addr : Nat
  deriving DecidableEq, Repr

/-- An operand: the word, the tag it behaves as (R230), its number in TINFO (R250), and the address it was read from, 0 for a register. -/
structure Opd where
  w : TWord
  eff : Tag
  idx : Nat
  addr : Nat
  deriving DecidableEq, Repr

/-- The class numbers of TINFO (R233). -/
def clsARITH : Nat := 1
def clsLOGIC : Nat := 2
def clsEQ : Nat := 3
def clsORD : Nat := 4
def clsCOND : Nat := 5
def clsADDR : Nat := 6
def clsCODE : Nat := 7
def clsCOUNT : Nat := 8

/-- What a USER tag behaves as in mode `m` (R230). -/
def userAs (m : Nat) (t : Tag) : Tag :=
  match m with
  | 1 => .nat
  | 2 => .int
  | 3 => .raw
  | _ => t

/-- The tag a word behaves as, where `um` holds the three modes of CORES.CFG for the kind (R230). -/
def effTag (um : Nat) (t : Tag) : Tag :=
  match t with
  | .user1 => userAs (um % 4) t
  | .user2 => userAs (um / 4 % 4) t
  | .user3 => userAs (um / 16 % 4) t
  | _ => t

/-- The trap of an operand that fails its class (R231, R233). -/
def Opd.fail (o : Opd) (cls : Nat) : Trp :=
  if o.w.tag == .poison then ⟨causePOISON, some (o.idx * 16), o.addr⟩
  else ⟨causeTAG, some (o.w.tag.code + o.idx * 16 + cls * 256), 0⟩

/-- The check of an operand against the tags its class accepts. -/
def Opd.accept (o : Opd) (cls : Nat) (ok : List Tag) : Except Trp Unit := if ok.contains o.eff then .ok () else .error (o.fail cls)

/-- The tags that some pair of R228 accepts. -/
def arithTags : List Tag := [.int, .nat, .raw, .fix, .dptr, .cptr, .time]

/-- The tags of class LOGIC (R227). -/
def logicTags : List Tag := [.raw, .bytes, .nat, .int, .bool]

/-- The tags of class ORD (R227). -/
def ordTags : List Tag := [.int, .nat, .fix, .dptr, .cptr, .time, .raw]

/-- Every tag but POISON and VOID. -/
def eqTags : List Tag :=
  [.raw, .int, .nat, .fix, .dptr, .cptr, .time, .ctx, .key, .bytes, .bool, .user1, .user2, .user3]

/-- The tag of a result that has tag `r` by the table: a USER tag stays where both operands carry it (R230). -/
def keepUser (a b : Opd) (r : Tag) : Tag := if a.w.tag == b.w.tag && r == a.eff then a.w.tag else r

/-! ### Arithmetic (R228, R229, R252) -/

/-- The four operations of class ARITH on two operands. -/
inductive Arith where
  | add | sub | mul | div
  deriving DecidableEq, Repr

/-- Whether a tag is an address or an instant, which INT or NAT offsets move. -/
def ptrTag (t : Tag) : Bool := t == .dptr || t == .cptr || t == .time

/-- The result tag of a pair; none where the operation does not admit it (R228). -/
def arithPair (op : Arith) (s t : Tag) : Option Tag :=
  if s == t && (s == .int || s == .nat || s == .raw || s == .fix) then some s
  else match op with
    | .mul => if (s == .fix && t == .int) || (s == .int && t == .fix) then some .fix else none
    | .div => if s == .fix && t == .int then some .fix else none
    | .add =>
      if ptrTag s && (t == .int || t == .nat) then some s
      else if ptrTag t && (s == .int || s == .nat) then some t
      else none
    | .sub =>
      if ptrTag s && (t == .int || t == .nat) then some s
      else if (s == .dptr && t == .dptr) || (s == .time && t == .time) then some .int
      else none

/-- The number a word of a tag stands for: INT and FIX are in two's complement. -/
def numOf (t : Tag) (w : Word) : Int := if t == .int || t == .fix then w.toInt else (w.toNat : Int)

/-- The exact result, before it is narrowed to 32 bits; FIX products and quotients round toward zero.  The difference of two pointers or
instants is the 32-bit difference in two's complement. The divisor is not 0. -/
def arithExact (op : Arith) (s t : Tag) (x y : Word) : Int :=
  match op with
  | .add => numOf s x + numOf t y
  | .sub => if ptrTag s && ptrTag t then (x - y).toInt else numOf s x - numOf t y
  | .mul => if s == .fix && t == .fix then (numOf s x * numOf t y).tdiv 65536 else numOf s x * numOf t y
  | .div => if s == .fix && t == .fix then (numOf s x * 65536).tdiv (numOf t y) else (numOf s x).tdiv (numOf t y)

/-- FLAGS with bit `i` set to `b`. -/
def flagTo (fl : BitVec 10) (i : Nat) (b : Bool) : BitVec 10 :=
  BitVec.ofNat 10 (fl.toNat - (if fl.getLsbD i then 2 ^ i else 0) + (if b then 2 ^ i else 0))

/-- Whether an exact result lies outside the range of INT and FIX. -/
def overflows (r : Tag) (v : Int) : Bool := (r == .int || r == .fix) && !(-2147483648 ≤ v && v < 2147483648)

/-- FLAGS after an ARITH operation with result tag `r` and exact result `v` (R229): C of a NAT or RAW sum or difference, V and VS of INT and
FIX. -/
def arithFlags (setsC : Bool) (r : Tag) (v : Int) (fl : BitVec 10) : BitVec 10 :=
  if r == .nat || r == .raw then (if setsC then flagTo fl flagC (v < 0 || 4294967296 ≤ v) else fl)
  else if r == .int || r == .fix then
    flagTo (flagTo fl flagV (overflows r v)) flagVS (fl.getLsbD flagVS || overflows r v)
  else fl

/-- The narrowed result with its FLAGS, or the OVF trap where SCFG.OVF_TRAP asks for it (R229). -/
def arithDone (ovfTrap setsC : Bool) (r out : Tag) (v : Int) (fl : BitVec 10) : Except Trp (TWord × BitVec 10) :=
  if overflows r v && ovfTrap then .error ⟨causeOVF, none, 0⟩ else .ok (⟨BitVec.ofInt 32 v, out⟩, arithFlags setsC r v fl)

/-- Whether an operation sets C for NAT and RAW (R252). -/
def Arith.setsC : Arith → Bool
  | .add => true
  | .sub => true
  | .mul => false
  | .div => false

/-- An ARITH operation on two operands (R228); `ovfTrap` is SCFG.OVF_TRAP. -/
def arith2 (ovfTrap : Bool) (op : Arith) (a b : Opd) (fl : BitVec 10) : Except Trp (TWord × BitVec 10) := do
  a.accept clsARITH arithTags
  b.accept clsARITH arithTags
  match arithPair op a.eff b.eff with
  | none => .error (b.fail clsARITH)
  | some r =>
    if op == .div && b.w.data == 0#32 then .error ⟨causeDIV0, none, 0⟩
    else arithDone ovfTrap op.setsC r (keepUser a b r) (arithExact op a.eff b.eff a.w.data b.w.data) fl

/-! ### Logic, shifts and comparisons (R227, R252, R253) -/

/-- A BOOL result. -/
def boolWord (b : Bool) : TWord := ⟨if b then 1#32 else 0#32, .bool⟩

/-- The result tag of two LOGIC operands (R227). -/
def logicTag (a b : Opd) : Tag := if a.eff == b.eff then keepUser a b a.eff else .raw

/-- A bitwise operation. -/
def logic2 (f : Word → Word → Word) (a b : Opd) : Except Trp TWord := do
  a.accept clsLOGIC logicTags
  b.accept clsLOGIC logicTags
  .ok ⟨f a.w.data b.w.data, logicTag a b⟩

/-- The result tag of a shift: a's, RAW for BOOL. -/
def shiftTag (a : Opd) : Tag := if a.eff == .bool then .raw else a.w.tag

/-- A shift by a COUNT operand. -/
def shift2 (f : Word → Nat → Word) (a b : Opd) : Except Trp TWord := do
  a.accept clsLOGIC logicTags
  b.accept clsCOUNT [.nat]
  .ok ⟨f a.w.data b.w.data.toNat, shiftTag a⟩

/-- Shift left, shift right, shift right with sign fill, and rotate left of a word (R252). -/
def shlW (x : Word) (n : Nat) : Word := if 32 ≤ n then 0#32 else x <<< n
def shrW (x : Word) (n : Nat) : Word := if 32 ≤ n then 0#32 else x >>> n
def sarW (x : Word) (n : Nat) : Word := x.sshiftRight (min n 31)
def rolW (x : Word) (n : Nat) : Word := x.rotateLeft (n % 32)

/-- EQ: operands of different tags compare unequal (R227). -/
def eq2 (a b : Opd) : Except Trp TWord := do
  a.accept clsEQ eqTags
  b.accept clsEQ eqTags
  .ok (boolWord (a.eff == b.eff && a.w.data == b.w.data))

/-- a < b for two words of one tag (R228): signed for INT and FIX, modular for TIME, else unsigned. -/
def ordLt (t : Tag) (x y : Word) : Bool :=
  if t == .int || t == .fix then decide (x.toInt < y.toInt)
  else if t == .time then decide (2147483648 ≤ (x - y).toNat)
  else decide (x.toNat < y.toNat)

/-- LT and LE (R228). -/
def ord2 (orEqual : Bool) (a b : Opd) : Except Trp TWord := do
  a.accept clsORD ordTags
  b.accept clsORD ordTags
  if a.eff == b.eff then .ok (boolWord (ordLt a.eff a.w.data b.w.data || (orEqual && a.w.data == b.w.data)))
  else .error (b.fail clsORD)

/-- The tags that NEG and ISZ accept. -/
def negTags : List Tag := [.int, .nat, .raw, .fix]

/-- NEG (R253). -/
def neg1 (ovfTrap : Bool) (a : Opd) (fl : BitVec 10) : Except Trp (TWord × BitVec 10) := do
  a.accept clsARITH negTags
  arithDone ovfTrap true a.eff a.w.tag (0 - numOf a.eff a.w.data) fl

/-- The number of ones of a word, modulo 2. -/
def parityOf (x : Word) : Word := if oddParity 32 x.toNat then 1#32 else 0#32

/-- Each octet with its bits reversed. -/
def brevb (x : Word) : Word :=
  (x.extractLsb' 24 8).reverse ++ (x.extractLsb' 16 8).reverse ++ (x.extractLsb' 8 8).reverse ++ (x.extractLsb' 0 8).reverse

/-- A LOGIC operation on one operand, whose result keeps the operand's tag (R253). -/
def logic1 (f : Word → Word) (a : Opd) : Except Trp TWord := do
  a.accept clsLOGIC logicTags
  .ok ⟨f a.w.data, a.w.tag⟩

/-- NOT: the logical inverse of a BOOL, the bitwise inverse of the others. -/
def not1 (a : Opd) : Except Trp TWord :=
  if a.eff == .bool then .ok (boolWord (a.w.data == 0#32)) else logic1 (fun x => ~~~x) a

/-- The check of a context handle (R240): tagged CTX, bits 31:13 zero. -/
def Opd.handle (o : Opd) : Except Trp Nat :=
  if o.eff == .ctx && o.w.data.toNat < 8192 then .ok (0x00400000 + 0x80 * o.w.data.toNat) else .error (o.fail clsADDR)

/-! ### Immediates (R254, R255) -/

/-- The width of an extension word of the kind (R247). -/
def xBits (bowl : Bool) : Nat := if bowl then 14 else 12

/-- X sign-extended, as a word. -/
def sextX (bowl : Bool) (x : Nat) : Word := BitVec.ofInt 32 (signed (xBits bowl) x)

/-- IMM (R254): the value and tag that `b` selects. -/
def immWord (bowl : Bool) (b x : Nat) : TWord :=
  match b with
  | 0 => ⟨sextX bowl x, .int⟩
  | 1 => ⟨Word.ofNat x, .nat⟩
  | 2 => ⟨Word.ofNat x, .raw⟩
  | 3 => ⟨Word.ofNat x, .bool⟩
  | 4 => ⟨sextX bowl x * 65536#32, .fix⟩
  | 5 => ⟨Word.ofNat x, .cptr⟩
  | 6 => ⟨Word.ofNat x, .time⟩
  | _ => ⟨Word.ofNat x, .key⟩

/-- ADDI (R255): the immediate's tag follows a's; FIX and other tags trap. -/
def addi (ovfTrap bowl : Bool) (a : Opd) (x : Nat) (fl : BitVec 10) : Except Trp (TWord × BitVec 10) := do
  a.accept clsARITH [.int, .nat, .raw, .dptr, .cptr, .time]
  let t : Tag := if a.eff == .nat then .nat else if a.eff == .raw then .raw else .int
  arith2 ovfTrap .add a ⟨⟨sextX bowl x, t⟩, t, 1, 0⟩ fl

/-- The immediate of EQI and LTI, extended by a's tag. -/
def cmpImm (bowl : Bool) (t : Tag) (x : Nat) : Word :=
  if t == .int then sextX bowl x else if t == .fix then sextX bowl x * 65536#32 else Word.ofNat x

/-- EQI. -/
def eqi (bowl : Bool) (a : Opd) (x : Nat) : Except Trp TWord := do
  a.accept clsEQ eqTags
  .ok (boolWord (a.w.data == cmpImm bowl a.eff x))

/-- LTI. -/
def lti (bowl : Bool) (a : Opd) (x : Nat) : Except Trp TWord := do
  a.accept clsORD ordTags
  .ok (boolWord (ordLt a.eff a.w.data (cmpImm bowl a.eff x)))

/-- ANDI, ORI and XORI: the immediate takes a's tag. -/
def logicI (bowl : Bool) (f : Word → Word → Word) (a : Opd) (x : Nat) : Except Trp TWord := logic1 (fun y => f y (sextX bowl x)) a

/-- SHLI and SHRI: X[4:0] counts. -/
def shiftI (f : Word → Nat → Word) (a : Opd) (x : Nat) : Except Trp TWord := do
  a.accept clsLOGIC logicTags
  .ok ⟨f a.w.data (x % 32), shiftTag a⟩

/-! ### Octets and cyclic checks (R260, R261) -/

/-- Octet `n` of a word. -/
def octetAt (x : Word) (n : Nat) : Nat := x.toNat / 2 ^ (8 * n) % 256

/-- EXTB. -/
def extb (n : Nat) (b : Opd) : Except Trp TWord := do
  b.accept clsLOGIC logicTags
  .ok ⟨Word.ofNat (octetAt b.w.data n), b.w.tag⟩

/-- INSB. -/
def insb (n : Nat) (a b : Opd) : Except Trp TWord := logic2 (fun x y => setBits x (8 * n) 8 y.toNat) a b

/-- One bit of the reflected step. -/
def crcRBit (p a : Word) (d : Bool) : Word := if a.getLsbD 0 != d then (a >>> 1) ^^^ p else a >>> 1

/-- One bit of the left-aligned step. -/
def crcLBit (p a : Word) (d : Bool) : Word := if a.getLsbD 31 != d then (a <<< 1) ^^^ p else a <<< 1

/-- The step over one octet: reflected from bit 0 to bit 7, left-aligned from bit 7 to bit 0 (R261). -/
def crcStep (left : Bool) (p a : Word) (o : Nat) : Word :=
  (List.range 8).foldl (fun a i => if left then crcLBit p a (o.testBit (7 - i)) else crcRBit p a (o.testBit i)) a

/-- The step over the four octets of a word, octet 0 first. -/
def crcStepW (left : Bool) (p a b : Word) : Word := (List.range 4).foldl (fun a i => crcStep left p a (octetAt b i)) a

/-- A cyclic-check step of a over b, one octet or four, with polynomial register `p`, which is checked but does not enter the tag rule. -/
def crcOp (left whole : Bool) (a b p : Opd) : Except Trp TWord := do
  a.accept clsLOGIC logicTags
  b.accept clsLOGIC logicTags
  p.accept clsLOGIC logicTags
  .ok ⟨if whole then crcStepW left p.w.data a.w.data b.w.data else crcStep left p.w.data a.w.data (octetAt b.w.data 0), logicTag a b⟩

/-! ### Table look-up (R262) -/

/-- The interval of `x` in a table with first grid point `x0`, step 2^`s` and `n` points: the index of the first y word, and the offset
within the interval, none at a clamped end. -/
def tliFind (x x0 : Word) (s n : Nat) : Nat × Option Nat :=
  let d := x.toInt - x0.toInt
  if d < 0 then (0, none)
  else
    let i := d.toNat / 2 ^ s
    if n - 1 ≤ i then (n - 1, none) else (i, some (d.toNat % 2 ^ s))

/-- The interpolated value, rounded toward zero. -/
def tliBetween (y y' : Word) (f s : Nat) : Word := BitVec.ofInt 32 (y.toInt + ((y'.toInt - y.toInt) * (f : Int)).tdiv ((2 ^ s : Nat) : Int))

end Sys2Proof.Machine
end

