-- ==== Sys2Proof/Machine/CoreCode.lean ====
section
/-! DEFINITION. The encodings of the core instructions: fields of a first word and its extension words to an instruction, or none for an
ILLEGAL one (R247 to R260). -/

namespace Sys2Proof.Machine

/-- The operations of the fixed instructions. -/
inductive COp where
  | mov | add | sub | mul | div | and | or | xor | shl | shr | sar | rol | eq | lt | le | tagof
  | neg | not | isz | isneg | par | brev | brevb | hdptr
  | retag | ld | st | lit | imm | addi | andi | ori | xori | shli | shri | eqi | lti
  | extb | insb | crcr | crcrw | crcl | crclw
  | get | getn | put | pute | free | pkts
  | ldp | stp | addm | crcrm | crclm | tli
  | bt | bf | bfs | bfc | jmp | call | trap
  | jr | callr | ret | tret | wait | nop | repr | repir
  | crd | cwr | repk | feat
  deriving DecidableEq, Repr

/-- A decoded instruction: the operation, the register fields a and b (or the number that stands in b), the extension word X or the
literal V, the octet number or Flume number `n`, whether the Flume number is in register b, and the polynomial register. -/
structure Insn where
  op : COp
  a : Nat
  b : Nat
  x : Nat
  n : Nat
  viaReg : Bool
  p : Nat
  deriving DecidableEq, Repr

/-- The words of a page-0 instruction (R251). -/
def opWords (op : Nat) : Nat := if op == 0x14 then 4 else if 0x11 ≤ op && op ≤ 0x1A then 2 else 1

/-- OP 0x00 to 0x0E and 0x10 (R252). -/
def regOp (op : Nat) : Option COp :=
  match op with
  | 0x00 => some .mov
  | 0x01 => some .add
  | 0x02 => some .sub
  | 0x03 => some .mul
  | 0x04 => some .div
  | 0x05 => some .and
  | 0x06 => some .or
  | 0x07 => some .xor
  | 0x08 => some .shl
  | 0x09 => some .shr
  | 0x0A => some .sar
  | 0x0B => some .rol
  | 0x0C => some .eq
  | 0x0D => some .lt
  | 0x0E => some .le
  | 0x10 => some .tagof
  | _ => none

/-- The sub-operations of UN (R253). -/
def unOp (b : Nat) : Option COp :=
  match b with
  | 0 => some .neg
  | 1 => some .not
  | 2 => some .isz
  | 3 => some .isneg
  | 4 => some .par
  | 5 => some .brev
  | 6 => some .brevb
  | 7 => some .hdptr
  | _ => none

/-- The sub-operations of OPI (R255). -/
def opiOp (b : Nat) : Option COp :=
  match b with
  | 0 => some .addi
  | 1 => some .andi
  | 2 => some .ori
  | 3 => some .xori
  | 4 => some .shli
  | 5 => some .shri
  | 6 => some .eqi
  | 7 => some .lti
  | _ => none

/-- BIT (R260): EXTB and INSB use the octet number and no polynomial register, the cyclic-check steps the reverse. -/
def bitInsn (bowl : Bool) (a b x : Nat) : Option Insn :=
  let n := x / 16 % 4
  let p := x / 64 % 16
  if 1024 ≤ x || (!bowl && 8 ≤ p) then none
  else match x % 16 with
    | 0 => if p == 0 then some ⟨.extb, a, b, x, n, false, 0⟩ else none
    | 1 => if p == 0 then some ⟨.insb, a, b, x, n, false, 0⟩ else none
    | 2 => if n == 0 then some ⟨.crcr, a, b, x, 0, false, p⟩ else none
    | 3 => if n == 0 then some ⟨.crcrw, a, b, x, 0, false, p⟩ else none
    | 4 => if n == 0 then some ⟨.crcl, a, b, x, 0, false, p⟩ else none
    | 5 => if n == 0 then some ⟨.crclw, a, b, x, 0, false, p⟩ else none
    | _ => none

/-- FL (R256): the Flume number is X[9:4], or register b. -/
def flInsn (a b x : Nat) : Option Insn :=
  let via := x / 8 % 2 == 1
  let n := x / 16 % 64
  if 1024 ≤ x || (via && n != 0) || (!via && b != 0) then none
  else match x % 8 with
    | 0 => some ⟨.get, a, b, x, n, via, 0⟩
    | 1 => some ⟨.getn, a, b, x, n, via, 0⟩
    | 2 => some ⟨.put, a, b, x, n, via, 0⟩
    | 3 => some ⟨.pute, a, b, x, n, via, 0⟩
    | 4 => some ⟨.free, a, b, x, n, via, 0⟩
    | 5 => some ⟨.pkts, a, b, x, n, via, 0⟩
    | _ => none

/-- MEMP (R257): only the cyclic-check forms name a polynomial register; TLI is the Bowl's. -/
def mempInsn (bowl : Bool) (a b x : Nat) : Option Insn :=
  let p := x / 64 % 16
  if 1024 ≤ x || x / 16 % 4 != 0 || (!bowl && 8 ≤ p) then none
  else match x % 16 with
    | 0 => if p == 0 then some ⟨.ldp, a, b, x, 0, false, 0⟩ else none
    | 1 => if p == 0 then some ⟨.stp, a, b, x, 0, false, 0⟩ else none
    | 2 => if p == 0 then some ⟨.addm, a, b, x, 0, false, 0⟩ else none
    | 3 => some ⟨.crcrm, a, b, x, 0, false, p⟩
    | 4 => some ⟨.crclm, a, b, x, 0, false, p⟩
    | 5 => if p == 0 && bowl then some ⟨.tli, a, b, x, 0, false, 0⟩ else none
    | _ => none

/-- BR (R258): the FLAGS bit of BFS and BFC is 0 to 7 on the Spindle and 0 to 9 on the Bowl; a is 0 where no register is read. -/
def brInsn (bowl : Bool) (a b x : Nat) : Option Insn :=
  let bitOk := decide (a ≤ (if bowl then 9 else 7))
  match b with
  | 0 => some ⟨.bt, a, 0, x, 0, false, 0⟩
  | 1 => some ⟨.bf, a, 0, x, 0, false, 0⟩
  | 2 => if bitOk then some ⟨.bfs, a, 0, x, 0, false, 0⟩ else none
  | 3 => if bitOk then some ⟨.bfc, a, 0, x, 0, false, 0⟩ else none
  | 4 => if a == 0 then some ⟨.jmp, 0, 0, x, 0, false, 0⟩ else none
  | 5 => if a == 0 then some ⟨.call, 0, 0, x, 0, false, 0⟩ else none
  | 6 => if a == 0 then some ⟨.trap, 0, 0, x, 0, false, 0⟩ else none
  | _ => none

/-- CTL (R259). -/
def ctlInsn (a b : Nat) : Option Insn :=
  match b with
  | 0 => some ⟨.jr, a, 0, 0, 0, false, 0⟩
  | 1 => some ⟨.callr, a, 0, 0, 0, false, 0⟩
  | 2 => if a == 0 then some ⟨.ret, 0, 0, 0, 0, false, 0⟩ else none
  | 3 => if a ≤ 1 then some ⟨.tret, a, 0, 0, 0, false, 0⟩ else none
  | 4 => if a == 0 then some ⟨.wait, 0, 0, 0, 0, false, 0⟩ else none
  | 5 => if a == 0 then some ⟨.nop, 0, 0, 0, 0, false, 0⟩ else none
  | 6 => some ⟨.repr, a, 0, 0, 0, false, 0⟩
  | 7 => some ⟨.repir, a, 0, 0, 0, false, 0⟩
  | _ => none

/-- IMM (R254): a BOOL is 0 or 1, a KEY has ten bits. -/
def immInsn (a b x : Nat) : Option Insn :=
  if 8 ≤ b || (b == 3 && 2 ≤ x) || (b == 7 && 1024 ≤ x) then none else some ⟨.imm, a, b, x, 0, false, 0⟩

/-- REPK (R259): the upper bit of a tells REPI, the rest of a and b the count. -/
def repkInsn (bowl : Bool) (a b : Nat) : Insn :=
  if bowl then ⟨.repk, a / 8, 0, a % 8 * 16 + b, 0, false, 0⟩ else ⟨.repk, a / 4, 0, a % 4 * 8 + b, 0, false, 0⟩

/-- A page-0 instruction by its fields: none where it is ILLEGAL (R248).  `x` is the extension word, `v` the literal words together. -/
def decodePage0 (bowl : Bool) (op a b x v : Nat) : Option Insn :=
  match op with
  | 0x0F => (unOp b).map fun o => ⟨o, a, b, 0, 0, false, 0⟩
  | 0x11 => if x < 16 then some ⟨.retag, a, b, x, 0, false, 0⟩ else none
  | 0x12 => some ⟨.ld, a, b, x, 0, false, 0⟩
  | 0x13 => some ⟨.st, a, b, x, 0, false, 0⟩
  | 0x14 => if b == 0 && v < 2 ^ 36 then some ⟨.lit, a, 0, v, 0, false, 0⟩ else none
  | 0x15 => immInsn a b x
  | 0x16 => (opiOp b).map fun o => ⟨o, a, 0, x, 0, false, 0⟩
  | 0x17 => bitInsn bowl a b x
  | 0x18 => flInsn a b x
  | 0x19 => mempInsn bowl a b x
  | 0x1A => brInsn bowl a b x
  | 0x1B => ctlInsn a b
  | 0x1C => if b < 8 then some ⟨.crd, a, b, 0, 0, false, 0⟩ else none
  | 0x1D => if b < 8 then some ⟨.cwr, a, b, 0, 0, false, 0⟩ else none
  | 0x1E => some (repkInsn bowl a b)
  | 0x1F => if b < 8 then some ⟨.feat, a, b, 0, 0, false, 0⟩ else none
  | _ => (regOp op).map fun o => ⟨o, a, b, 0, 0, false, 0⟩

/-- The first word of an instruction as a number (R247). -/
def firstWord (bowl : Bool) (op a b : Nat) : Nat := if bowl then op * 256 + a * 16 + b else op * 64 + a * 8 + b

/-- Whether the fields fit the words of the kind: registers, and an extension word of 12 or 14 bits. -/
def fieldsFit (bowl : Bool) (op a b x : Nat) : Bool :=
  decide (op < 64) && (if bowl then decide (a < 16) && decide (b < 16) && decide (x < 16384) else decide (a < 8) && decide (b < 8) && decide (x < 4096))

/-- Whether an instruction may be repeated (R237, R259). -/
def COp.repeatable : COp → Bool
  | .bt => false
  | .bf => false
  | .bfs => false
  | .bfc => false
  | .jmp => false
  | .call => false
  | .trap => false
  | .jr => false
  | .callr => false
  | .ret => false
  | .tret => false
  | .wait => false
  | .repr => false
  | .repir => false
  | .repk => false
  | _ => true

end Sys2Proof.Machine
end

