-- ==== Sys2Proof/Machine/CoreRun.lean ====
section
/-! DEFINITION. How a core slot runs an instruction: operand fetch and checks, memory and Flume operations, control flow, repeat prefixes,
traps, and custom instructions (chapters 10 and 11). -/

namespace Sys2Proof.Machine

/-- What an instruction runs under: the lock cells, the slot, the USER modes of its kind (R230) and SCFG.OVF_TRAP. -/
structure CEnv where
  c : Cells
  k : Nat
  um : Nat
  ovf : Bool

/-- The device as an instruction's reads leave it, with the addresses read, oldest first. -/
structure Mem where
  dev : Dev
  seen : List Nat

/-- What an instruction does at its end: results into registers a and b, FLAGS, one store, one Flume write, one Flume entry removed. -/
structure Eff where
  ra : Option TWord
  rb : Option TWord
  flags : BitVec 10
  store : Option (Nat × TWord)
  put : Option (Nat × FWord)
  take : Option Nat

/-- An instruction that only changes FLAGS. -/
def Eff.none (fl : BitVec 10) : Eff := ⟨.none, .none, fl, .none, .none, .none⟩

/-- The environment of slot `k`. -/
def coreEnv (c : Cells) (d : Dev) (k : Nat) : CEnv :=
  ⟨c, k, d.rd (if isBowl k then CORES.CFG_USER_B else CORES.CFG_USER_S), d.on (CORES.SCFG_OVF_TRAP k)⟩

/-- A word as operand `idx`. -/
def CEnv.opd (e : CEnv) (w : TWord) (idx addr : Nat) : Opd := ⟨w, effTag e.um w.tag, idx, addr⟩

/-! ### Operations on registers alone -/

/-- A result that leaves FLAGS as they are. -/
def keepFlags (fl : BitVec 10) (r : Except Trp TWord) : Except Trp (TWord × BitVec 10) := r.map fun w => (w, fl)

/-- The operations that read registers and immediates only (R252 to R255, R260). -/
def dataOp (bowl ovf : Bool) (i : Insn) (a b p : Opd) (fl : BitVec 10) : Except Trp (TWord × BitVec 10) :=
  match i.op with
  | .mov => .ok (b.w, fl)
  | .add => arith2 ovf .add a b fl
  | .sub => arith2 ovf .sub a b fl
  | .mul => arith2 ovf .mul a b fl
  | .div => arith2 ovf .div a b fl
  | .and => keepFlags fl (logic2 (fun x y => x &&& y) a b)
  | .or => keepFlags fl (logic2 (fun x y => x ||| y) a b)
  | .xor => keepFlags fl (logic2 (fun x y => x ^^^ y) a b)
  | .shl => keepFlags fl (shift2 shlW a b)
  | .shr => keepFlags fl (shift2 shrW a b)
  | .sar => keepFlags fl (shift2 sarW a b)
  | .rol => keepFlags fl (shift2 rolW a b)
  | .eq => keepFlags fl (eq2 a b)
  | .lt => keepFlags fl (ord2 false a b)
  | .le => keepFlags fl (ord2 true a b)
  | .tagof => .ok (⟨Word.ofNat b.w.tag.code, .nat⟩, fl)
  | .neg => neg1 ovf a fl
  | .not => keepFlags fl (not1 a)
  | .isz => keepFlags fl ((a.accept clsARITH negTags).map fun _ => boolWord (a.w.data == 0#32))
  | .isneg => keepFlags fl ((a.accept clsARITH [.int, .fix]).map fun _ => boolWord (a.w.data.getLsbD 31))
  | .par => keepFlags fl (logic1 parityOf a)
  | .brev => keepFlags fl (logic1 BitVec.reverse a)
  | .brevb => keepFlags fl (logic1 brevb a)
  | .hdptr => keepFlags fl (a.handle.map fun n => ⟨Word.ofNat n, .dptr⟩)
  | .retag => .ok (⟨b.w.data, Tag.ofCode i.x⟩, fl)
  | .lit => .ok (⟨Word.ofNat (i.x / 16), Tag.ofCode i.x⟩, fl)
  | .imm => .ok (immWord bowl i.b i.x, fl)
  | .addi => addi ovf bowl a i.x fl
  | .andi => keepFlags fl (logicI bowl (fun x y => x &&& y) a i.x)
  | .ori => keepFlags fl (logicI bowl (fun x y => x ||| y) a i.x)
  | .xori => keepFlags fl (logicI bowl (fun x y => x ^^^ y) a i.x)
  | .shli => keepFlags fl (shiftI shlW a i.x)
  | .shri => keepFlags fl (shiftI shrW a i.x)
  | .eqi => keepFlags fl (eqi bowl a i.x)
  | .lti => keepFlags fl (lti bowl a i.x)
  | .extb => keepFlags fl (extb i.n b)
  | .insb => keepFlags fl (insb i.n a b)
  | .crcr => keepFlags fl (crcOp false false a b p)
  | .crcrw => keepFlags fl (crcOp false true a b p)
  | .crcl => keepFlags fl (crcOp true false a b p)
  | .crclw => keepFlags fl (crcOp true true a b p)
  | _ => .ok (a.w, fl)

/-! ### Memory and Flume operations (R225, R239, R240, R254, R256, R257, R262) -/

/-- The effective address of LD and ST (R254). -/
def effAddr (bowl : Bool) (b : Opd) (x : Nat) : Except Trp Nat :=
  let off := sextX bowl x * 4#32
  if b.eff == .dptr then
    if b.w.data.toNat % 4 == 0 then .ok (b.w.data + off).toNat else .error ⟨causeALIGN, some (b.w.data + off).toNat, 0⟩
  else do
    let base ← b.handle
    if off.toNat ≤ 0x7C then .ok (base + off.toNat) else .error ⟨causeALIGN, some off.toNat, 0⟩

/-- The address of a post-increment operation (R257): b must be a DPTR. -/
def postAddr (b : Opd) : Except Trp Nat :=
  if b.eff == .dptr then
    if b.w.data.toNat % 4 == 0 then .ok b.w.data.toNat else .error ⟨causeALIGN, some b.w.data.toNat, 0⟩
  else .error (b.fail clsADDR)

/-- The table address of TLI (R262): anything but an aligned DPTR traps ALIGN, a POISON or VOID word as in every checking class. -/
def tableAddr (b : Opd) : Except Trp Nat :=
  if b.eff == .dptr && b.w.data.toNat % 4 == 0 then .ok b.w.data.toNat
  else if b.w.tag.bad then .error (b.fail clsADDR)
  else .error ⟨causeALIGN, some b.w.data.toNat, 0⟩

/-- The advanced pointer of a post-increment operation. -/
def advanced (b : Opd) : TWord := ⟨b.w.data + 4#32, .dptr⟩

/-- A load of the word at `a`. -/
def memRead (e : CEnv) (m : Mem) (a : Nat) : TWord × Mem :=
  ((m.dev.busRead e.c (masterOfSlot e.k) a).1, ⟨(m.dev.busRead e.c (masterOfSlot e.k) a).2, m.seen ++ [a]⟩)

/-- A store: one of POISON or VOID to a destination without tags traps (R225). -/
def storeAt (a : Nat) (w : TWord) : Except Trp (Nat × TWord) :=
  if isSram a || !w.tag.bad then .ok (a, w)
  else if w.tag == .poison then .error ⟨causePOISON, some 0, a⟩
  else .error ⟨causeTAG, some w.tag.code, 0⟩

/-- The Flume of an FL instruction (R239): X[9:4], or a NAT of 0 to 63 in register b. -/
def flumeNo (i : Insn) (b : Opd) : Except Trp Nat :=
  if !i.viaReg then .ok i.n
  else do
    b.accept clsCOUNT [.nat]
    if b.w.data.toNat < 64 then .ok b.w.data.toNat else .error ⟨causeTAG, some (Tag.nat.code + b.idx * 16 + clsCOUNT * 256), 0⟩

/-- The word that a table look-up reads must carry `t` (R262). -/
def tableWord (o : Opd) (t : Tag) : Except Trp Unit := o.accept clsARITH [t]

/-- TLI (R262). -/
def tliOp (e : CEnv) (m : Mem) (a b : Opd) (fl : BitVec 10) : Except Trp Eff × Mem :=
  match (do a.accept clsARITH [.fix]; tableAddr b : Except Trp Nat) with
  | .error t => (.error t, m)
  | .ok t =>
    let at_ (i : Nat) : Nat := (t + 4 * i) % 2 ^ 32
    let (w0, m) := memRead e m (at_ 0)
    match tableWord (e.opd w0 2 (at_ 0)) .fix with
    | .error tr => (.error tr, m)
    | .ok _ =>
      let (w1, m) := memRead e m (at_ 1)
      match tableWord (e.opd w1 2 (at_ 1)) .nat with
      | .error tr => (.error tr, m)
      | .ok _ =>
        let s := bitsOf w1.data 0 5
        let n := bitsOf w1.data 16 11
        if n < 2 || 1024 < n || w1.data.toNat != s + n * 2 ^ 16 then (.error ⟨causeCOUNT, some w1.data.toNat, 0⟩, m)
        else
          let hit := tliFind a.w.data w0.data s n
          let (y, m) := memRead e m (at_ (2 + hit.1))
          match tableWord (e.opd y 2 (at_ (2 + hit.1))) .fix with
          | .error tr => (.error tr, m)
          | .ok _ =>
            match hit.2 with
            | none => (.ok { Eff.none fl with ra := some ⟨y.data, .fix⟩ }, m)
            | some f =>
              let (y', m) := memRead e m (at_ (3 + hit.1))
              match tableWord (e.opd y' 2 (at_ (3 + hit.1))) .fix with
              | .error tr => (.error tr, m)
              | .ok _ => (.ok { Eff.none fl with ra := some ⟨tliBetween y.data y'.data f s, .fix⟩ }, m)

/-- A load that lands in a. -/
def loadOp (e : CEnv) (m : Mem) (addr : Except Trp Nat) (rb : Option TWord) (fl : BitVec 10) : Except Trp Eff × Mem :=
  match addr with
  | .error t => (.error t, m)
  | .ok ea => (.ok { Eff.none fl with ra := some (memRead e m ea).1, rb := rb }, (memRead e m ea).2)

/-- A post-increment operation that combines a with the memory word, operand 2. -/
def combineOp (e : CEnv) (m : Mem) (pre : Except Trp Unit) (b : Opd) (f : Opd → Except Trp (TWord × BitVec 10)) : Except Trp Eff × Mem :=
  match (do pre; postAddr b : Except Trp Nat) with
  | .error t => (.error t, m)
  | .ok ea =>
    let (w, m) := memRead e m ea
    match f (e.opd w 2 ea) with
    | .error t => (.error t, m)
    | .ok (r, fl) => (.ok { Eff.none fl with ra := some r, rb := some (advanced b) }, m)

/-- A store of a. -/
def storeOp (m : Mem) (addr : Except Trp Nat) (w : TWord) (rb : Option TWord) (fl : BitVec 10) : Except Trp Eff × Mem :=
  match (do let ea ← addr; storeAt ea w : Except Trp (Nat × TWord)) with
  | .error t => (.error t, m)
  | .ok st => (.ok { Eff.none fl with rb := rb, store := some st }, m)

/-- GETN (R239): the head entry, or EMPTY. -/
def getnEff (d : Dev) (k n : Nat) (fl : BitVec 10) : Eff :=
  match (if d.flumeOn n then d.flumeTake n (masterOfSlot k).who else none) with
  | none => Eff.none (flagTo fl flagEMPTY true)
  | some (r, _) =>
    { Eff.none (flagTo (flagTo (flagTo fl flagE r.isEnd) flagG r.gap) flagEMPTY false) with ra := some ⟨r.data, r.tag⟩, take := some n }

/-- PUT and PUTE (R239): D tells whether the word is dropped or discarded. -/
def putEff (d : Dev) (n : Nat) (w : TWord) (isEnd : Bool) (fl : BitVec 10) : Eff :=
  { Eff.none (flagTo fl flagD (d.flumeDrops n 1)) with put := some (n, ⟨w.data, w.tag, isEnd⟩) }

/-- A Flume operation that does not stall. -/
def flumeOp (m : Mem) (n : Except Trp Nat) (f : Nat → Eff) : Except Trp Eff × Mem :=
  match n with
  | .error t => (.error t, m)
  | .ok n => (.ok (f n), m)

/-- The operations that neither stall nor change the flow of control, on operands a, b and p. -/
def opRun (e : CEnv) (m : Mem) (i : Insn) (a b p : Opd) (fl : BitVec 10) : Except Trp Eff × Mem :=
  let bowl := isBowl e.k
  match i.op with
  | .ld => loadOp e m (effAddr bowl b i.x) none fl
  | .st => storeOp m (effAddr bowl b i.x) a.w none fl
  | .ldp => loadOp e m (postAddr b) (some (advanced b)) fl
  | .stp => storeOp m (postAddr b) a.w (some (advanced b)) fl
  | .addm => combineOp e m (a.accept clsARITH arithTags) b fun w => arith2 e.ovf .add a w fl
  | .crcrm => combineOp e m (a.accept clsLOGIC logicTags) b fun w => keepFlags fl (crcOp false true a w p)
  | .crclm => combineOp e m (a.accept clsLOGIC logicTags) b fun w => keepFlags fl (crcOp true true a w p)
  | .tli => tliOp e m a b fl
  | .getn => flumeOp m (flumeNo i b) fun n => getnEff m.dev e.k n fl
  | .put => flumeOp m (flumeNo i b) fun n => putEff m.dev n a.w false fl
  | .pute => flumeOp m (flumeNo i b) fun n => putEff m.dev n a.w true fl
  | .free => flumeOp m (flumeNo i b) fun n => { Eff.none fl with ra := some ⟨Word.ofNat (m.dev.flumeFree n), .nat⟩ }
  | .pkts => flumeOp m (flumeNo i b) fun n => { Eff.none fl with ra := some ⟨Word.ofNat (m.dev.flume n).pkts, .nat⟩ }
  | _ =>
    match dataOp bowl e.ovf i a b p fl with
    | .error t => (.error t, m)
    | .ok (w, fl) => (.ok { Eff.none fl with ra := some w }, m)

/-! ### Traps and the end of an instruction -/

/-- The device after an abandoned instruction's reads (R227): a read of a register block, the Cistern or the QSP map leaves no effect; the
faults of SRAM words and of unmapped addresses stay. -/
def Dev.replayReads (d : Dev) (e : CEnv) (seen : List Nat) : Dev :=
  seen.foldl (fun d a =>
    if isRegAddr a || isCist a || isOpt a || isMap a then d else (d.busRead e.c (masterOfSlot e.k) a).2) d

/-- A trap of slot `k`, whose skip continues at `next`; a poison consumption is recorded (R231, R416). -/
def Dev.coreTrap (d : Dev) (k : Nat) (t : Trp) (next : Nat) : Dev :=
  let d := if t.cause == causePOISON then d.fault (Dev.slotFault k 0x05 (d.slot k).pc t.addr) else d
  match t.info with
  | some n => d.trap k t.cause (Word.ofNat n) next
  | none => (d.drawWord.2).trap k t.cause d.drawWord.1 next

/-- A jump of slot `k`. -/
def Dev.jumpTo (d : Dev) (k t : Nat) : Dev :=
  let v := d.slot k
  (d.setSlot k { v with pc := t, stepping := false, passBrk := false }).setSlotState k (if v.stepping then 0 else 1)

/-- Writes a result into a register. -/
def putReg (regs : Store TWord) (n : Nat) (w : Option TWord) : Store TWord :=
  match w with
  | none => regs
  | some w => Store.put voidWord regs n w

/-- Performs the Flume write, the removal and the store of an effect. -/
def Dev.effOut (d : Dev) (e : CEnv) (f : Eff) : Dev :=
  let d := match f.put with
    | some (n, w) => d.flumeWrite n [w]
    | none => d
  let d := match f.take with
    | some n => match d.flumeTake n (masterOfSlot e.k).who with
      | some (_, d') => d'
      | none => d
    | none => d
  match f.store with
  | some (a, w) => d.busWrite e.c (masterOfSlot e.k) a w
  | none => d

/-- The end of a plain instruction: the pointer's advance first, so that a data result in the same register stays (R250). -/
def Dev.endPlain (d : Dev) (e : CEnv) (i : Insn) (len : Nat) (f : Eff) : Dev :=
  ((d.modSlot e.k fun v => { v with regs := putReg (putReg v.regs i.b f.rb) i.a f.ra, flags := f.flags }).instrDone e.k len).effOut e f

/-- A plain instruction: checks, then its effect, or its trap. -/
def Dev.runPlain (d : Dev) (e : CEnv) (i : Insn) (len : Nat) : Dev :=
  let v := d.slot e.k
  let o (n idx : Nat) : Opd := e.opd (Store.get voidWord v.regs n) idx 0
  match opRun e ⟨d, []⟩ i (o i.a 0) (o i.b 1) (o i.p 3) v.flags with
  | (.error t, m) => (d.replayReads e m.seen).coreTrap e.k t (v.pc + len)
  | (.ok f, m) => m.dev.endPlain e i len f

/-- GET (R185, R239): the head entry, a stall, or the trap of a disabled Flume. -/
def Dev.runGet (d : Dev) (e : CEnv) (i : Insn) (len : Nat) : Dev :=
  let v := d.slot e.k
  match flumeNo i (e.opd (Store.get voidWord v.regs i.b) 1 0) with
  | .error t => d.coreTrap e.k t (v.pc + len)
  | .ok n =>
    if !d.flumeOn n then d.coreTrap e.k ⟨causeFLUME, some (n + 256), 0⟩ (v.pc + len)
    else match d.flumeTake n (masterOfSlot e.k).who with
      | some (r, d) => d.deliverRead e.k i.a len r
      | none =>
        let f := d.flume n
        ((d.setFlume n { f with stalled := f.stalled ++ [⟨e.k, d.tick, false⟩] }).modSlot e.k fun v =>
          { v with pend := some ⟨n, i.a, len⟩ }).setSlotState e.k 2

/-! ### Control flow (R235, R236, R258, R259) -/

/-- A relative target: the address after X, plus X sign-extended, modulo the program memory. -/
def relTarget (k next x : Nat) : Nat := ((((next : Nat) : Int) + signed (xBits (isBowl k)) x) % ((progSize k : Nat) : Int)).toNat

/-- A branch that is taken or not. -/
def Dev.branch (d : Dev) (k len x : Nat) (taken : Bool) : Dev :=
  let next := (d.slot k).pc + len
  if taken then d.jumpTo k (relTarget k next x)
  else if progSize k ≤ next then d.coreTrap k ⟨causeCODE, some next, 0⟩ next
  else d.instrDone k len

/-- A branch on register a. -/
def Dev.branchOn (d : Dev) (e : CEnv) (len x : Nat) (a : Opd) (want : Word) : Dev :=
  match a.accept clsCOND [.bool] with
  | .error t => d.coreTrap e.k t ((d.slot e.k).pc + len)
  | .ok _ => d.branch e.k len x (a.w.data == want)

/-- A call (R236): pushes the address after it and jumps. -/
def Dev.callTo (d : Dev) (k len t : Nat) : Dev :=
  let v := d.slot k
  let size := stackSize k
  let next := v.pc + len
  if v.depth == size && d.on (CORES.SCFG_RSTK_TRAP k) then d.coreTrap k ⟨causeRSTK, some 0, 0⟩ next
  else
    (d.modSlot k fun v =>
      let v' := { v with stack := Store.put 0 v.stack v.sp (next % progSize k), sp := (v.sp + 1) % size, depth := min (v.depth + 1) size }
      if v.depth == size then v'.setFlag flagRSOV true else v').jumpTo k t

/-- A return (R236). -/
def Dev.returnFrom (d : Dev) (k : Nat) : Dev :=
  let v := d.slot k
  let size := stackSize k
  if v.depth == 0 && d.on (CORES.SCFG_RSTK_TRAP k) then d.coreTrap k ⟨causeRSTK, some 1, 0⟩ (v.pc + 1)
  else
    let t := Store.get 0 v.stack (v.stackPos size 0)
    (d.modSlot k fun v =>
      let v' := { v with sp := (v.sp + size - 1) % size, depth := v.depth - 1 }
      if v.depth == 0 then v'.setFlag flagRSOV true else v').jumpTo k t

/-- The check of a CODE operand (R233). -/
def codeTarget (k : Nat) (a : Opd) : Except Trp Nat := do
  a.accept clsCODE [.cptr]
  if a.w.data.toNat < progSize k then .ok a.w.data.toNat else .error ⟨causeCODE, some a.w.data.toNat, 0⟩

/-- The words of the instruction of slot `k` whose first word carries `op`; a custom one's by its decode entry (R263). -/
def Dev.coreLen (d : Dev) (k op : Nat) : Nat :=
  if op < 0x20 then opWords op
  else if isBowl k then
    match d.unitOfSlot k with
    | some u => if (d.decodeEntry u (op - 0x20)).getLsbD 31 && (d.decodeEntry u (op - 0x20)).getLsbD 10 then 2 else 1
    | none => 1
  else 1

/-- The program word at `a` of the unit that serves slot `k`. -/
def Dev.fetchWord (d : Dev) (k a : Nat) : Nat :=
  match d.unitOfSlot k with
  | some u => (d.progWord u a).toNat
  | none => 0

/-- The OP field of a first word. -/
def opField (k w : Nat) : Nat := if isBowl k then w / 256 else w / 64

/-- The address after the instruction that trapped (R235): kept from the trap, or found at TPC where firmware has written it. -/
def Dev.skipTarget (d : Dev) (k : Nat) : Nat :=
  let v := d.slot k
  let after (a : Nat) : Nat := a + d.coreLen k (opField k (d.fetchWord k a))
  match v.trapNext with
  | some n => n
  | none => if v.flag flagINREP then after (after v.tpc) else after v.tpc

/-- TRET (R235); RCOUNT goes to the retried repeat prefix and reads 0 afterwards (the example of R235; log entry 42). -/
def Dev.trapReturn (d : Dev) (k : Nat) (skip : Bool) : Dev :=
  let v := d.slot k
  if skip then
    let t := d.skipTarget k
    if progSize k ≤ t then d.coreTrap k ⟨causeCODE, some t, 0⟩ (v.pc + 1)
    else (d.modSlot k fun v => (v.setFlag flagINTRAP false).setFlag flagINREP false).jumpTo k t
  else
    (d.modSlot k fun v =>
      let v' := if v.flag flagINREP then { v with resume := some v.rcount.toNat, rcount := 0#32 } else v
      (v'.setFlag flagINTRAP false).setFlag flagINREP false).jumpTo k v.tpc

/-- WAIT (R241, R243): a KICKED latch is cleared and the slot goes on; else it parks, and LB.0 requests the state that WELL.MODE names. -/
def Dev.waitAt (d : Dev) (k : Nat) : Dev :=
  let stepping := (d.slot k).stepping
  if d.on (CORES.STATUS_KICKED k) then (d.wr (CORES.STATUS_KICKED k) 0).instrDone k 1
  else
    let d := (d.modSlot k fun v => { v with resumeDue := false }).instrDone k 1
    if stepping then d
    else
      let d := d.setSlotState k 3
      let d := if d.dueToResume k then d.setLevel 12 true else d
      if k == 8 && modeState (d.rd WELL.MODE_TARGET) != 0 && d.power == 0 then
        { d.wr WELL.STATUS_STATE 7 with well := { d.well with waitFrom := d.tick } }
      else d

/-- A repeat prefix (R237); `own` is its own count, in place of which a retried one takes RCOUNT (R235). -/
def Dev.prefixAt (d : Dev) (k : Nat) (isRepI : Bool) (own : Nat) : Dev :=
  let v := d.slot k
  let next := v.pc + 1
  let d := d.modSlot k fun v => { v with resume := none }
  if v.resume.isNone && (if isRepI then 65535 else 64) < own then d.coreTrap k ⟨causeCOUNT, some own, 0⟩ next
  else
    (d.modSlot k fun v' => { v' with rep := some ⟨v.resume.getD own, v.pc, isRepI, true⟩ }).jumpTo k next

/-- FEAT.n (R238). -/
def Dev.feature (d : Dev) (k n : Nat) : Word :=
  let bowl := isBowl k
  let kind := if bowl then 1 else 0
  match n with
  | 0 => Word.ofNat (0x7740 * 2 ^ 16 + d.rd SYS.ID_STEP * 2 ^ 8 + (if bowl then k - 8 else k) * 16 + kind)
  | 1 => if bowl then 0x00401010#32 else 0x00100808#32
  | 2 => if bowl then 0x7F#32 else 0x1F#32
  | 3 => if bowl then 0x00200400#32 else 0#32
  | 4 => d.reg (CORES.IMGVER_at kind)
  | 5 => d.reg (CORES.IFVER_at kind)
  | 6 => d.reg (CORES.FEATU_at kind)
  | _ => Word.ofNat (min (d.slot k).rotations 0xFFFFFFFF)

/-- CWR (R259): class CODE for TVEC, TPC and RSTOP, LOGIC for the others. -/
def Dev.runCwr (d : Dev) (e : CEnv) (a : Opd) (n : Nat) : Dev :=
  let chk := if n == 1 || n == 2 || n == 7 then a.accept clsCODE [.cptr] else a.accept clsLOGIC logicTags
  match chk with
  | .error t => d.coreTrap e.k t ((d.slot e.k).pc + 1)
  | .ok _ => (d.ctrlRegWrite e.k n a.w.data).instrDone e.k 1

/-- The instructions that run on past themselves, whose next sequential address must lie in program memory (R233). -/
def Dev.runFalling (d : Dev) (e : CEnv) (i : Insn) (len : Nat) : Dev :=
  let v := d.slot e.k
  let a := e.opd (Store.get voidWord v.regs i.a) 0 0
  match i.op with
  | .get => d.runGet e i len
  | .wait => d.waitAt e.k
  | .nop => d.instrDone e.k 1
  | .repk => d.prefixAt e.k (i.a == 1) i.x
  | .repr =>
    match a.accept clsCOUNT [.nat] with
    | .error t => d.coreTrap e.k t (v.pc + 1)
    | .ok _ => d.prefixAt e.k false a.w.data.toNat
  | .repir =>
    match a.accept clsCOUNT [.nat] with
    | .error t => d.coreTrap e.k t (v.pc + 1)
    | .ok _ => d.prefixAt e.k true a.w.data.toNat
  | .crd => d.endPlain e i 1 { Eff.none v.flags with ra := some (d.ctrlReg e.k i.b) }
  | .cwr => d.runCwr e a i.b
  | .feat => d.endPlain e i 1 { Eff.none v.flags with ra := some ⟨d.feature e.k i.b, .nat⟩ }
  | _ => d.runPlain e i len

/-- Whether a slot goes on to the next sequential address after this instruction or iteration, and that lies beyond program memory. -/
def Dev.fallsOff (d : Dev) (k len : Nat) : Bool :=
  let v := d.slot k
  decide (progSize k ≤ v.pc + len) && (match v.rep with
    | some r => decide (r.left ≤ 1)
    | none => true)

/-- An instruction of slot `k`, its words fetched and legal. -/
def Dev.runInsn (d : Dev) (e : CEnv) (i : Insn) (len : Nat) : Dev :=
  let k := e.k
  let v := d.slot k
  let next := v.pc + len
  let a := e.opd (Store.get voidWord v.regs i.a) 0 0
  match i.op with
  | .bt => d.branchOn e len i.x a 1#32
  | .bf => d.branchOn e len i.x a 0#32
  | .bfs => d.branch k len i.x (v.flag i.a)
  | .bfc => d.branch k len i.x (!v.flag i.a)
  | .jmp => d.jumpTo k (relTarget k next i.x)
  | .call => d.callTo k len (relTarget k next i.x)
  | .trap => d.coreTrap k ⟨causeSOFT, some i.x, 0⟩ next
  | .jr =>
    match codeTarget k a with
    | .error t => d.coreTrap k t next
    | .ok t => d.jumpTo k t
  | .callr =>
    match codeTarget k a with
    | .error t => d.coreTrap k t next
    | .ok t => d.callTo k len t
  | .ret => d.returnFrom k
  | .tret => d.trapReturn k (i.a == 1)
  | _ => if d.fallsOff k len then d.coreTrap k ⟨causeCODE, some next, 0⟩ next else d.runFalling e i len

/-! ### Custom instructions (R263 to R265) -/

/-- The tags that a class of a decode-table entry accepts for one register; none for a class that never fails. -/
def clsTags (cls : Nat) : Option (List Tag) :=
  match cls with
  | 1 => some arithTags
  | 2 => some logicTags
  | 3 => some eqTags
  | 4 => some ordTags
  | 5 => some [.bool]
  | 6 => some [.dptr, .ctx]
  | 7 => some [.cptr]
  | 8 => some [.nat]
  | _ => none

/-- The check of an operand register against CLS_A or CLS_B. -/
def clsCheck (o : Opd) (cls : Nat) : Except Trp Unit :=
  match clsTags cls with
  | some ok => o.accept cls ok
  | none => .ok ()

/-- Whether a decode-table entry is valid (R263). -/
def entryValid (w : Word) : Bool :=
  w.getLsbD 31 && bitsOf w 20 11 == 0 && (bitsOf w 12 4 ≤ 9 || bitsOf w 12 4 == 15) && (bitsOf w 16 4 ≤ 9 || bitsOf w 16 4 == 15)

/-- A custom instruction in progress: the buffered registers, temporaries at 16 to 19, buffered FLAGS, the reads made, whether a GETN has
run, the Flume it reserved, and the microcode addresses fetched. -/
structure MState where
  regs : Store TWord
  flags : BitVec 10
  mem : Mem
  got : Bool
  resv : Option Nat
  pcs : List Nat

/-- What a micro-operation leads to. -/
inductive MOut where
  | next (st : MState) (pc : Nat)
  | done (st : MState) (f : Eff)
  | trap (t : Trp) (m : Mem) (pcs : List Nat)
  | spoilt (pc : Nat) (m : Mem) (pcs : List Nat)

/-- The fields of a microcode word (R264). -/
def uField (w : BitVec 48) (lo width : Nat) : Nat := w.toNat / 2 ^ lo % 2 ^ width

/-- The register a selector names, 20 and 21 being the instruction's fields. -/
def uSel (ia ib sel : Nat) : Nat := if sel == 20 then ia else if sel == 21 then ib else sel

/-- The instruction that a micro-operation carries out; none where R265 makes it ILLEGAL. -/
def uInsn (w : BitVec 48) (ia ib : Nat) (hasX : Bool) : Option Insn :=
  let op := uField w 42 6
  let sub := uField w 38 4
  let dst := uField w 33 5
  let src := uField w 28 5
  let named := op == 0x0F || op == 0x15 || op == 0x16
  if 22 ≤ dst || 24 ≤ src || (src == 23 && !hasX) || op == 0x14 || 0x1A ≤ op then none
  else
    match decodePage0 true op (uSel ia ib dst) (if named then sub else uSel ia ib src) (uField w 12 16 % 16384) 0 with
    | none => none
    | some i => if i.op == .get || (op == 0x19 && i.op != .tli && 22 ≤ src) then none else some i

/-- The source operand of a micro-operation (R264): a register, IMM, or the instruction's X. -/
def uSource (regs : Store TWord) (w : BitVec 48) (ia ib ix : Nat) : TWord :=
  let sub := uField w 38 4
  let src := uField w 28 5
  if src == 22 then ⟨BitVec.ofInt 32 (signed 16 (uField w 12 16)), Tag.ofCode sub⟩
  else if src == 23 then ⟨sextX true ix, Tag.ofCode sub⟩
  else Store.get voidWord regs (uSel ia ib src)

/-- A trap's TINFO with the microcode address of the micro-operation (R265). -/
def Trp.inUcode (t : Trp) (pc : Nat) : Trp :=
  if t.cause == causeTAG || t.cause == causePOISON then { t with info := t.info.map fun n => n + pc * 4096 } else t

/-- One micro-operation at microcode address `pc`; `bad` is the ILLEGAL trap of the instruction. -/
def microStep (e : CEnv) (w : BitVec 48) (ia ib : Nat) (ix : Option Nat) (bad : Trp) (st : MState) (pc : Nat) : MOut :=
  let seq := uField w 10 2
  match uInsn w ia ib ix.isSome with
  | none => .trap bad st.mem st.pcs
  | some i =>
    if (i.op == .getn && st.got) || ((i.op == .st || i.op == .stp || i.op == .put || i.op == .pute) && seq != 1) then .trap bad st.mem st.pcs
    else
      let o (x : TWord) (idx : Nat) : Opd := e.opd x idx 0
      let r := opRun e st.mem i (o (Store.get voidWord st.regs i.a) 0) (o (uSource st.regs w ia ib (ix.getD 0)) 1)
        (o (Store.get voidWord st.regs i.p) 3) st.flags
      match r with
      | (.error t, m) => .trap (t.inUcode pc) m st.pcs
      | (.ok f, m) =>
        let st' : MState :=
          { st with regs := putReg (putReg st.regs (uSel ia ib (uField w 28 5)) f.rb) i.a f.ra, flags := f.flags, mem := m,
                    got := st.got || i.op == .getn, resv := if i.op == .getn then f.take else st.resv }
        let nxt := (pc + 1) % 1024
        match seq with
        | 0 => .next st' nxt
        | 1 => .done st' f
        | 2 => .next st' (if f.ra == some ⟨1#32, .bool⟩ then uField w 0 10 else nxt)
        | _ => .next st' (uField w 0 10)

/-- A custom instruction's micro-operations, at most `fuel` of them; `store` gives a microcode word, none one that cannot be corrected. -/
def microRun (e : CEnv) (store : Nat → Option (BitVec 48)) (ia ib : Nat) (ix : Option Nat) (bad : Trp) : Nat → MState → Nat → MOut
  | 0, st, _ => .trap bad st.mem st.pcs
  | fuel + 1, st, pc =>
    match store pc with
    | none => .spoilt pc st.mem st.pcs
    | some w =>
      match microStep e w ia ib ix bad { st with pcs := pc :: st.pcs } pc with
      | .next st pc => microRun e store ia ib ix bad fuel st pc
      | out => out

/-- The microcode word at `a` of unit `u` as a fetch finds it (R265). -/
def Dev.ucodeFetch (d : Dev) (u a : Nat) : Option (BitVec 48) := if d.codeBad (ucodeKey u a) then none else some (d.ucodeWord u a)

/-- The microcode words fetched at `pcs` are left corrected (R272). -/
def Dev.ucodeFixed (d : Dev) (u : Nat) (pcs : List Nat) : Dev := pcs.foldl (fun d a => d.codeFix (ucodeKey u a)) d

/-- A fetch of slot `k` at unit `u` cannot be corrected (R233, R265): the FETCH trap with the instruction's address, and the fault `code`,
0x0B for program memory with the unit or 0x0C for microcode with the microcode address. -/
def Dev.fetchTrap (d : Dev) (k code detail next : Nat) : Dev :=
  (d.fault (Dev.slotFault k code (d.slot k).pc detail)).coreTrap k ⟨causeFETCH, some (d.slot k).pc, 0⟩ next

/-- A custom instruction (R263, R265): the entry's checks, then its micro-operations, committed together at END. -/
def Dev.runCustom (d : Dev) (e : CEnv) (u op ia ib x : Nat) : Dev :=
  let v := d.slot e.k
  let w := d.decodeEntry u (op - 0x20)
  let bad : Trp := ⟨causeILLEGAL, some (firstWord true op ia ib), 0⟩
  let len := d.coreLen e.k op
  let next := v.pc + len
  let repOk := match v.rep with
    | some r => r.isRepI && w.getLsbD 11
    | none => true
  let o (n idx : Nat) : Opd := e.opd (Store.get voidWord v.regs n) idx 0
  if !entryValid w || !repOk then d.coreTrap e.k bad next
  else if d.fallsOff e.k len then d.coreTrap e.k ⟨causeCODE, some next, 0⟩ next
  else match (do clsCheck (o ia 0) (bitsOf w 12 4); clsCheck (o ib 1) (bitsOf w 16 4) : Except Trp Unit) with
    | .error t => d.coreTrap e.k t next
    | .ok _ =>
      match microRun e (d.ucodeFetch u) ia ib (if w.getLsbD 10 then some x else none) bad 256 ⟨v.regs, v.flags, ⟨d, []⟩, false, none, []⟩
          (bitsOf w 0 10) with
      | .trap t m pcs => ((d.replayReads e m.seen).ucodeFixed u pcs).coreTrap e.k t next
      | .spoilt pc m pcs => ((d.replayReads e m.seen).ucodeFixed u pcs).fetchTrap e.k 0x0C pc next
      | .next st _ => ((d.replayReads e st.mem.seen).ucodeFixed u st.pcs).coreTrap e.k bad next
      | .done st f =>
        (((st.mem.dev.ucodeFixed u st.pcs).modSlot e.k fun v => { v with regs := Store.keep (fun n _ => decide (n < 16)) st.regs, flags := st.flags }).instrDone e.k len).effOut e
          { f with take := st.resv }

/-! ### Issue -/

/-- A breakpoint at the slot's PC halts it there (R243). -/
def Dev.atBreak (d : Dev) (k : Nat) : Bool :=
  let v := d.slot k
  d.on (CORES.SCFG_BRK_EN k) && d.rd (CORES.BRK_ADDR k) == v.pc && !v.passBrk && (match v.rep with
    | some r => r.fresh
    | none => true)

/-- The code words that the fetch of an instruction of slot `k` reads (R249, R263): its own, and a custom one's decode-table entry. -/
def Dev.fetchKeys (d : Dev) (k op : Nat) : List Nat :=
  match d.unitOfSlot k with
  | none => []
  | some u =>
    let pc := (d.slot k).pc
    ((List.range (d.coreLen k op)).filter fun i => decide (pc + i < progSize k)).map (fun i => progKey u (pc + i))
      ++ if isBowl k && 0x20 ≤ op then [decodeKey u (op - 0x20)] else []

/-- A slot that has passed its breakpoint check issues an instruction with fields `op`, `a`, `b`, extension word `x` and literal `v`: the
words are fetched (R249), a repetition of count 0 passes it by (R237), and an ILLEGAL one or one that cannot be repeated traps. -/
def Dev.issueGood (c : Cells) (d : Dev) (k op a b x v : Nat) : Dev :=
  let bowl := isBowl k
  let e := coreEnv c d k
  let len := d.coreLen k op
  let s := d.slot k
  let next := s.pc + len
  let bad : Trp := ⟨causeILLEGAL, some (firstWord bowl op a b), 0⟩
  let skipped := match s.rep with
    | some r => r.left == 0
    | none => false
  if progSize k < next then d.coreTrap k ⟨causeCODE, some (progSize k), 0⟩ next
  else if skipped then
    if progSize k ≤ next then d.coreTrap k ⟨causeCODE, some next, 0⟩ next else d.instrDone k len
  else if 0x20 ≤ op then
    match (if bowl then d.unitOfSlot k else none) with
    | some u => (d.modSlot k fun v => { v with resume := none }).runCustom e u op a b x
    | none => d.coreTrap k bad next
  else match decodePage0 bowl op a b x v with
    | none => d.coreTrap k bad next
    | some i =>
      if s.rep.isSome && !i.op.repeatable then d.coreTrap k bad next
      else
        let d := if i.op == .repk || i.op == .repr || i.op == .repir then d else d.modSlot k fun v => { v with resume := none }
        d.runInsn e i len

/-- The fetch of an instruction (R233, R272): a word that cannot be corrected traps FETCH, the others are left corrected. -/
def Dev.issue (c : Cells) (d : Dev) (k op a b x v : Nat) : Dev :=
  let keys := d.fetchKeys k op
  if keys.any d.codeBad then d.fetchTrap k 0x0B ((d.unitOfSlot k).getD 0 % 16) ((d.slot k).pc + d.coreLen k op)
  else Dev.issueGood c (keys.foldl Dev.codeFix d) k op a b x v

/-- Whether slot `k` executes: in RUN, the device running, with a unit that serves it. -/
def Dev.executing (d : Dev) (k : Nat) : Bool := d.running && d.slotState k == 1 && (d.unitOfSlot k).isSome

/-- The slot stops at its breakpoint, or issues the instruction. -/
def Dev.coreStep (c : Cells) (d : Dev) (k op a b x v : Nat) : Dev :=
  if d.atBreak k then (d.setSlotState k 0).setF (CORES.STATUS_BRKHIT k)
  else Dev.issue c d k op a b x v

/-- Slot `k` runs the instruction with these fields as the one at its PC, once a rotation of it has ended; nothing happens where the slot does not execute, or the fields fit
no word of its kind. -/
def Dev.coreRow (c : Cells) (d : Dev) (k op a b x v : Nat) : Dev :=
  let d := if d.slotState k == 5 then d.endRots else d
  if d.executing k && fieldsFit (isBowl k) op a b x then Dev.coreStep c d k op a b x v else d

/-- The instruction at the slot's PC, fetched from its program memory. -/
def Dev.coreFetch (c : Cells) (d : Dev) (k : Nat) : Dev :=
  let pc := (d.slot k).pc
  let bits := if isBowl k then 14 else 12
  let w (i : Nat) : Nat := d.fetchWord k (pc + i) % 2 ^ bits
  let fw := if isBowl k then 4 else 3
  Dev.coreStep c d k (w 0 / 2 ^ (2 * fw)) (w 0 / 2 ^ fw % 2 ^ fw) (w 0 % 2 ^ fw) (w 1) (w 1 * 2 ^ (2 * bits) + w 2 * 2 ^ bits + w 3)

/-- A stepped slot runs until its step ends (R242), at most `fuel` iterations. -/
def Dev.stepRun (c : Cells) (d : Dev) (k : Nat) : Nat → Dev
  | 0 => d
  | fuel + 1 => if d.executing k && (d.slot k).stepping then (Dev.coreFetch c d k).stepRun c k fuel else d

end Sys2Proof.Machine
end

