-- ==== Sys2Proof/Machine/CoreExec.lean ====
section
/-! DEFINITION. The core instructions as commands: slot `k` runs the instruction at its PC, given with its fields (chapter 11).  The numbers
are OP, the fields a and b, and the extension word of the instruction's encoding (R251 to R260). -/

namespace Sys2Proof

/-- The register of a Flume selector, 0 where the number is immediate (R256). -/
def FlumeSel.regNo : FlumeSel → Nat
  | .imm _ => 0
  | .reg b => b.val

/-- X[9:3] of a Flume selector (R256). -/
def FlumeSel.bits : FlumeSel → Nat
  | .imm n => n.val * 16
  | .reg _ => 8

end Sys2Proof

namespace Sys2Proof.Machine

/-! ### Register and unary operations (R252, R253) -/

/-- MOV: slot k: a takes b with its tag. -/
def execMov (k : Fin 12) (a b : Fin 16) (s : State) : Host.Outcome State Fault Refusal :=
  onDevC s fun c d => Dev.coreRow c d k.val 0x00 a.val b.val 0 0

/-- ADD: slot k: a takes a + b. -/
def execAdd (k : Fin 12) (a b : Fin 16) (s : State) : Host.Outcome State Fault Refusal :=
  onDevC s fun c d => Dev.coreRow c d k.val 0x01 a.val b.val 0 0

/-- SUB: slot k: a takes a - b. -/
def execSub (k : Fin 12) (a b : Fin 16) (s : State) : Host.Outcome State Fault Refusal :=
  onDevC s fun c d => Dev.coreRow c d k.val 0x02 a.val b.val 0 0

/-- MUL: slot k: a takes a x b. -/
def execMul (k : Fin 12) (a b : Fin 16) (s : State) : Host.Outcome State Fault Refusal :=
  onDevC s fun c d => Dev.coreRow c d k.val 0x03 a.val b.val 0 0

/-- DIV: slot k: a takes a / b, rounded toward zero. -/
def execDiv (k : Fin 12) (a b : Fin 16) (s : State) : Host.Outcome State Fault Refusal :=
  onDevC s fun c d => Dev.coreRow c d k.val 0x04 a.val b.val 0 0

/-- AND: slot k: a takes a AND b. -/
def execAnd (k : Fin 12) (a b : Fin 16) (s : State) : Host.Outcome State Fault Refusal :=
  onDevC s fun c d => Dev.coreRow c d k.val 0x05 a.val b.val 0 0

/-- OR: slot k: a takes a OR b. -/
def execOr (k : Fin 12) (a b : Fin 16) (s : State) : Host.Outcome State Fault Refusal :=
  onDevC s fun c d => Dev.coreRow c d k.val 0x06 a.val b.val 0 0

/-- XOR: slot k: a takes a XOR b. -/
def execXor (k : Fin 12) (a b : Fin 16) (s : State) : Host.Outcome State Fault Refusal :=
  onDevC s fun c d => Dev.coreRow c d k.val 0x07 a.val b.val 0 0

/-- SHL: slot k: a is shifted left by b. -/
def execShl (k : Fin 12) (a b : Fin 16) (s : State) : Host.Outcome State Fault Refusal :=
  onDevC s fun c d => Dev.coreRow c d k.val 0x08 a.val b.val 0 0

/-- SHR: slot k: a is shifted right by b with zero fill. -/
def execShr (k : Fin 12) (a b : Fin 16) (s : State) : Host.Outcome State Fault Refusal :=
  onDevC s fun c d => Dev.coreRow c d k.val 0x09 a.val b.val 0 0

/-- SAR: slot k: a is shifted right by b with sign fill. -/
def execSar (k : Fin 12) (a b : Fin 16) (s : State) : Host.Outcome State Fault Refusal :=
  onDevC s fun c d => Dev.coreRow c d k.val 0x0A a.val b.val 0 0

/-- ROL: slot k: a is rotated left by b. -/
def execRol (k : Fin 12) (a b : Fin 16) (s : State) : Host.Outcome State Fault Refusal :=
  onDevC s fun c d => Dev.coreRow c d k.val 0x0B a.val b.val 0 0

/-- EQ: slot k: a takes BOOL of a = b. -/
def execEq (k : Fin 12) (a b : Fin 16) (s : State) : Host.Outcome State Fault Refusal :=
  onDevC s fun c d => Dev.coreRow c d k.val 0x0C a.val b.val 0 0

/-- LT: slot k: a takes BOOL of a < b. -/
def execLt (k : Fin 12) (a b : Fin 16) (s : State) : Host.Outcome State Fault Refusal :=
  onDevC s fun c d => Dev.coreRow c d k.val 0x0D a.val b.val 0 0

/-- LE: slot k: a takes BOOL of a at most b. -/
def execLe (k : Fin 12) (a b : Fin 16) (s : State) : Host.Outcome State Fault Refusal :=
  onDevC s fun c d => Dev.coreRow c d k.val 0x0E a.val b.val 0 0

/-- NEG: slot k: a is negated. -/
def execNeg (k : Fin 12) (a : Fin 16) (s : State) : Host.Outcome State Fault Refusal :=
  onDevC s fun c d => Dev.coreRow c d k.val 0x0F a.val 0 0 0

/-- NOT: slot k: a is inverted. -/
def execNot (k : Fin 12) (a : Fin 16) (s : State) : Host.Outcome State Fault Refusal :=
  onDevC s fun c d => Dev.coreRow c d k.val 0x0F a.val 1 0 0

/-- ISZ: slot k: a takes BOOL of a = 0. -/
def execIsz (k : Fin 12) (a : Fin 16) (s : State) : Host.Outcome State Fault Refusal :=
  onDevC s fun c d => Dev.coreRow c d k.val 0x0F a.val 2 0 0

/-- ISNEG: slot k: a takes BOOL of a < 0. -/
def execIsneg (k : Fin 12) (a : Fin 16) (s : State) : Host.Outcome State Fault Refusal :=
  onDevC s fun c d => Dev.coreRow c d k.val 0x0F a.val 3 0 0

/-- PAR: slot k: a takes the parity of its bits. -/
def execPar (k : Fin 12) (a : Fin 16) (s : State) : Host.Outcome State Fault Refusal :=
  onDevC s fun c d => Dev.coreRow c d k.val 0x0F a.val 4 0 0

/-- BREV: slot k: the bits of a are reversed. -/
def execBrev (k : Fin 12) (a : Fin 16) (s : State) : Host.Outcome State Fault Refusal :=
  onDevC s fun c d => Dev.coreRow c d k.val 0x0F a.val 5 0 0

/-- BREVB: slot k: the bits of each octet of a are reversed. -/
def execBrevb (k : Fin 12) (a : Fin 16) (s : State) : Host.Outcome State Fault Refusal :=
  onDevC s fun c d => Dev.coreRow c d k.val 0x0F a.val 6 0 0

/-- HDPTR: slot k: the context handle in a becomes a DPTR. -/
def execHdptr (k : Fin 12) (a : Fin 16) (s : State) : Host.Outcome State Fault Refusal :=
  onDevC s fun c d => Dev.coreRow c d k.val 0x0F a.val 7 0 0

/-- TAGOF: slot k: a takes the code of the tag of b. -/
def execTagof (k : Fin 12) (a b : Fin 16) (s : State) : Host.Outcome State Fault Refusal :=
  onDevC s fun c d => Dev.coreRow c d k.val 0x10 a.val b.val 0 0

/-! ### Data movement and immediates (R254, R255) -/

/-- RETAG: slot k: a takes the data of b with the tag in x. -/
def execRetag (k : Fin 12) (a b : Fin 16) (x : BitVec 14) (s : State) : Host.Outcome State Fault Refusal :=
  onDevC s fun c d => Dev.coreRow c d k.val 0x11 a.val b.val x.toNat 0

/-- LD: slot k: a takes the word at b + 4x. -/
def execLd (k : Fin 12) (a b : Fin 16) (x : BitVec 14) (s : State) : Host.Outcome State Fault Refusal :=
  onDevC s fun c d => Dev.coreRow c d k.val 0x12 a.val b.val x.toNat 0

/-- ST: slot k: the word at b + 4x takes a. -/
def execSt (k : Fin 12) (a b : Fin 16) (x : BitVec 14) (s : State) : Host.Outcome State Fault Refusal :=
  onDevC s fun c d => Dev.coreRow c d k.val 0x13 a.val b.val x.toNat 0

/-- LIT: slot k: a takes the literal w with a tag. -/
def execLit (k : Fin 12) (a : Fin 16) (tag : BitVec 4) (w : Word) (s : State) : Host.Outcome State Fault Refusal :=
  onDevC s fun c d => Dev.coreRow c d k.val 0x14 a.val 0 0 (w.toNat * 16 + tag.toNat)

/-- IMM: slot k: a takes x with the tag that sel selects. -/
def execImm (k : Fin 12) (a : Fin 16) (sel : Fin 8) (x : BitVec 14) (s : State) : Host.Outcome State Fault Refusal :=
  onDevC s fun c d => Dev.coreRow c d k.val 0x15 a.val sel.val x.toNat 0

/-- ADDI: slot k: a takes a + x. -/
def execAddi (k : Fin 12) (a : Fin 16) (x : BitVec 14) (s : State) : Host.Outcome State Fault Refusal :=
  onDevC s fun c d => Dev.coreRow c d k.val 0x16 a.val 0 x.toNat 0

/-- ANDI: slot k: a takes a AND x. -/
def execAndi (k : Fin 12) (a : Fin 16) (x : BitVec 14) (s : State) : Host.Outcome State Fault Refusal :=
  onDevC s fun c d => Dev.coreRow c d k.val 0x16 a.val 1 x.toNat 0

/-- ORI: slot k: a takes a OR x. -/
def execOri (k : Fin 12) (a : Fin 16) (x : BitVec 14) (s : State) : Host.Outcome State Fault Refusal :=
  onDevC s fun c d => Dev.coreRow c d k.val 0x16 a.val 2 x.toNat 0

/-- XORI: slot k: a takes a XOR x. -/
def execXori (k : Fin 12) (a : Fin 16) (x : BitVec 14) (s : State) : Host.Outcome State Fault Refusal :=
  onDevC s fun c d => Dev.coreRow c d k.val 0x16 a.val 3 x.toNat 0

/-- SHLI: slot k: a is shifted left by x[4:0]. -/
def execShli (k : Fin 12) (a : Fin 16) (x : BitVec 14) (s : State) : Host.Outcome State Fault Refusal :=
  onDevC s fun c d => Dev.coreRow c d k.val 0x16 a.val 4 x.toNat 0

/-- SHRI: slot k: a is shifted right by x[4:0]. -/
def execShri (k : Fin 12) (a : Fin 16) (x : BitVec 14) (s : State) : Host.Outcome State Fault Refusal :=
  onDevC s fun c d => Dev.coreRow c d k.val 0x16 a.val 5 x.toNat 0

/-- EQI: slot k: a takes BOOL of a = x. -/
def execEqi (k : Fin 12) (a : Fin 16) (x : BitVec 14) (s : State) : Host.Outcome State Fault Refusal :=
  onDevC s fun c d => Dev.coreRow c d k.val 0x16 a.val 6 x.toNat 0

/-- LTI: slot k: a takes BOOL of a < x. -/
def execLti (k : Fin 12) (a : Fin 16) (x : BitVec 14) (s : State) : Host.Outcome State Fault Refusal :=
  onDevC s fun c d => Dev.coreRow c d k.val 0x16 a.val 7 x.toNat 0

/-! ### Octets and cyclic checks (R260, R261) -/

/-- EXTB: slot k: a takes octet n of b. -/
def execExtb (k : Fin 12) (a b : Fin 16) (n : Fin 4) (s : State) : Host.Outcome State Fault Refusal :=
  onDevC s fun c d => Dev.coreRow c d k.val 0x17 a.val b.val (n.val * 16) 0

/-- INSB: slot k: octet n of a takes b[7:0]. -/
def execInsb (k : Fin 12) (a b : Fin 16) (n : Fin 4) (s : State) : Host.Outcome State Fault Refusal :=
  onDevC s fun c d => Dev.coreRow c d k.val 0x17 a.val b.val (1 + n.val * 16) 0

/-- CRCR: slot k: the reflected step of a over octet b[7:0], polynomial register p. -/
def execCrcr (k : Fin 12) (a b : Fin 16) (p : Fin 16) (s : State) : Host.Outcome State Fault Refusal :=
  onDevC s fun c d => Dev.coreRow c d k.val 0x17 a.val b.val (2 + p.val * 64) 0

/-- CRCRW: slot k: the reflected step of a over the four octets of b, polynomial register p. -/
def execCrcrw (k : Fin 12) (a b : Fin 16) (p : Fin 16) (s : State) : Host.Outcome State Fault Refusal :=
  onDevC s fun c d => Dev.coreRow c d k.val 0x17 a.val b.val (3 + p.val * 64) 0

/-- CRCL: slot k: the left-aligned step of a over octet b[7:0], polynomial register p. -/
def execCrcl (k : Fin 12) (a b : Fin 16) (p : Fin 16) (s : State) : Host.Outcome State Fault Refusal :=
  onDevC s fun c d => Dev.coreRow c d k.val 0x17 a.val b.val (4 + p.val * 64) 0

/-- CRCLW: slot k: the left-aligned step of a over the four octets of b, polynomial register p. -/
def execCrclw (k : Fin 12) (a b : Fin 16) (p : Fin 16) (s : State) : Host.Outcome State Fault Refusal :=
  onDevC s fun c d => Dev.coreRow c d k.val 0x17 a.val b.val (5 + p.val * 64) 0

/-! ### Flume operations (R256) -/

/-- GET: slot k: a stalling read of Flume f into a. -/
def execGet (k : Fin 12) (a : Fin 16) (f : FlumeSel) (s : State) : Host.Outcome State Fault Refusal :=
  onDevC s fun c d => Dev.coreRow c d k.val 0x18 a.val f.regNo (0 + f.bits) 0

/-- GETN: slot k: a non-stalling read of Flume f into a. -/
def execGetn (k : Fin 12) (a : Fin 16) (f : FlumeSel) (s : State) : Host.Outcome State Fault Refusal :=
  onDevC s fun c d => Dev.coreRow c d k.val 0x18 a.val f.regNo (1 + f.bits) 0

/-- PUT: slot k: a goes to Flume f with END 0. -/
def execPut (k : Fin 12) (a : Fin 16) (f : FlumeSel) (s : State) : Host.Outcome State Fault Refusal :=
  onDevC s fun c d => Dev.coreRow c d k.val 0x18 a.val f.regNo (2 + f.bits) 0

/-- PUTE: slot k: a goes to Flume f with END 1. -/
def execPute (k : Fin 12) (a : Fin 16) (f : FlumeSel) (s : State) : Host.Outcome State Fault Refusal :=
  onDevC s fun c d => Dev.coreRow c d k.val 0x18 a.val f.regNo (3 + f.bits) 0

/-- FREE: slot k: a takes FREE of Flume f. -/
def execFree (k : Fin 12) (a : Fin 16) (f : FlumeSel) (s : State) : Host.Outcome State Fault Refusal :=
  onDevC s fun c d => Dev.coreRow c d k.val 0x18 a.val f.regNo (4 + f.bits) 0

/-- PKTS: slot k: a takes PKTS of Flume f. -/
def execPkts (k : Fin 12) (a : Fin 16) (f : FlumeSel) (s : State) : Host.Outcome State Fault Refusal :=
  onDevC s fun c d => Dev.coreRow c d k.val 0x18 a.val f.regNo (5 + f.bits) 0

/-! ### Post-increment memory operations and table look-up (R257, R262) -/

/-- LDP: slot k: a takes the word at b, and b advances. -/
def execLdp (k : Fin 12) (a b : Fin 16) (s : State) : Host.Outcome State Fault Refusal :=
  onDevC s fun c d => Dev.coreRow c d k.val 0x19 a.val b.val 0 0

/-- STP: slot k: the word at b takes a, and b advances. -/
def execStp (k : Fin 12) (a b : Fin 16) (s : State) : Host.Outcome State Fault Refusal :=
  onDevC s fun c d => Dev.coreRow c d k.val 0x19 a.val b.val 1 0

/-- ADDM: slot k: a takes a + the word at b, and b advances. -/
def execAddm (k : Fin 12) (a b : Fin 16) (s : State) : Host.Outcome State Fault Refusal :=
  onDevC s fun c d => Dev.coreRow c d k.val 0x19 a.val b.val 2 0

/-- CRCRM: slot k: the reflected step of a over the word at b, polynomial register p, and b advances. -/
def execCrcrm (k : Fin 12) (a b : Fin 16) (p : Fin 16) (s : State) : Host.Outcome State Fault Refusal :=
  onDevC s fun c d => Dev.coreRow c d k.val 0x19 a.val b.val (3 + p.val * 64) 0

/-- CRCLM: slot k: the left-aligned step of a over the word at b, polynomial register p, and b advances. -/
def execCrclm (k : Fin 12) (a b : Fin 16) (p : Fin 16) (s : State) : Host.Outcome State Fault Refusal :=
  onDevC s fun c d => Dev.coreRow c d k.val 0x19 a.val b.val (4 + p.val * 64) 0

/-- TLI: slot k: a is looked up in the table at b. -/
def execTli (k : Fin 12) (a b : Fin 16) (s : State) : Host.Outcome State Fault Refusal :=
  onDevC s fun c d => Dev.coreRow c d k.val 0x19 a.val b.val 5 0

/-! ### Flow of control (R258, R259) -/

/-- BT: slot k branches by x if a is BOOL 1. -/
def execBt (k : Fin 12) (a : Fin 16) (x : BitVec 14) (s : State) : Host.Outcome State Fault Refusal :=
  onDevC s fun c d => Dev.coreRow c d k.val 0x1A a.val 0 x.toNat 0

/-- BF: slot k branches by x if a is BOOL 0. -/
def execBf (k : Fin 12) (a : Fin 16) (x : BitVec 14) (s : State) : Host.Outcome State Fault Refusal :=
  onDevC s fun c d => Dev.coreRow c d k.val 0x1A a.val 1 x.toNat 0

/-- BFS: slot k branches by x if the FLAGS bit is 1. -/
def execBfs (k : Fin 12) (bit : Fin 16) (x : BitVec 14) (s : State) : Host.Outcome State Fault Refusal :=
  onDevC s fun c d => Dev.coreRow c d k.val 0x1A bit.val 2 x.toNat 0

/-- BFC: slot k branches by x if the FLAGS bit is 0. -/
def execBfc (k : Fin 12) (bit : Fin 16) (x : BitVec 14) (s : State) : Host.Outcome State Fault Refusal :=
  onDevC s fun c d => Dev.coreRow c d k.val 0x1A bit.val 3 x.toNat 0

/-- JMP: slot k jumps by x. -/
def execJmp (k : Fin 12) (x : BitVec 14) (s : State) : Host.Outcome State Fault Refusal :=
  onDevC s fun c d => Dev.coreRow c d k.val 0x1A 0 4 x.toNat 0

/-- CALL: slot k calls by x. -/
def execCall (k : Fin 12) (x : BitVec 14) (s : State) : Host.Outcome State Fault Refusal :=
  onDevC s fun c d => Dev.coreRow c d k.val 0x1A 0 5 x.toNat 0

/-- TRAP: slot k takes a SOFT trap with TINFO x. -/
def execTrap (k : Fin 12) (x : BitVec 14) (s : State) : Host.Outcome State Fault Refusal :=
  onDevC s fun c d => Dev.coreRow c d k.val 0x1A 0 6 x.toNat 0

/-- JR: slot k jumps to the CPTR in a. -/
def execJr (k : Fin 12) (a : Fin 16) (s : State) : Host.Outcome State Fault Refusal :=
  onDevC s fun c d => Dev.coreRow c d k.val 0x1B a.val 0 0 0

/-- CALLR: slot k calls the CPTR in a. -/
def execCallr (k : Fin 12) (a : Fin 16) (s : State) : Host.Outcome State Fault Refusal :=
  onDevC s fun c d => Dev.coreRow c d k.val 0x1B a.val 1 0 0

/-- RET: slot k returns from a call. -/
def execRet (k : Fin 12) (s : State) : Host.Outcome State Fault Refusal :=
  onDevC s fun c d => Dev.coreRow c d k.val 0x1B 0 2 0 0

/-- TRET: slot k returns from a trap, by retry or by skip. -/
def execTret (k : Fin 12) (skip : Bool) (s : State) : Host.Outcome State Fault Refusal :=
  onDevC s fun c d => Dev.coreRow c d k.val 0x1B skip.toNat 3 0 0

/-- WAIT: slot k parks. -/
def execWait (k : Fin 12) (s : State) : Host.Outcome State Fault Refusal :=
  onDevC s fun c d => Dev.coreRow c d k.val 0x1B 0 4 0 0

/-- NOP: slot k does nothing. -/
def execNop (k : Fin 12) (s : State) : Host.Outcome State Fault Refusal :=
  onDevC s fun c d => Dev.coreRow c d k.val 0x1B 0 5 0 0

/-- REPR: slot k repeats the next instruction under REP by the count in a. -/
def execRepr (k : Fin 12) (a : Fin 16) (s : State) : Host.Outcome State Fault Refusal :=
  onDevC s fun c d => Dev.coreRow c d k.val 0x1B a.val 6 0 0

/-- REPIR: slot k repeats the next instruction under REPI by the count in a. -/
def execRepir (k : Fin 12) (a : Fin 16) (s : State) : Host.Outcome State Fault Refusal :=
  onDevC s fun c d => Dev.coreRow c d k.val 0x1B a.val 7 0 0

/-- CRD: slot k: a takes control register n. -/
def execCrd (k : Fin 12) (a : Fin 16) (n : Fin 8) (s : State) : Host.Outcome State Fault Refusal :=
  onDevC s fun c d => Dev.coreRow c d k.val 0x1C a.val n.val 0 0

/-- CWR: slot k: control register n takes a. -/
def execCwr (k : Fin 12) (a : Fin 16) (n : Fin 8) (s : State) : Host.Outcome State Fault Refusal :=
  onDevC s fun c d => Dev.coreRow c d k.val 0x1D a.val n.val 0 0

/-- REPK: slot k repeats the next instruction under REP or REPI by an immediate count; a Spindle word holds counts up to 31. -/
def execRepk (k : Fin 12) (isRepI : Bool) (count : Fin 128) (s : State) : Host.Outcome State Fault Refusal :=
  onDevC s fun c d =>
    if isBowl k.val then Dev.coreRow c d k.val 0x1E (isRepI.toNat * 8 + count.val / 16) (count.val % 16) 0 0
    else if count.val < 32 then Dev.coreRow c d k.val 0x1E (isRepI.toNat * 4 + count.val / 8) (count.val % 8) 0 0
    else d

/-- FEAT: slot k: a takes FEAT.n. -/
def execFeat (k : Fin 12) (a : Fin 16) (n : Fin 8) (s : State) : Host.Outcome State Fault Refusal :=
  onDevC s fun c d => Dev.coreRow c d k.val 0x1F a.val n.val 0 0

/-! ### Custom instructions and single steps (R263, R265, R242) -/

/-- CUSTOM_INSTRUCTION: Bowl slot LB.k runs page-1 opcode 0x20 + e on registers a and b, with extension word x where its entry takes one. -/
def execCustomInstruction (k : Fin 4) (e : Fin 32) (a b : Fin 16) (x : BitVec 14) (s : State) : Host.Outcome State Fault Refusal :=
  onDevC s fun c d => Dev.coreRow c d (8 + k.val) (0x20 + e.val) a.val b.val x.toNat 0

/-- STEP (R242): a HALTED slot runs one instruction, one iteration under REPI, or the whole repetition under REP, and halts again. -/
def execStep (k : Fin 12) (s : State) : Host.Outcome State Fault Refusal :=
  onBusC s 17 fun c d => (d.ctrlWrite k.val 0x4#32).stepRun c k.val 66

end Sys2Proof.Machine
end

