-- ==== Sys2Proof/Machine/QspExec.lean ====
section
/-! DEFINITION. The commands of the QSP masters and of the QSP slave (chapter 16). -/

namespace Sys2Proof.Machine

/-- QSP_GO: GO[n] is written with GO = 1. -/
def execQspGo (n : Fin 2) (s : State) : Host.Outcome State Fault Refusal := onBus s 16 fun d => d.qspGoWrite n.val 1#32

/-- QSP_ABORT: GO[n] is written with ABORT = 1. -/
def execQspAbort (n : Fin 2) (s : State) : Host.Outcome State Fault Refusal := onBus s 16 fun d => d.qspGoWrite n.val 2#32

/-- QSP_FRAME_DONE (R376). -/
def execQspFrameDone (n : Fin 2) (count : BitVec 13) (data : List Byte) (s : State) : Host.Outcome State Fault Refusal :=
  onDev s fun d =>
    match d.qspFrame n.val with
    | some f => d.qspDone n.val f count.toNat data
    | none => d

/-- MAP_LOAD (R5, R377): the word returns to the master that reads; a misaligned read returns 0 tagged POISON with a bus-access fault. -/
def execMapLoad (x : MapAccess) (data : List Byte) (s : State) : Host.Outcome State Fault Refusal :=
  onDev s fun d =>
    if !d.mastersUp then d
    else if x.a.toNat % 4 != 0 then { d.busFault x.m (0x0C000000 + x.a.toNat) 0 with readOut := ⟨0#32, .poison⟩ }
    else (d.mapLoad x.a.toNat data).2.answer (d.mapLoad x.a.toNat data).1

/-- MAP_EN_CLEAR (R377): QSP.MAP is written with EN = 0 and its other fields as they stand. -/
def execMapEnClear (s : State) : Host.Outcome State Fault Refusal :=
  onBus s 16 fun d => d.mapWrite (d.reg QSP.MAP_at &&& ~~~1#32)

/-- CMD_FIFO_WRITE (R373). -/
def execCmdFifoWrite (w : Word) (s : State) : Host.Outcome State Fault Refusal :=
  onDev s fun d => d.slaveAccess (fun d => d.cmdFifoWrite w) id

/-- The host takes the next word of the reply (R372). -/
def Dev.replyRead (d : Dev) : Dev :=
  ({ d with spout := { d.spout with replyPos := d.spout.replyPos + (if (d.heldCmd 1).any fun h => h.phase == 3 then 4 else 0) } } : Dev).answer
    d.replyFifoWord

/-- Whether the host has taken the whole reply of a RESET_CORE: R_end of its S reset (R367). -/
def Dev.resetReplyRead (d : Dev) : Bool := (d.heldCmd 1).any fun h => h.phase == 3 && h.thenReset && decide (h.reply.length ≤ d.spout.replyPos)

/-- REPLY_FIFO_READ (R372): the word is removed at its last edge. -/
def execReplyFifoRead (s : State) : Host.Outcome State Fault Refusal :=
  onBoth s fun c d =>
    let e := d.slaveAccess Dev.replyRead fun d => d.answer 0#32
    if d.slaveServes && e.resetReplyRead then resetDevice c e 4 else (c, e)

/-- SCTRL_GO (R373): the buffered octets are submitted as one packet. -/
def execSctrlGo (s : State) : Host.Outcome State Fault Refusal :=
  onDev s fun d => d.slaveAccess
    (fun d =>
      if (d.heldCmd 1).isSome then d
      else ({ d with spout := { d.spout with cmdFifo := [], replyPos := 0 } } : Dev).packetArrives 1 d.spout.cmdFifo 0#32) id

/-- The host releases the reply (R373). -/
def Dev.replyAck (d : Dev) : Dev := if (d.heldCmd 1).any fun h => h.phase == 3 then d.freeTransport 1 else d

/-- SCTRL_ACK (R373): the reply is released; one of a RESET_CORE that was not read to its end ends with it (log entry 40). -/
def execSctrlAck (s : State) : Host.Outcome State Fault Refusal :=
  onBoth s fun c d =>
    if d.slaveServes && (d.heldCmd 1).any fun h => h.phase == 3 && h.thenReset then resetDevice c (d.slaveAccess Dev.replyAck id) 4
    else (c, d.slaveAccess Dev.replyAck id)

/-- SCTRL_FLUSH (R373). -/
def execSctrlFlush (s : State) : Host.Outcome State Fault Refusal :=
  onDev s fun d => d.slaveAccess (fun d => { d with spout := { d.spout with cmdFifo := [] } }) id

/-- SELECT_RISE (R372): the transaction ends whole (0), inside the command octet (1), or inside a written (2) or read (3) word; the QSP_S
level ends. -/
def execSelectRise (cut : Fin 4) (s : State) : Host.Outcome State Fault Refusal :=
  onDev s fun d =>
    let d' := d.setLevel 11 false
    if !d.slaveServes then d'
    else match cut.val with
      | 0 => d'
      | 1 => d'.slaveErr 0 1 0
      | _ => d'.slaveErr 1 0 0

end Sys2Proof.Machine
end

