-- ==== Sys2Proof/Machine/SpoutExec.lean ====
section
/-! DEFINITION. The Spout engine: packets and replies, hard opcodes, soft opcodes, and the UART (chapter 16). -/

namespace Sys2Proof.Machine

/-! ### Packets and replies (R360 to R362) -/

/-- The CRC-16 of R360: 0x1021, initial value 0xFFFF, no reflection, no final XOR: the left-aligned form of R261 over sixteen bits. -/
def crc16Octet (c : Nat) (b : Byte) : Nat :=
  (List.range 8).foldl (fun c _ => if c.testBit 15 then (c * 2 % 65536) ^^^ 0x1021 else c * 2 % 65536) (c ^^^ (b.toNat * 256))

/-- CRC-16 over octets. -/
def crc16 (l : List Byte) : Nat := l.foldl crc16Octet 0xFFFF

/-- A multi-octet value, low octet first, at octet `i` of a list. -/
def leAt (l : List Byte) (i n : Nat) : Nat := (List.range n).foldr (fun j x => x * 256 + (l.getD (i + j) 0#8).toNat) 0

/-- OPCODE, SEQ, LEN and the parameters of a held packet. -/
def HeldCmd.opcode (h : HeldCmd) : Nat := leAt h.octets 0 1
def HeldCmd.seq (h : HeldCmd) : Nat := leAt h.octets 1 1
def HeldCmd.len (h : HeldCmd) : Nat := leAt h.octets 2 2
def HeldCmd.params (h : HeldCmd) : List Byte := (h.octets.drop 4).take h.len

/-- A reply (R361). -/
def replyOctets (opcode seq status : Nat) (data : List Byte) : List Byte :=
  let body := [BitVec.ofNat 8 (opcode ||| 0x80), BitVec.ofNat 8 seq, BitVec.ofNat 8 status] ++ octetsLow 2 data.length ++ data
  body ++ octetsLow 2 (crc16 body)

/-- The STATUS codes of R362. -/
def stOK : Nat := 0
def stBADCRC : Nat := 1
def stBADOPCODE : Nat := 2
def stBADLENGTH : Nat := 3
def stBUSY : Nat := 4
def stDENIED : Nat := 5
def stTIMEOUT : Nat := 6
def stNOFIRMWARE : Nat := 7
def stPOISONED : Nat := 8

/-- The transport number of PING and of AGENT_NO (R333, R364): both Aqueduct ports are transport 2. -/
def transportOf (src : Nat) : Nat := if src == 3 then 2 else if src == 4 then 3 else src

/-- The engine as a master, acting for the transport of `src`. -/
def engineMaster (src : Nat) : Master := .spout ⟨transportOf src % 4, Nat.mod_lt _ (by decide)⟩

/-- Whether the engine works: masters can act and the engine is not fenced. -/
def Dev.engineUp (d : Dev) : Bool := d.mastersUp && !d.unitFenced 12 0

/-- A reply on Aqueduct port `p` (R374): the payload in the port's buffer and a descriptor; dropped where the buffer or room is missing. -/
def Dev.replyAqueduct (d : Dev) (p : Nat) (h : HeldCmd) (reply : List Byte) : Dev :=
  let buf := d.rd (SPOUT.AQBUF_ADDR p)
  let fl := d.rd (AQUA.FLUMES_TX_FLUME p)
  let drop := (d.freeTransport h.src).spoutDrop
  if buf == 0 || d.flumeFree fl < 4 then
    if h.thenReset then ((d.modHeld h.src fun h => { h with phase := 4 }).spoutDrop) else drop
  else
    let payload := reply ++ List.replicate (16 - reply.length) 0#8
    let d := d.sramWrites (buf - buf % 4) (bytesWords payload)
    d.flumeWrite fl (group [⟨Word.ofNat (0xFFFF0000 + h.seq), .nat⟩, ⟨Word.ofNat buf, .dptr⟩,
      ⟨Word.ofNat (h.back.toNat % 65536 * 65536 + payload.length * 16 + 4), .raw⟩, ⟨Word.ofNat (d.rd SPOUT.AQ_HOPS), .raw⟩])

/-- A reply over the air (R375): the cookie and the reply as one group on OUT_FLUME, dropped where it lacks room. -/
def Dev.replyAir (d : Dev) (h : HeldCmd) (reply : List Byte) : Dev :=
  let fl := d.rd SPOUT.OTA_OUT_FLUME
  let ws : List TWord := ⟨h.back, .nat⟩ :: bytesWords reply
  let d := if h.thenReset then d.modHeld h.src fun h => { h with phase := 4 } else d.freeTransport h.src
  if d.flumeFree fl < ws.length then d.spoutDrop else d.flumeWrite fl (group ws)

/-- The engine answers the command held by `src` (R361, R369): on the UART and the QSP slave the reply is held until it has been sent or
released.  `h` is the command with its `thenReset` mark. -/
def Dev.answerCmd (d : Dev) (h : HeldCmd) (status : Nat) (data : List Byte) : Dev :=
  let reply := replyOctets h.opcode h.seq status data
  let d := if status == stBADCRC then d.setF SPOUT.EVENTS_BADCRC else if status == stTIMEOUT then d.setF SPOUT.EVENTS_TIMEOUT else d
  let d := d.modHeld h.src fun _ => { h with phase := 3, reply := reply }
  if h.src ≤ 1 then d
  else if h.src ≤ 3 then d.replyAqueduct (h.src - 2) h reply
  else d.replyAir h reply

/-! ### Taking a packet (R363, R369) -/

/-- The hard opcodes that R364 lists. -/
def hardListed (op : Nat) : Bool := [0, 1, 2, 3, 4, 5, 6, 7, 8, 0x10, 0x11, 0x12, 0x13, 0x20, 0x30, 0x3E, 0x3F].contains op

/-- Whether LEN and the counts are as a hard opcode requires (R364). -/
def lengthGood (op : Nat) (p : List Byte) : Bool :=
  let n := p.length
  let count := leAt p 4 2
  if op == 0 || op == 1 then n == 0
  else if op == 2 || op == 3 then n == 6 && decide (1 ≤ count) && decide (count ≤ 256)
  else if op == 4 then n == 6 && decide (1 ≤ count) && decide (count ≤ 204)
  else if op == 5 || op == 6 then decide (10 ≤ n) && decide (n ≤ 1022) && (n - 6) % 4 == 0
  else if op == 7 then n == 12
  else if op == 8 then n == 12 && decide (1 ≤ count)
  else if op == 0x10 then n == 36
  else if op == 0x11 then n == 2 && decide (leAt p 0 2 < 512)
  else if op == 0x12 || op == 0x13 then n == 4
  else if op == 0x20 then n == 1
  else if op == 0x30 || op == 0x3E then n == 2
  else true

/-- The status with which the engine turns a packet away as it takes it; none for one that it goes on with. -/
def HeldCmd.refusal (h : HeldCmd) : Option Nat :=
  if h.octets.length < 4 || 1024 < h.len || h.octets.length < 6 + h.len then some stBADLENGTH
  else if leAt h.octets (4 + h.len) 2 != crc16 (h.octets.take (4 + h.len)) then some stBADCRC
  else if 0x40 ≤ h.opcode then none
  else if !hardListed h.opcode then some stBADOPCODE
  else if !lengthGood h.opcode h.params then some stBADLENGTH
  else none

/-- The command that the engine has taken and not yet carried out, if any: a CIST_PROG that waits for its line is one. -/
def Dev.taken (d : Dev) : Option HeldCmd := (d.spout.held.filter fun h => h.phase == 1 || h.phase == 5).head?

/-- The engine takes the next waiting packet in order of completion. -/
def Dev.engineTake (d : Dev) : Dev :=
  if !d.engineUp || d.taken.isSome then d
  else match (d.spout.held.filter fun h => h.phase == 0).head? with
    | none => d
    | some h =>
      match h.refusal with
      | some st =>
        let d := if st == stBADOPCODE then d else d.inc SPOUT.RX_ERR_COUNT
        d.answerCmd h st []
      | none => d.modHeld h.src fun h => { h with phase := 1 }

/-- ENGINE_TAKE. -/
def execEngineTake (s : State) : Host.Outcome State Fault Refusal := onDev s fun d => d.engineTake

/-- The engine carries out the hard opcode it has taken, if it is `op`: `f` gives the status, the reply data and the device. -/
def Dev.hard (d : Dev) (op : Nat) (f : HeldCmd → Dev → Nat × List Byte × Dev) : Dev :=
  match d.taken with
  | some h =>
    if d.engineUp && h.phase == 1 && h.opcode == op then
      let r := f h (d.inc SPOUT.RX_OK_COUNT)
      r.2.2.answerCmd h r.1 r.2.1
    else d
  | none => d

/-! ### Memory opcodes (R364, R365) -/

/-- A read by the engine; a misaligned one returns 0 as POISON with a bus-access fault (R5). -/
def Dev.engineRead (c : Cells) (d : Dev) (m : Master) (a : Nat) : TWord × Dev :=
  if a % 4 == 0 then d.busRead c m a else (⟨0#32, .poison⟩, d.busFault m a 0)

/-- A write by the engine; a misaligned one is discarded with a bus-access fault (R5). -/
def Dev.engineWrite (c : Cells) (d : Dev) (m : Master) (a : Nat) (w : TWord) : Dev :=
  if a % 4 == 0 then d.busWrite c m a w else d.busFault m a w.data.toNat

/-- Reads of a run of addresses, in order. -/
def Dev.engineReads (c : Cells) (d : Dev) (m : Master) : List Nat → List TWord × Dev
  | [] => ([], d)
  | a :: as =>
    let r := d.engineRead c m a
    let rest := Dev.engineReads c r.2 m as
    (r.1 :: rest.1, rest.2)

/-- `n` consecutive word addresses from `a`. -/
def runFrom (a n : Nat) : List Nat := (List.range n).map fun i => (a + 4 * i) % 2 ^ 32

/-- Writes of words to addresses, in order. -/
def Dev.engineWrites (c : Cells) (d : Dev) (m : Master) (l : List (Nat × TWord)) : Dev := l.foldl (fun d e => d.engineWrite c m e.1 e.2) d

/-- The reply data of words. -/
def wordsData (ws : List TWord) : List Byte := ws.flatMap fun w => octetsOf w.data

/-- OK, or POISONED where a word is POISON. -/
def readStatus (ws : List TWord) : Nat := if ws.any fun w => w.tag == .poison then stPOISONED else stOK

/-- The tag of a tag octet; for one above 15 the spec names no tag and it is free (log entry 3). -/
def Dev.tagOctet (d : Dev) (t : Nat) : Tag × Dev := if t < 16 then (Tag.ofCode t, d) else (Tag.ofCode d.drawWord.1.toNat, d.drawWord.2)

/-- READ and READ_FIX at the given addresses. -/
def Dev.engineReadReply (c : Cells) (d : Dev) (h : HeldCmd) (as : List Nat) : Nat × List Byte × Dev :=
  let r := Dev.engineReads c d (engineMaster h.src) as
  (readStatus r.1, wordsData r.1, r.2)

/-- The word count of WRITE and WRITE_FIX. -/
def writeCount (p : List Byte) : Nat := (p.length - 6) / 4

/-- The words of WRITE and WRITE_FIX with their tag. -/
def writeWords (p : List Byte) (t : Tag) : List TWord := (List.range (writeCount p)).map fun i => ⟨Word.ofNat (leAt p (6 + 4 * i) 4), t⟩

/-- WRITE and WRITE_FIX at the given addresses. -/
def Dev.engineWriteReply (c : Cells) (d : Dev) (h : HeldCmd) (as : List Nat) : Nat × List Byte × Dev :=
  let t := d.tagOctet (leAt h.params 4 1)
  (stOK, [], Dev.engineWrites c t.2 (engineMaster h.src) (as.zip (writeWords h.params t.1)))

/-- READ. -/
def execRead (s : State) : Host.Outcome State Fault Refusal :=
  onDevC s fun c d => d.hard 0x02 fun h d => Dev.engineReadReply c d h (runFrom (leAt h.params 0 4) (leAt h.params 4 2))

/-- READ_FIX. -/
def execReadFix (s : State) : Host.Outcome State Fault Refusal :=
  onDevC s fun c d => d.hard 0x03 fun h d => Dev.engineReadReply c d h (List.replicate (leAt h.params 4 2) (leAt h.params 0 4))

/-- READ_TAG: per word the data and then the tag. -/
def execReadTag (s : State) : Host.Outcome State Fault Refusal :=
  onDevC s fun c d => d.hard 0x04 fun h d =>
    let r := Dev.engineReads c d (engineMaster h.src) (runFrom (leAt h.params 0 4) (leAt h.params 4 2))
    (stOK, r.1.flatMap fun w => octetsOf w.data ++ [BitVec.ofNat 8 w.tag.code], r.2)

/-- WRITE. -/
def execWrite (s : State) : Host.Outcome State Fault Refusal :=
  onDevC s fun c d => d.hard 0x05 fun h d => Dev.engineWriteReply c d h (runFrom (leAt h.params 0 4) (writeCount h.params))

/-- WRITE_FIX. -/
def execWriteFix (s : State) : Host.Outcome State Fault Refusal :=
  onDevC s fun c d => d.hard 0x06 fun h d => Dev.engineWriteReply c d h (List.replicate (writeCount h.params) (leAt h.params 0 4))

/-- MODIFY: the word read, masked, is written back with the tag it had; a POISON word is left alone. -/
def execModify (s : State) : Host.Outcome State Fault Refusal :=
  onDevC s fun c d => d.hard 0x07 fun h d =>
    let m := engineMaster h.src
    let a := leAt h.params 0 4
    let r := Dev.engineRead c d m a
    let new := (r.1.data &&& Word.ofNat (leAt h.params 4 4)) ||| Word.ofNat (leAt h.params 8 4)
    let data := octetsOf r.1.data ++ octetsOf new
    if r.1.tag == .poison then (stPOISONED, data, r.2) else (stOK, data, Dev.engineWrite c r.2 m a ⟨new, r.1.tag⟩)

/-- FILL. -/
def execFill (s : State) : Host.Outcome State Fault Refusal :=
  onDevC s fun c d => d.hard 0x08 fun h d =>
    let t := d.tagOctet (leAt h.params 10 1)
    let w : TWord := ⟨Word.ofNat (leAt h.params 6 4), t.1⟩
    (stOK, [], Dev.engineWrites c t.2 (engineMaster h.src) ((runFrom (leAt h.params 0 4) (leAt h.params 4 2)).map fun a => (a, w)))

/-! ### The other hard opcodes (R364, R366, R367) -/

/-- PING. -/
def execPing (s : State) : Host.Outcome State Fault Refusal :=
  onDev s fun d => d.hard 0x00 fun h d =>
    (stOK, octetsOf (d.reg SYS.ID_at) ++ octetsLow 2 1 ++ [BitVec.ofNat 8 (transportOf h.src), BitVec.ofNat 8 (d.rd CORES.BOOT_STATE)], d)

/-- INFO: the serial number, WELL.RESET_CAUSE, SLUICE.STATUS, WELL.STATUS and REPAIR.SPARES. -/
def execInfo (s : State) : Host.Outcome State Fault Refusal :=
  onDevC s fun c d => d.hard 0x01 fun h d =>
    let r := Dev.engineReads c d (engineMaster h.src)
      [0x0A000000, 0x0A000004, WELL.RESET_CAUSE_at, SLUICE.STATUS_at, WELL.STATUS_at, REPAIR.SPARES_at]
    (stOK, wordsData r.1, r.2)

/-- ECHO. -/
def execEcho (s : State) : Host.Outcome State Fault Refusal := onDev s fun d => d.hard 0x3F fun h d => (stOK, h.params, d)

/-- POWER: WELL.MODE.TARGET is written (R367). -/
def execPower (s : State) : Host.Outcome State Fault Refusal :=
  onDevC s fun c d => d.hard 0x20 fun h d =>
    let d := d.modeWrite (Word.ofNat (leAt h.params 0 1))
    (stOK, octetsOf (d.regRead c WELL.STATUS_at).1, d)

/-- The engine's CANCEL and then the stores of a Cistern sequence (R366): the ERR code it meets, 0 where the operation is accepted. -/
def Dev.engineCistern (c : Cells) (d : Dev) (l : List (Nat × Word)) : Nat × Dev :=
  let stores := (cistAddr1, 0xF0#32) :: l
  if d.cistFenced then (d.rd CIST.ERR_CODE, d)
  else (((d.wr CIST.ERR_CODE 0).cistStores c stores).rd CIST.ERR_CODE, d.cistStores c stores)

/-- The reply of a Cistern opcode at acceptance: BUSY where the array was busy, else the ERR code of that moment. -/
def acceptReply (r : Nat × Dev) : Nat × List Byte × Dev := (if r.1 == 2 then stBUSY else stOK, [BitVec.ofNat 8 r.1], r.2)

/-- CIST_ERASE. -/
def execCistErase (s : State) : Host.Outcome State Fault Refusal :=
  onDevC s fun c d => d.hard 0x11 fun h d => acceptReply (Dev.engineCistern c d (eraseStores (leAt h.params 0 2)))

/-- Spout OPT_WRITE: the image address goes to CIST.OPT_SRC, then the sequence runs. -/
def execSpoutOptWrite (s : State) : Host.Outcome State Fault Refusal :=
  onDevC s fun c d => d.hard 0x12 fun h d =>
    acceptReply (Dev.engineCistern c (d.wr CIST.OPT_SRC_ADDR (leAt h.params 0 4)) (commandStores 0x70#32 cistAddr1 0x71#32))

/-- OPT_LOCK: the mask goes to CIST.LOCK_MASK, then the sequence runs. -/
def execOptLock (s : State) : Host.Outcome State Fault Refusal :=
  onDevC s fun c d => d.hard 0x13 fun h d =>
    acceptReply (Dev.engineCistern c (d.setReg CIST.LOCK_MASK_at (Word.ofNat (leAt h.params 0 4) &&& fieldMask CIST.LOCK_MASK_at))
      (commandStores 0x7C#32 cistAddr1 0x7D#32))

/-- The stores of CIST_PROG's eight words from its line address on. -/
def progStores (p : List Byte) : List (Nat × Word) :=
  unlockStores ++ [(cistAddr1, 0x10#32)] ++ (List.range 8).map fun i => ((leAt p 0 4 + 4 * i) % 2 ^ 32, Word.ofNat (leAt p (4 + 4 * i) 4))

/-- CIST_PROG as the engine starts it: a reply at once where it is refused, else the command waits for its line (R366). -/
def Dev.cistProgStart (c : Cells) (d : Dev) (h : HeldCmd) : Dev :=
  let d := d.inc SPOUT.RX_OK_COUNT
  let r := Dev.engineCistern c d (progStores h.params)
  if r.1 == 0 && r.2.cist.op.isSome && !d.cistFenced then r.2.modHeld h.src fun h => { h with phase := 5, softAt := d.now }
  else
    let a := acceptReply r
    a.2.2.answerCmd h a.1 a.2.1

/-- CIST_PROG as it waits: the line has completed, or 100 µs have passed. -/
def Dev.cistProgWait (d : Dev) (h : HeldCmd) : Dev :=
  match d.cist.op with
  | none =>
    let code := match d.cistLine (cistLineNo (leAt h.params 0 4)) with
      | some l => if l.torn then d.rd CIST.ERR_CODE else 0
      | none => d.rd CIST.ERR_CODE
    d.answerCmd h stOK [BitVec.ofNat 8 code]
  | some _ =>
    if h.softAt + 3355 ≤ d.latestNow then d.answerCmd h stTIMEOUT [BitVec.ofNat 8 (d.rd CIST.ERR_CODE)] else d

/-- CIST_PROG: the command runs twice, once to start the line and once for the reply. -/
def execCistProg (s : State) : Host.Outcome State Fault Refusal :=
  onDevC s fun c d =>
    match d.taken with
    | some h =>
      if !d.engineUp || h.opcode != 0x10 then d
      else if h.phase == 1 then Dev.cistProgStart c d h
      else d.cistProgWait h
    | none => d

/-- RESET_CORE: with the right guard the reply is sent, and the S reset follows its last octet (R367). -/
def execResetCore (s : State) : Host.Outcome State Fault Refusal :=
  onDev s fun d =>
    match d.taken with
    | some h =>
      if d.engineUp && h.opcode == 0x30 then
        let d := d.inc SPOUT.RX_OK_COUNT
        if h.params == [0xA5#8, 0x5A#8] then d.answerCmd { h with thenReset := true } stOK [] else d.answerCmd h stDENIED []
      else d
    | none => d

/-- FACTORY: with the right guard, TESTMODE high at the latest reset and TEST_CLOSED clear, SLUICE.STATUS.FACTORY is set (R357, R367). -/
def execFactory (s : State) : Host.Outcome State Fault Refusal :=
  onDevC s fun c d => d.hard 0x3E fun h d =>
    if h.params == [0x7E#8, 0xE7#8] && d.well.testmode && !c.testClosed then (stOK, [], d.setF SLUICE.STATUS_FACTORY)
    else (stDENIED, [], d)

/-! ### Soft opcodes (R368) -/

/-- Whether no firmware can take a soft command. -/
def Dev.noFirmware (d : Dev) : Bool :=
  d.rd CORES.BOOT_STATE != 1 || d.on SLUICE.STATUS_STOPPED || !d.on SPOUT.CFG_SOFT_EN || !d.flumeOn (d.rd SPOUT.CFG_SOFT_FLUME)

/-- The request words. -/
def softRequest (h : HeldCmd) : List TWord :=
  [⟨Word.ofNat (transportOf h.src * 2 ^ 28 + (if h.src == 3 then 2 ^ 27 else 0) + h.seq * 2 ^ 16 + h.opcode * 2 ^ 8), .nat⟩,
   ⟨Word.ofNat h.len, .nat⟩] ++ bytesWords h.params

/-- SOFT_FORWARD: the taken soft command is forwarded, or refused at once. -/
def execSoftForward (s : State) : Host.Outcome State Fault Refusal :=
  onDev s fun d =>
    match d.taken with
    | some h =>
      if !d.engineUp || h.opcode < 0x40 then d
      else if d.noFirmware then d.answerCmd h stNOFIRMWARE []
      else if d.spout.held.any fun x => x.phase == 2 then d.answerCmd h stBUSY []
      else if d.flumeFree (d.rd SPOUT.CFG_SOFT_FLUME) < (softRequest h).length then d.answerCmd h stBUSY []
      else
        ((d.flumeWrite (d.rd SPOUT.CFG_SOFT_FLUME) (group (softRequest h))).inc SPOUT.RX_OK_COUNT).modHeld h.src fun h =>
          { h with phase := 2, softAt := d.tick }
    | none => d

/-- The status and data of an answer to `h`; none for a stray. -/
def softReply (h : HeldCmd) (ws : List FRead) : Option (Nat × List Byte) :=
  match ws with
  | w0 :: w1 :: rest =>
    let n := w1.data.toNat
    let octets := rest.flatMap fun w => octetsOf w.data
    if bitsOf w0.data 16 8 != h.seq || bitsOf w0.data 8 8 != h.opcode || 1024 < n || octets.length < n
        || ws.any (fun w => w.tag == .poison || w.gap) then none
    else some (bitsOf w0.data 0 8, octets.take n)
  | _ => none

/-- SOFT_ANSWER: the engine reads one whole packet of SOFT_REPLY; a lone gap marker is only removed (R188). -/
def execSoftAnswer (s : State) : Host.Outcome State Fault Refusal :=
  onDev s fun d =>
    let n := d.rd SPOUT.CFG_SOFT_REPLY
    if !d.engineUp || d.on SLUICE.STATUS_STOPPED || !d.flumeOn n || (d.flume n).pkts == 0 then d
    else
      let (ws, d) := d.takePacket n (d.flume n).entries.length
      let lone := match ws with
        | [w] => w.gap
        | _ => false
      if lone then d
      else match (d.spout.held.filter fun x => x.phase == 2).head? with
        | none => d.setF SPOUT.EVENTS_SOFTSTRAY
        | some h =>
          match softReply h ws with
          | some (st, data) => d.answerCmd h st data
          | none => d.setF SPOUT.EVENTS_SOFTSTRAY

/-- SOFT_TIMEOUT: SOFT_TMO ticks have passed since the request was written. -/
def execSoftTimeout (s : State) : Host.Outcome State Fault Refusal :=
  onDev s fun d =>
    match (d.spout.held.filter fun x => x.phase == 2).head? with
    | some h => if d.engineUp && h.softAt + max 1 (d.rd SPOUT.SOFT_TMO_TICKS) ≤ d.tick then d.answerCmd h stTIMEOUT [] else d
    | none => d

/-! ### Arrivals (R369, R370, R375) -/

/-- An octet on SPOUT_RX begins with a falling edge (R302, R370). -/
def Dev.rxEdge (d : Dev) : Dev := if d.well.coreOff then d else d.fireWake 10

/-- Whether the UART takes octets. -/
def Dev.uartUp (d : Dev) : Bool := d.on SPOUT.CFG_UART_EN && d.running && !d.well.coreOff && !d.unitFenced 12 0

/-- The next over-the-air packet (R375): word 0 is the cookie and the rest the octets; one that is cut, holds a gap marker or carries POISON
is dropped. -/
def Dev.airArrives (d : Dev) : Dev :=
  let n := d.rd SPOUT.OTA_IN_FLUME
  if !d.engineUp || !d.on SPOUT.OTA_EN || (d.heldCmd 4).isSome || !d.flumeOn n || (d.flume n).pkts == 0 then d
  else
    let (ws, d) := d.takePacket n (d.flume n).entries.length
    match ws with
    | [] => d
    | c :: rest =>
      if ws.any fun w => w.gap || w.tag == .poison then d.spoutDrop
      else d.packetArrives 4 (rest.flatMap fun w => octetsOf w.data) c.data

/-- What octets on SPOUT_RX do: the wake source fires, and outside RUN they are lost (R302, R370). -/
def Dev.onUart (d : Dev) (f : Dev → Dev) : Dev := if d.uartUp then f d.rxEdge else d.rxEdge

/-- PACKET_COMPLETE (R369): a whole packet on the UART, its length as its LEN tells, or the next packet over the air.  The QSP slave and
the Aqueduct ports complete theirs with SCTRL_GO and the end of a MGMT frame. -/
def execPacketComplete (arr : Arrival) (s : State) : Host.Outcome State Fault Refusal :=
  onDev s fun d =>
    match arr with
    | .ota => d.airArrives
    | .uart octets =>
      if octets.isEmpty then d
      else d.onUart fun d =>
        if d.spout.uartIgnore || octets.length < 6 || octets.length != 6 + leAt octets 2 2 || 1024 < leAt octets 2 2 then d
        else d.packetArrives 0 octets 0#32

/-- UART_GAP: `pending` tells whether octets of a partial packet stood before it; they are discarded, and octets ignored after an oversize
header end. -/
def execUartGap (pending : Bool) (s : State) : Host.Outcome State Fault Refusal :=
  onDev s fun d =>
    let d' : Dev := { d with spout := { d.spout with uartIgnore := false } }
    if !pending then d'
    else d'.onUart fun e => if d.spout.uartIgnore then e else (e.setF SPOUT.EVENTS_FRAMING).inc SPOUT.RX_ERR_COUNT

/-- UART_FRAMING_ERROR. -/
def execUartFramingError (s : State) : Host.Outcome State Fault Refusal :=
  onDev s fun d => d.onUart fun d => (d.setF SPOUT.EVENTS_FRAMING).inc SPOUT.RX_ERR_COUNT

/-- UART_OVERSIZE_HEADER: the engine replies BAD_LENGTH at once; a transport that holds a command drops it. -/
def execUartOversizeHeader (opcode seq : Byte) (len : BitVec 16) (s : State) : Host.Outcome State Fault Refusal :=
  onDev s fun d =>
    d.onUart fun d =>
      if d.spout.uartIgnore || len.toNat ≤ 1024 then d
      else
        let d : Dev := { d with spout := { d.spout with uartIgnore := true } }
        let octets := [opcode, seq] ++ octetsLow 2 len.toNat
        if (d.heldCmd 0).isSome then d.spoutDrop
        else
          let h : HeldCmd := ⟨0, octets, 0, [], 0#32, 0, false⟩
          ((d.setHeldCmds (d.spout.held ++ [h])).inc SPOUT.RX_ERR_COUNT).answerCmd h stBADLENGTH []

/-- UART_REPLY_SENT: the transport is free; after RESET_CORE this is R_end of the S reset (R367). -/
def execUartReplySent (s : State) : Host.Outcome State Fault Refusal :=
  onBoth s fun c d =>
    match d.heldCmd 0 with
    | some h =>
      if h.phase == 3 then (if h.thenReset then resetDevice c (d.freeTransport 0) 4 else (c, d.freeTransport 0)) else (c, d)
    | none => (c, d)

end Sys2Proof.Machine
end

