-- ==== Sys2Proof/Machine/Dispatch.lean ====
section
/-! DEFINITION. The dispatch of a command to its meaning: one arm per constructor of `Instr`, in its order. -/

namespace Sys2Proof.Machine

/-- The effect of a command on everything but the queue of waiting commands. -/
def exec (i : Instr) (s : State) : Host.Outcome State Fault Refusal :=
  match i with
  | .registerWrite m addr whole value => Sys2Proof.Machine.execRegisterWrite m addr whole value s
  | .tagAliasWrite m offset value => Sys2Proof.Machine.execTagAliasWrite m offset value s
  | .portEn p on => Sys2Proof.Machine.execPortEn p on s
  | .agcStep p up => Sys2Proof.Machine.execAgcStep p up s
  | .preambleDeclaration d start sample z power => Sys2Proof.Machine.execPreambleDeclaration d start sample z power s
  | .syncMatch n tick frac z energy count f => Sys2Proof.Machine.execSyncMatch n tick frac z energy count f s
  | .syncTimeout n at_ => Sys2Proof.Machine.execSyncTimeout n at_ s
  | .phrEnd n phr z power => Sys2Proof.Machine.execPhrEnd n phr z power s
  | .lastOctet n octets z => Sys2Proof.Machine.execLastOctet n octets z s
  | .fade n octets z => Sys2Proof.Machine.execFade n octets z s
  | .laneDrainEnd n => Sys2Proof.Machine.execLaneDrainEnd n s
  | .laneAbort n => Sys2Proof.Machine.execLaneAbort n s
  | .laneAbortAll p => Sys2Proof.Machine.execLaneAbortAll p s
  | .blankEnd p => Sys2Proof.Machine.execBlankEnd p s
  | .laneTestEnd n pass => Sys2Proof.Machine.execLaneTestEnd n pass s
  | .arm slot f => Sys2Proof.Machine.execArm slot f s
  | .armResync slot f => Sys2Proof.Machine.execArmResync slot f s
  | .disarm slot f => Sys2Proof.Machine.execDisarm slot f s
  | .rebuild slot => Sys2Proof.Machine.execRebuild slot s
  | .eventDue f => Sys2Proof.Machine.execEventDue f s
  | .listenEnd f => Sys2Proof.Machine.execListenEnd f s
  | .commitHeard slot ctr f => Sys2Proof.Machine.execCommitHeard slot ctr f s
  | .commitMissed slot ctr f => Sys2Proof.Machine.execCommitMissed slot ctr f s
  | .commitSent slot ctr f => Sys2Proof.Machine.execCommitSent slot ctr f s
  | .commitNotSent slot ctr f => Sys2Proof.Machine.execCommitNotSent slot ctr f s
  | .commitLose slot ctr f => Sys2Proof.Machine.execCommitLose slot ctr f s
  | .commitRelease slot ctr f => Sys2Proof.Machine.execCommitRelease slot ctr f s
  | .synEn p on temp => Sys2Proof.Machine.execSynEn p on temp s
  | .fcWrite p hz temp => Sys2Proof.Machine.execFcWrite p hz temp s
  | .calibrationDone p temp => Sys2Proof.Machine.execCalibrationDone p temp s
  | .lockAchieved p => Sys2Proof.Machine.execLockAchieved p s
  | .lockFailure p => Sys2Proof.Machine.execLockFailure p s
  | .calGo p hz => Sys2Proof.Machine.execCalGo p hz s
  | .calFlush p => Sys2Proof.Machine.execCalFlush p s
  | .calHeldStart p => Sys2Proof.Machine.execCalHeldStart p s
  | .scheduledDescriptor p => Sys2Proof.Machine.execScheduledDescriptor p s
  | .freeDescriptor p f => Sys2Proof.Machine.execFreeDescriptor p f s
  | .claim p f temp => Sys2Proof.Machine.execClaim p f temp s
  | .clearance p f => Sys2Proof.Machine.execClearance p f s
  | .rampStart p f => Sys2Proof.Machine.execRampStart p f s
  | .lastSymbolEnd p f => Sys2Proof.Machine.execLastSymbolEnd p f s
  | .paOff p f => Sys2Proof.Machine.execPaOff p f s
  | .txAbortNow p => Sys2Proof.Machine.execTxAbortNow p s
  | .txAbortFree p => Sys2Proof.Machine.execTxAbortFree p s
  | .txAbortAll p => Sys2Proof.Machine.execTxAbortAll p s
  | .dwellCut p f => Sys2Proof.Machine.execDwellCut p f s
  | .weirSelfCheckFail code => Sys2Proof.Machine.execWeirSelfCheckFail code s
  | .supplyRuleRelease v => Sys2Proof.Machine.execSupplyRuleRelease v s
  | .vpaLow v => Sys2Proof.Machine.execVpaLow v s
  | .jobDispatch c => Sys2Proof.Machine.execJobDispatch c s
  | .jobComplete c => Sys2Proof.Machine.execJobComplete c s
  | .keyWrite size => Sys2Proof.Machine.execKeyWrite size s
  | .acquire token => Sys2Proof.Machine.execAcquire token s
  | .renew token => Sys2Proof.Machine.execRenew token s
  | .release token => Sys2Proof.Machine.execRelease token s
  | .lockBreak token => Sys2Proof.Machine.execLockBreak token s
  | .flumeEnable n base size nolimit => Sys2Proof.Machine.execFlumeEnable n base size nolimit s
  | .flumeDisable n base size nolimit => Sys2Proof.Machine.execFlumeDisable n base size nolimit s
  | .flumePush n data => Sys2Proof.Machine.execFlumePush n data s
  | .flumePop n => Sys2Proof.Machine.execFlumePop n s
  | .stalledReadDone n => Sys2Proof.Machine.execStalledReadDone n s
  | .stallTrap n => Sys2Proof.Machine.execStallTrap n s
  | .linkTraining p ev => Sys2Proof.Machine.execLinkTraining p ev s
  | .noreply p => Sys2Proof.Machine.execNoreply p s
  | .backoffEnd p => Sys2Proof.Machine.execBackoffEnd p s
  | .lossOfSignal p => Sys2Proof.Machine.execLossOfSignal p s
  | .aqRxHeader p hdr stamp => Sys2Proof.Machine.execAqRxHeader p hdr stamp s
  | .aqRxFrameEnd p octets crc y clkoff f => Sys2Proof.Machine.execAqRxFrameEnd p octets crc y clkoff f s
  | .aqTxDescriptor p stamp => Sys2Proof.Machine.execAqTxDescriptor p stamp s
  | .aqFrameBoundary p stamp => Sys2Proof.Machine.execAqFrameBoundary p stamp s
  | .aqTxDone p => Sys2Proof.Machine.execAqTxDone p s
  | .aqPortEn p on role => Sys2Proof.Machine.execAqPortEn p on role s
  | .retrain p => Sys2Proof.Machine.execRetrain p s
  | .drop p => Sys2Proof.Machine.execDrop p s
  | .aqPortFault p => Sys2Proof.Machine.execAqPortFault p s
  | .aqLineActivity p => Sys2Proof.Machine.execAqLineActivity p s
  | .mov k a b => Sys2Proof.Machine.execMov k a b s
  | .add k a b => Sys2Proof.Machine.execAdd k a b s
  | .sub k a b => Sys2Proof.Machine.execSub k a b s
  | .mul k a b => Sys2Proof.Machine.execMul k a b s
  | .div k a b => Sys2Proof.Machine.execDiv k a b s
  | .and k a b => Sys2Proof.Machine.execAnd k a b s
  | .or k a b => Sys2Proof.Machine.execOr k a b s
  | .xor k a b => Sys2Proof.Machine.execXor k a b s
  | .shl k a b => Sys2Proof.Machine.execShl k a b s
  | .shr k a b => Sys2Proof.Machine.execShr k a b s
  | .sar k a b => Sys2Proof.Machine.execSar k a b s
  | .rol k a b => Sys2Proof.Machine.execRol k a b s
  | .eq k a b => Sys2Proof.Machine.execEq k a b s
  | .lt k a b => Sys2Proof.Machine.execLt k a b s
  | .le k a b => Sys2Proof.Machine.execLe k a b s
  | .neg k a => Sys2Proof.Machine.execNeg k a s
  | .not k a => Sys2Proof.Machine.execNot k a s
  | .isz k a => Sys2Proof.Machine.execIsz k a s
  | .isneg k a => Sys2Proof.Machine.execIsneg k a s
  | .par k a => Sys2Proof.Machine.execPar k a s
  | .brev k a => Sys2Proof.Machine.execBrev k a s
  | .brevb k a => Sys2Proof.Machine.execBrevb k a s
  | .hdptr k a => Sys2Proof.Machine.execHdptr k a s
  | .tagof k a b => Sys2Proof.Machine.execTagof k a b s
  | .retag k a b x => Sys2Proof.Machine.execRetag k a b x s
  | .ld k a b x => Sys2Proof.Machine.execLd k a b x s
  | .st k a b x => Sys2Proof.Machine.execSt k a b x s
  | .lit k a tag w => Sys2Proof.Machine.execLit k a tag w s
  | .imm k a sel x => Sys2Proof.Machine.execImm k a sel x s
  | .addi k a x => Sys2Proof.Machine.execAddi k a x s
  | .andi k a x => Sys2Proof.Machine.execAndi k a x s
  | .ori k a x => Sys2Proof.Machine.execOri k a x s
  | .xori k a x => Sys2Proof.Machine.execXori k a x s
  | .shli k a x => Sys2Proof.Machine.execShli k a x s
  | .shri k a x => Sys2Proof.Machine.execShri k a x s
  | .eqi k a x => Sys2Proof.Machine.execEqi k a x s
  | .lti k a x => Sys2Proof.Machine.execLti k a x s
  | .extb k a b n => Sys2Proof.Machine.execExtb k a b n s
  | .insb k a b n => Sys2Proof.Machine.execInsb k a b n s
  | .crcr k a b p => Sys2Proof.Machine.execCrcr k a b p s
  | .crcrw k a b p => Sys2Proof.Machine.execCrcrw k a b p s
  | .crcl k a b p => Sys2Proof.Machine.execCrcl k a b p s
  | .crclw k a b p => Sys2Proof.Machine.execCrclw k a b p s
  | .get k a f => Sys2Proof.Machine.execGet k a f s
  | .getn k a f => Sys2Proof.Machine.execGetn k a f s
  | .put k a f => Sys2Proof.Machine.execPut k a f s
  | .pute k a f => Sys2Proof.Machine.execPute k a f s
  | .free k a f => Sys2Proof.Machine.execFree k a f s
  | .pkts k a f => Sys2Proof.Machine.execPkts k a f s
  | .ldp k a b => Sys2Proof.Machine.execLdp k a b s
  | .stp k a b => Sys2Proof.Machine.execStp k a b s
  | .addm k a b => Sys2Proof.Machine.execAddm k a b s
  | .crcrm k a b p => Sys2Proof.Machine.execCrcrm k a b p s
  | .crclm k a b p => Sys2Proof.Machine.execCrclm k a b p s
  | .tli k a b => Sys2Proof.Machine.execTli k a b s
  | .bt k a x => Sys2Proof.Machine.execBt k a x s
  | .bf k a x => Sys2Proof.Machine.execBf k a x s
  | .bfs k bit x => Sys2Proof.Machine.execBfs k bit x s
  | .bfc k bit x => Sys2Proof.Machine.execBfc k bit x s
  | .jmp k x => Sys2Proof.Machine.execJmp k x s
  | .call k x => Sys2Proof.Machine.execCall k x s
  | .trap k x => Sys2Proof.Machine.execTrap k x s
  | .jr k a => Sys2Proof.Machine.execJr k a s
  | .callr k a => Sys2Proof.Machine.execCallr k a s
  | .ret k => Sys2Proof.Machine.execRet k s
  | .tret k skip => Sys2Proof.Machine.execTret k skip s
  | .wait k => Sys2Proof.Machine.execWait k s
  | .nop k => Sys2Proof.Machine.execNop k s
  | .repr k a => Sys2Proof.Machine.execRepr k a s
  | .repir k a => Sys2Proof.Machine.execRepir k a s
  | .crd k a n => Sys2Proof.Machine.execCrd k a n s
  | .cwr k a n => Sys2Proof.Machine.execCwr k a n s
  | .repk k isRepI count => Sys2Proof.Machine.execRepk k isRepI count s
  | .feat k a n => Sys2Proof.Machine.execFeat k a n s
  | .customInstruction k e a b x => Sys2Proof.Machine.execCustomInstruction k e a b x s
  | .waitResume k => Sys2Proof.Machine.execWaitResume k s
  | .start k => Sys2Proof.Machine.execStart k s
  | .halt k => Sys2Proof.Machine.execHalt k s
  | .step k => Sys2Proof.Machine.execStep k s
  | .reset k start => Sys2Proof.Machine.execReset k start s
  | .kick k => Sys2Proof.Machine.execKick k s
  | .plDataWrite v => Sys2Proof.Machine.execPlDataWrite v s
  | .dbgSelWrite v => Sys2Proof.Machine.execDbgSelWrite v s
  | .dbgDataWrite v => Sys2Proof.Machine.execDbgDataWrite v s
  | .rowCopyDone bank row => Sys2Proof.Machine.execRowCopyDone bank row s
  | .program n line => Sys2Proof.Machine.execProgram n line s
  | .erase b => Sys2Proof.Machine.execErase b s
  | .programDone pass => Sys2Proof.Machine.execProgramDone pass s
  | .eraseDone left => Sys2Proof.Machine.execEraseDone left s
  | .lockCellDone b => Sys2Proof.Machine.execLockCellDone b s
  | .modeWrite v => Sys2Proof.Machine.execModeWrite v s
  | .entryComplete windowed => Sys2Proof.Machine.execEntryComplete windowed s
  | .wake upsets => Sys2Proof.Machine.execWake upsets s
  | .rippleCall r hz line => Sys2Proof.Machine.execRippleCall r hz line s
  | .rippleActivity x => Sys2Proof.Machine.execRippleActivity x s
  | .vStartHoldEnd testmode => Sys2Proof.Machine.execVStartHoldEnd testmode s
  | .vwellLow testmode => Sys2Proof.Machine.execVwellLow testmode s
  | .vwellPowerOn testmode => Sys2Proof.Machine.execVwellPowerOn testmode s
  | .sourceSwitch bak => Sys2Proof.Machine.execSourceSwitch bak s
  | .resetNPulse ns testmode => Sys2Proof.Machine.execResetNPulse ns testmode s
  | .unitReset u => Sys2Proof.Machine.execUnitReset u s
  | .tickVote a b c => Sys2Proof.Machine.execTickVote a b c s
  | .timerWrap n => Sys2Proof.Machine.execTimerWrap n s
  | .timerMatch n => Sys2Proof.Machine.execTimerMatch n s
  | .cmpWrite n v => Sys2Proof.Machine.execCmpWrite n v s
  | .timerArm n delta => Sys2Proof.Machine.execTimerArm n delta s
  | .dmonArm m n deadline => Sys2Proof.Machine.execDmonArm m n deadline s
  | .dmonDisarm hi mask => Sys2Proof.Machine.execDmonDisarm hi mask s
  | .deadlineExpiry m => Sys2Proof.Machine.execDeadlineExpiry m s
  | .timeWrite v => Sys2Proof.Machine.execTimeWrite v s
  | .dateWrite v => Sys2Proof.Machine.execDateWrite v s
  | .weekdayWrite v => Sys2Proof.Machine.execWeekdayWrite v s
  | .mainsEdge f => Sys2Proof.Machine.execMainsEdge f s
  | .netMark loc => Sys2Proof.Machine.execNetMark loc s
  | .trimWrite v => Sys2Proof.Machine.execTrimWrite v s
  | .logRetire count => Sys2Proof.Machine.execLogRetire count s
  | .coreCheckFail bowl u check retryFails copyFails => Sys2Proof.Machine.execCoreCheckFail bowl u check retryFails copyFails s
  | .laneSelfCheckFail n => Sys2Proof.Machine.execLaneSelfCheckFail n s
  | .rotationStep k => Sys2Proof.Machine.execRotationStep k s
  | .liveTestDone k pass step => Sys2Proof.Machine.execLiveTestDone k pass step s
  | .testNow kind inst => Sys2Proof.Machine.execTestNow kind inst s
  | .fence m kind inst => Sys2Proof.Machine.execFence m kind inst s
  | .retest kind inst => Sys2Proof.Machine.execRetest kind inst s
  | .fatalFault kind check cut => Sys2Proof.Machine.execFatalFault kind check cut s
  | .hbFeed m => Sys2Proof.Machine.execHbFeed m s
  | .injCtrlWrite v => Sys2Proof.Machine.execInjCtrlWrite v s
  | .packetComplete arr => Sys2Proof.Machine.execPacketComplete arr s
  | .uartGap pending => Sys2Proof.Machine.execUartGap pending s
  | .cmdFifoWrite w => Sys2Proof.Machine.execCmdFifoWrite w s
  | .selectRise cut => Sys2Proof.Machine.execSelectRise cut s
  | .qspGo n => Sys2Proof.Machine.execQspGo n s
  | .qspAbort n => Sys2Proof.Machine.execQspAbort n s
  | .qspFrameDone n count data => Sys2Proof.Machine.execQspFrameDone n count data s
  | .mapLoad x data => Sys2Proof.Machine.execMapLoad x data s
  | .amHeader a => Sys2Proof.Machine.execAmHeader a s
  | .amChunk a => Sys2Proof.Machine.execAmChunk a s
  | .chunkStored bad => Sys2Proof.Machine.execChunkStored bad s
  | .chiselResultTimeout lost => Sys2Proof.Machine.execChiselResultTimeout lost s
  | .activate types => Sys2Proof.Machine.execActivate types s
  | .healthConfirm v => Sys2Proof.Machine.execHealthConfirm v s
  | .chiselCoreFailure c => Sys2Proof.Machine.execChiselCoreFailure c s
  | .continuousSelfCheckFail kind inst => Sys2Proof.Machine.execContinuousSelfCheckFail kind inst s
  | .gpwakePin pin level => Sys2Proof.Machine.execGpwakePin pin level s
  | .uartOversizeHeader opcode seq len => Sys2Proof.Machine.execUartOversizeHeader opcode seq len s
  | .laneConversion n => Sys2Proof.Machine.execLaneConversion n s
  | .rebuildDone f => Sys2Proof.Machine.execRebuildDone f s
  | .allocationWindow => Sys2Proof.Machine.execAllocationWindow s
  | .latheWakeRequest => Sys2Proof.Machine.execLatheWakeRequest s
  | .ledgerBucketBoundary => Sys2Proof.Machine.execLedgerBucketBoundary s
  | .keyRead => Sys2Proof.Machine.execKeyRead s
  | .leaseExpiry => Sys2Proof.Machine.execLeaseExpiry s
  | .wseqLoRead => Sys2Proof.Machine.execWseqLoRead s
  | .plDataRead => Sys2Proof.Machine.execPlDataRead s
  | .plCopyDone => Sys2Proof.Machine.execPlCopyDone s
  | .plCheck => Sys2Proof.Machine.execPlCheck s
  | .plCheckDone => Sys2Proof.Machine.execPlCheckDone s
  | .bootLoadDone => Sys2Proof.Machine.execBootLoadDone s
  | .scrub => Sys2Proof.Machine.execScrub s
  | .bankCopyDone => Sys2Proof.Machine.execBankCopyDone s
  | .optWrite => Sys2Proof.Machine.execOptWrite s
  | .lock => Sys2Proof.Machine.execLock s
  | .suspend => Sys2Proof.Machine.execSuspend s
  | .resume => Sys2Proof.Machine.execResume s
  | .cancel => Sys2Proof.Machine.execCancel s
  | .sequenceTimeout => Sys2Proof.Machine.execSequenceTimeout s
  | .suspendTakesEffect => Sys2Proof.Machine.execSuspendTakesEffect s
  | .optWriteDone => Sys2Proof.Machine.execOptWriteDone s
  | .supplyHoldEnd => Sys2Proof.Machine.execSupplyHoldEnd s
  | .entryAccept => Sys2Proof.Machine.execEntryAccept s
  | .entryLimitExpiry => Sys2Proof.Machine.execEntryLimitExpiry s
  | .vmainWarn => Sys2Proof.Machine.execVmainWarn s
  | .vmainRecovery => Sys2Proof.Machine.execVmainRecovery s
  | .brownOut => Sys2Proof.Machine.execBrownOut s
  | .vbakLow => Sys2Proof.Machine.execVbakLow s
  | .trimCorrection => Sys2Proof.Machine.execTrimCorrection s
  | .tickLoRead => Sys2Proof.Machine.execTickLoRead s
  | .secondBoundary => Sys2Proof.Machine.execSecondBoundary s
  | .subsecRead => Sys2Proof.Machine.execSubsecRead s
  | .measGo => Sys2Proof.Machine.execMeasGo s
  | .noref => Sys2Proof.Machine.execNoref s
  | .approve => Sys2Proof.Machine.execApprove s
  | .fResetAgesOut => Sys2Proof.Machine.execFResetAgesOut s
  | .fatalAck => Sys2Proof.Machine.execFatalAck s
  | .heartbeatTick => Sys2Proof.Machine.execHeartbeatTick s
  | .engineTake => Sys2Proof.Machine.execEngineTake s
  | .ping => Sys2Proof.Machine.execPing s
  | .info => Sys2Proof.Machine.execInfo s
  | .read => Sys2Proof.Machine.execRead s
  | .readFix => Sys2Proof.Machine.execReadFix s
  | .readTag => Sys2Proof.Machine.execReadTag s
  | .write => Sys2Proof.Machine.execWrite s
  | .writeFix => Sys2Proof.Machine.execWriteFix s
  | .modify => Sys2Proof.Machine.execModify s
  | .fill => Sys2Proof.Machine.execFill s
  | .cistProg => Sys2Proof.Machine.execCistProg s
  | .cistErase => Sys2Proof.Machine.execCistErase s
  | .spoutOptWrite => Sys2Proof.Machine.execSpoutOptWrite s
  | .optLock => Sys2Proof.Machine.execOptLock s
  | .power => Sys2Proof.Machine.execPower s
  | .resetCore => Sys2Proof.Machine.execResetCore s
  | .factory => Sys2Proof.Machine.execFactory s
  | .echo => Sys2Proof.Machine.execEcho s
  | .softForward => Sys2Proof.Machine.execSoftForward s
  | .softAnswer => Sys2Proof.Machine.execSoftAnswer s
  | .softTimeout => Sys2Proof.Machine.execSoftTimeout s
  | .replyFifoRead => Sys2Proof.Machine.execReplyFifoRead s
  | .sctrlGo => Sys2Proof.Machine.execSctrlGo s
  | .sctrlAck => Sys2Proof.Machine.execSctrlAck s
  | .sctrlFlush => Sys2Proof.Machine.execSctrlFlush s
  | .mapEnClear => Sys2Proof.Machine.execMapEnClear s
  | .receptionOpen => Sys2Proof.Machine.execReceptionOpen s
  | .slotConversion => Sys2Proof.Machine.execSlotConversion s
  | .quietExpiry => Sys2Proof.Machine.execQuietExpiry s
  | .trialExpiry => Sys2Proof.Machine.execTrialExpiry s
  | .revert => Sys2Proof.Machine.execRevert s
  | .tickEdge => Sys2Proof.Machine.execTickEdge s
  | .fineEdge => Sys2Proof.Machine.execFineEdge s
  | .vbakRecovery => Sys2Proof.Machine.execVbakRecovery s
  | .uartFramingError => Sys2Proof.Machine.execUartFramingError s
  | .uartReplySent => Sys2Proof.Machine.execUartReplySent s

end Sys2Proof.Machine
end

