-- ==== Sys2Proof/Safety.lean ====
section
/-! DEFINITION. What counts as a safe run of the block, and the vocabulary in which the statements speak of it. -/

namespace Sys2Proof.Machine

/-- Lock cells are never unlocked (R125, R293): every cell set in `a` is set in `b`. -/
def Cells.kept (a b : Cells) : Prop := (∀ i, a.locked i = true → b.locked i = true) ∧ (a.testClosed = true → b.testClosed = true)

/-- The canonical form of the tagged SRAM: word indexes strictly rising, and no entry equal to the word an unlisted index reads as. -/
def Dev.sramWf (d : Dev) : Bool := Store.wf (fun _ => SramWord.blank) d.sram

/-- The canonical form of the register file. -/
def Dev.regsWf (d : Dev) : Bool := Store.wf resetWord d.regs

/-! ### Commands and their effects -/

/-- Command `c` run on `s` answers a next state in which the queue and the lock cells stand as they did and the device satisfies `P`. -/
def Gives (c : Instr) (s : State) (P : Dev → Prop) : Prop :=
  ∃ t, exec c s = .next t ∧ t.pending = s.pending ∧ t.cells = s.cells ∧ P t.dev

/-- Every register but those at the addresses `l` reads the same in `e` as in `d`. -/
def regsBut (d e : Dev) (l : List Nat) : Prop := ∀ a, a ∉ l → e.reg a = d.reg a

/-- The `len` words of program memory at slot `k`'s PC hold no bit in error (R272). -/
def Dev.sound (d : Dev) (k len : Nat) : Prop :=
  ∀ u, d.unitOfSlot k = some u → ∀ i, i < len → d.codeErr (progKey u ((d.slot k).pc + i)) = 0#55

/-- Slot `k` executes, stands at no breakpoint, repeats nothing, and an instruction of `len` sound words leaves it inside program memory. -/
def Dev.ready (d : Dev) (k len : Nat) : Prop :=
  d.executing k = true ∧ d.atBreak k = false ∧ (d.slot k).rep = none ∧ (d.slot k).pc + len < progSize k ∧ d.sound k len

/-- The operand that register `n` of slot `k` gives, as operand number `idx` (R230, R250). -/
def Dev.operand (d : Dev) (k n idx : Nat) : Opd :=
  let w := Store.get voidWord (d.slot k).regs n
  ⟨w, effTag (d.rd (if isBowl k then CORES.CFG_USER_B else CORES.CFG_USER_S)) w.tag, idx, 0⟩

/-- Register numbers and extension words that the word of slot `k`'s kind can hold (R247). -/
def fitsSlot (k : Nat) (a b p x : Nat) : Prop := isBowl k = true ∨ (a < 8 ∧ b < 8 ∧ p < 8 ∧ x < 4096)

/-- An instruction of slot `k` has made its architectural state `v` and changed nothing else: the other slots, every register but the slot's
STATUS, whose STATE is `st`, and every other part of the device stand as they did. -/
def Dev.ran (d e : Dev) (k : Nat) (v : Slot) (st : Nat) : Prop :=
  e.slot k = v ∧ (∀ j, j ≠ k → e.slot j = d.slot j) ∧ (∀ a, e.reg a = (d.setSlotState k st).reg a) ∧
    e.cores = { d.cores with slots := e.cores.slots } ∧ e = { d with regs := e.regs, cores := e.cores }

/-- STATE after an instruction: a single step has ended (R242), any other slot runs on. -/
def Slot.after (v : Slot) : Nat := if v.stepping then 0 else 1

/-- The architectural state after an instruction of `len` words that puts `w` into register `a` and leaves FLAGS as `fl`. -/
def Slot.withResult (v : Slot) (len a : Nat) (w : TWord) (fl : BitVec 10) : Slot :=
  { v with regs := Store.put voidWord v.regs a w, flags := fl, pc := v.pc + len, stepping := false, passBrk := false, resume := none }

/-- The architectural state after a trap from outside a trap and a repetition (R234), the address after the instruction being `next`. -/
def Slot.trapped (v : Slot) (cause : Nat) (info : Word) (next : Nat) : Slot :=
  ({ v with
    tpc := v.pc, tcause := Word.ofNat cause, tinfo := info, pc := v.tvec, pend := none, trapNext := some next, stepping := false,
    haltAfter := false, passBrk := false, resume := none } : Slot).setFlag flagINTRAP true

/-- The commands that work on registers and immediates alone (R252 to R255, R260, R261): the slot, the operation with its fields, and its
words.  An immediate that makes the word ILLEGAL gives none. -/
def dataInsn : Instr → Option (Nat × Insn × Nat)
  | .mov k a b => some (k, ⟨.mov, a, b, 0, 0, false, 0⟩, 1)
  | .add k a b => some (k, ⟨.add, a, b, 0, 0, false, 0⟩, 1)
  | .sub k a b => some (k, ⟨.sub, a, b, 0, 0, false, 0⟩, 1)
  | .mul k a b => some (k, ⟨.mul, a, b, 0, 0, false, 0⟩, 1)
  | .div k a b => some (k, ⟨.div, a, b, 0, 0, false, 0⟩, 1)
  | .and k a b => some (k, ⟨.and, a, b, 0, 0, false, 0⟩, 1)
  | .or k a b => some (k, ⟨.or, a, b, 0, 0, false, 0⟩, 1)
  | .xor k a b => some (k, ⟨.xor, a, b, 0, 0, false, 0⟩, 1)
  | .shl k a b => some (k, ⟨.shl, a, b, 0, 0, false, 0⟩, 1)
  | .shr k a b => some (k, ⟨.shr, a, b, 0, 0, false, 0⟩, 1)
  | .sar k a b => some (k, ⟨.sar, a, b, 0, 0, false, 0⟩, 1)
  | .rol k a b => some (k, ⟨.rol, a, b, 0, 0, false, 0⟩, 1)
  | .eq k a b => some (k, ⟨.eq, a, b, 0, 0, false, 0⟩, 1)
  | .lt k a b => some (k, ⟨.lt, a, b, 0, 0, false, 0⟩, 1)
  | .le k a b => some (k, ⟨.le, a, b, 0, 0, false, 0⟩, 1)
  | .tagof k a b => some (k, ⟨.tagof, a, b, 0, 0, false, 0⟩, 1)
  | .neg k a => some (k, ⟨.neg, a, 0, 0, 0, false, 0⟩, 1)
  | .not k a => some (k, ⟨.not, a, 1, 0, 0, false, 0⟩, 1)
  | .isz k a => some (k, ⟨.isz, a, 2, 0, 0, false, 0⟩, 1)
  | .isneg k a => some (k, ⟨.isneg, a, 3, 0, 0, false, 0⟩, 1)
  | .par k a => some (k, ⟨.par, a, 4, 0, 0, false, 0⟩, 1)
  | .brev k a => some (k, ⟨.brev, a, 5, 0, 0, false, 0⟩, 1)
  | .brevb k a => some (k, ⟨.brevb, a, 6, 0, 0, false, 0⟩, 1)
  | .hdptr k a => some (k, ⟨.hdptr, a, 7, 0, 0, false, 0⟩, 1)
  | .retag k a b x => if x.toNat < 16 then some (k, ⟨.retag, a, b, x.toNat, 0, false, 0⟩, 2) else none
  | .lit k a tag w => some (k, ⟨.lit, a, 0, w.toNat * 16 + tag.toNat, 0, false, 0⟩, 4)
  | .imm k a sel x =>
    if (sel.val == 3 && 2 ≤ x.toNat) || (sel.val == 7 && 1024 ≤ x.toNat) then none
    else some (k, ⟨.imm, a, sel, x.toNat, 0, false, 0⟩, 2)
  | .addi k a x => some (k, ⟨.addi, a, 0, x.toNat, 0, false, 0⟩, 2)
  | .andi k a x => some (k, ⟨.andi, a, 0, x.toNat, 0, false, 0⟩, 2)
  | .ori k a x => some (k, ⟨.ori, a, 0, x.toNat, 0, false, 0⟩, 2)
  | .xori k a x => some (k, ⟨.xori, a, 0, x.toNat, 0, false, 0⟩, 2)
  | .shli k a x => some (k, ⟨.shli, a, 0, x.toNat, 0, false, 0⟩, 2)
  | .shri k a x => some (k, ⟨.shri, a, 0, x.toNat, 0, false, 0⟩, 2)
  | .eqi k a x => some (k, ⟨.eqi, a, 0, x.toNat, 0, false, 0⟩, 2)
  | .lti k a x => some (k, ⟨.lti, a, 0, x.toNat, 0, false, 0⟩, 2)
  | .extb k a b n => some (k, ⟨.extb, a, b, n.val * 16, n, false, 0⟩, 2)
  | .insb k a b n => some (k, ⟨.insb, a, b, 1 + n.val * 16, n, false, 0⟩, 2)
  | .crcr k a b p => some (k, ⟨.crcr, a, b, 2 + p.val * 64, 0, false, p⟩, 2)
  | .crcrw k a b p => some (k, ⟨.crcrw, a, b, 3 + p.val * 64, 0, false, p⟩, 2)
  | .crcl k a b p => some (k, ⟨.crcl, a, b, 4 + p.val * 64, 0, false, p⟩, 2)
  | .crclw k a b p => some (k, ⟨.crclw, a, b, 5 + p.val * 64, 0, false, p⟩, 2)
  | _ => none

/-- The extension word of a register operation; none for a literal's words, which fit both kinds. -/
def Insn.ext (i : Insn) : Nat := if i.op == .lit then 0 else i.x

/-- What a register operation of slot `k` yields: the result and FLAGS, or the trap of the check that fails. -/
def Dev.dataResult (d : Dev) (k : Nat) (i : Insn) : Except Trp (TWord × BitVec 10) :=
  dataOp (isBowl k) (d.on (CORES.SCFG_OVF_TRAP k)) i (d.operand k i.a 0) (d.operand k i.b 1) (d.operand k i.p 3) (d.slot k).flags


/-- The operations of `dataInsn`: they read registers and immediates only. -/
def COp.isData (o : COp) : Bool :=
  match o with
  | .ld | .st | .ldp | .stp | .addm | .crcrm | .crclm | .tli | .get | .getn | .put | .pute | .free | .pkts => false
  | .bt | .bf | .bfs | .bfc | .jmp | .call | .trap | .jr | .callr | .ret | .tret => false
  | .wait | .nop | .repr | .repir | .crd | .cwr | .repk | .feat => false
  | _ => true

/-- Slot `k` executes, stands at no breakpoint, repeats nothing, and an instruction of `len` sound words lies in program memory. -/
def Dev.issues (d : Dev) (k len : Nat) : Prop :=
  d.executing k = true ∧ d.atBreak k = false ∧ (d.slot k).rep = none ∧ (d.slot k).pc + len ≤ progSize k ∧ d.sound k len

/-- The SRAM word at `a` reads without an error: its address is in SRAM, its bank in service, its code intact. -/
def Dev.cleanWord (d : Dev) (a : Nat) : Prop := a < 0x600000 ∧ d.bankDead a = false ∧ flipCount (d.word a).flip = 0

/-- The tagged word stored at SRAM address `a`. -/
def Dev.tword (d : Dev) (a : Nat) : TWord := ⟨(d.word a).data, (d.word a).tag⟩

/-- A word read from address `a` by an instruction of slot `k`, as operand 2 (R250). -/
def Dev.memOperand (d : Dev) (k a : Nat) : Opd :=
  ⟨d.tword a, effTag (d.rd (if isBowl k then CORES.CFG_USER_B else CORES.CFG_USER_S)) (d.tword a).tag, 2, a⟩

/-- The architectural state after a jump to `t`. -/
def Slot.jumped (v : Slot) (t : Nat) : Slot := { v with pc := t, stepping := false, passBrk := false, resume := none }

/-- The architectural state after a post-increment operation: register b has advanced by 4, then register a takes `w` (R250, R257). -/
def Slot.withPost (v : Slot) (len a b : Nat) (w : Option TWord) (fl : BitVec 10) : Slot :=
  { v with
    regs := putReg (Store.put voidWord v.regs b ⟨(Store.get voidWord v.regs b).data + 4#32, .dptr⟩) a w, flags := fl, pc := v.pc + len,
    stepping := false, passBrk := false, resume := none }

/-- An instruction of slot `k` has stored `w` at SRAM address `a`, made its architectural state `v`, and changed nothing else. -/
def Dev.ranStore (d e : Dev) (k : Nat) (v : Slot) (st a : Nat) (w : TWord) : Prop :=
  e.word a = ⟨w.data, w.tag, 0#43⟩ ∧ (∀ x, x / 4 ≠ a / 4 → e.word x = d.word x) ∧ Dev.ran { d with sram := e.sram } e k v st

/-- Flume `n` has no stalled reader, so a read takes the head entry at once. -/
def Dev.quietFlume (d : Dev) (n : Nat) : Prop := d.flumeOn n = true ∧ (d.flume n).stalled = []

/-- The Flume after its head entry has been read (R185, R186). -/
def Flume.afterRead (f : Flume) (e : FEntry) (rest : List FEntry) : Flume :=
  { f with entries := rest, pkts := if rest.isEmpty then 0 else f.pkts - e.isEnd.toNat, openGap := f.openGap && !rest.isEmpty,
           headPos := f.headPos + 1, suspect := !rest.isEmpty && (f.suspect || e.badHigh) }

/-- The Flume after one entry has been appended (R181, R186). -/
def Flume.appended (f : Flume) (e : FEntry) : Flume :=
  { f with entries := f.entries ++ [e], openGap := e.gap, pkts := f.pkts + e.isEnd.toNat }

/-- Flume `n` holds `f`, every other Flume is as it was, and nothing else of the device beside registers and slots has changed. -/
def Dev.ranFlume (d e : Dev) (k : Nat) (v : Slot) (st n : Nat) (f : Flume) : Prop :=
  e.flume n = f ∧ (∀ m, m ≠ n → e.flume m = d.flume m) ∧ Dev.ran { d with flumes := e.flumes } e k v st

/-- The Flume that a selector names for slot `k`: immediate, or a NAT of 0 to 63 in a register (R239). -/
def flumeNamed (f : FlumeSel) (d : Dev) (k n : Nat) : Prop :=
  match f with
  | .imm m => m.val = n
  | .reg b => (d.operand k b.val 1).eff = .nat ∧ (d.operand k b.val 1).w.data.toNat = n ∧ n < 64

/-- The architectural state after GET of `len` words has put entry `h` into register `a` (R185, R239). -/
def Slot.withRead (v : Slot) (len a : Nat) (h : FEntry) : Slot :=
  { (({ v with regs := Store.put voidWord v.regs a ⟨h.data, h.tag⟩, pend := none } : Slot).setFlag flagE h.isEnd).setFlag flagG h.gap with
    pc := v.pc + len, stepping := false, passBrk := false, resume := none }

/-! ### The fault log -/

/-- The record that Sluice wrote last (R333). -/
def Dev.newest (d : Dev) : Option LogRec := Store.get none d.sluice.log d.sluice.lastNo

/-- The device is in RUN, no injection is armed, and the log has a free record. -/
def Dev.canLog (d : Dev) : Prop := d.power = 0 ∧ d.sluice.injections = [] ∧ d.sluice.held.length < 64

/-- From `d` to `e` the CONTAINED fault `f` has been recorded, counted and signalled (R302, R333, R334), and nothing else has changed. -/
def Dev.faulted (d e : Dev) (f : FaultInfo) : Prop :=
  e.newest = some { recOf d f with seq := d.sluice.seq + 1 } ∧ e.sluice.seq = d.sluice.seq + 1 ∧
    e.rd SLUICE.CONT_COUNT_COUNT = min (d.rd SLUICE.CONT_COUNT_COUNT + 1) (2 ^ SLUICE.CONT_COUNT_COUNT.width - 1) ∧
    e.on SLUICE.EVENTS_CONT = true ∧ regsBut d e [SLUICE.CONT_COUNT_at, SLUICE.EVENTS_at, WELL.PEND_at] ∧
    e = { d with regs := e.regs, sluice := e.sluice, well := { d.well with levels := e.well.levels } }

/-! ### Lanes -/

/-- Lane `n` has neither a primary nor a shadow, and Lathe has no window open. -/
def Dev.loneLane (d : Dev) (n : Nat) : Prop := (d.lane n).primary = none ∧ (d.lane n).shadow = none ∧ d.lathe.windows = []

/-- Lathe after lane `n` has ended, no window being open: a lane that was in SEARCH is noted as gone in the declaration log (R89). -/
def Dev.latheAfter (d : Dev) (n : Nat) : Lathe := if (d.lane n).state = .search then (d.noteFate n .gone).lathe else d.lathe

/-- From `d` to `e` lane `n` has gone to DRAIN with an outcome of R64: its record is made, `octets` stand in its buffer if it has one, and
nothing but the counters of that outcome and Lathe's note of it has changed beside. -/
def Dev.drains (d e : Dev) (n outcome : Nat) (octets : List Byte) (evm : Nat) : Prop :=
  let l := d.lane n
  let r : DrainRec := ⟨recordWords n l outcome octets.length (min evm 4095), l.group.port, l.pin, l.buf⟩
  e.lane n = { l with state := .drain, drain := some r } ∧
    (∀ m, m ≠ n → e.lane m = d.lane m) ∧
    e.sram = (match l.buf with
      | some w => (d.sramWrites w.toNat (bytesWords octets)).sram
      | none => d.sram) ∧
    regsBut d e [BASIN.NOSYNC_at l.group.port, BASIN.CAPTURES_at l.group.port, BASIN.EVENTS_at] ∧
    e = { d with regs := e.regs, sram := e.sram, basin := { d.basin with lanes := e.basin.lanes }, lathe := d.latheAfter n }

/-- No pin slot is enabled, and none holds a lane. -/
def Dev.noPins (d : Dev) : Prop := (∀ j, j < 16 → d.on (BASIN.PINC_EN j) = false) ∧ ∀ j, d.pinLane j = none

/-- Flume `n` is no slot's wake Flume. -/
def Dev.wakesNobody (d : Dev) (n : Nat) : Prop :=
  ∀ k, k < 12 → d.on (CORES.SCFG_WAKEF_EN k) = true → d.rd (CORES.SCFG_WAKEF k) ≠ n

/-- Flume `n` takes a group of `k` words whole, and no injection is armed. -/
def Dev.takesGroup (d : Dev) (n k : Nat) : Prop :=
  d.flumeOn n = true ∧ (d.flume n).entries.length + k < d.rd (FLUME.CFG_SIZE n) * 64 ∧ d.sluice.injections = [] ∧ d.wakesNobody n

/-- The Flume after a group of words has been appended, END on the last (R181, R186). -/
def Flume.withGroup (f : Flume) (ws : List TWord) : Flume :=
  { f with entries := f.entries ++ (group ws).map fun w => mkEntry w.data w.tag w.isEnd false, openGap := false, pkts := f.pkts + 1 }

/-! ### Lathe -/

/-- The checked words of context `s` read without an error, hold neither POISON nor VOID, and make the record `c`. -/
def Dev.readsCtx (d : Dev) (s : Nat) (c : Ctx) : Prop :=
  (∀ o ∈ ctxChecked, d.cleanWord (ctxAddr s o) ∧ (d.word (ctxAddr s o)).tag.bad = false) ∧ c = (d.readCtx s).1

/-- Lathe is not rebuilding, and no command of it is held for slot `s`: the slot has no event that is due or awaits its commit. -/
def Dev.quietSlot (d : Dev) (s : Nat) : Prop :=
  d.lathe.rebuilding = false ∧ (∀ h ∈ d.lathe.held, ¬ (h.slot = s ∧ h.active = true)) ∧ ∀ x ∈ d.lathe.due, x.ev.slot ≠ s

/-- Word 0x00 of context slot `s` reads without an error and is not POISON. -/
def Dev.plainState (d : Dev) (s : Nat) : Prop := d.cleanWord (ctxAddr s 0) ∧ (d.tword (ctxAddr s 0)).tag ≠ .poison

/-- The slots that a BACKBONE context spans beside its own hold no armed context (R69); any other context spans none. -/
def Dev.spanFree (d : Dev) (c : Ctx) : Prop :=
  c.kind = 1 → ∀ j, 1 ≤ j → j ≤ 3 → d.plainState (c.slot + j) ∧ wordArmed (d.tword (ctxAddr (c.slot + j) 0)) = false

/-- The record `c` admits its next event `ev`: the record has no fault, no supervision runs, and the event lies at least 20 µs ahead. -/
def Dev.admits (d : Dev) (c : Ctx) (ev : Event) : Prop :=
  d.recordFault c = none ∧ c.superv = 0 ∧ d.eventOf c = some ev ∧ d.now + usCeil 20 ≤ ev.due ∧ c.counter < 2 ^ 32

/-- From `d` to `e` the context words at the offsets `offs` have been stored as `f` says, and no other word of memory has changed. -/
def Dev.ctxStored (d e : Dev) (s : Nat) (offs : List (Nat × TWord)) : Prop :=
  (∀ o ∈ offs, e.word (ctxAddr s o.1) = ⟨o.2.data, o.2.tag, 0#43⟩) ∧
    ∀ a, (∀ o ∈ offs, a / 4 ≠ ctxAddr s o.1 / 4) → e.word a = d.word a

/-- The words of a record that Lathe writes when it schedules it (R70, R84): STATE and MISSES, COUNTER, and a LEAD context's anchor. -/
def Ctx.stored (c : Ctx) (state : Nat) : List (Nat × TWord) :=
  [(0x00, ⟨setBits c.w00 0 8 state, .raw⟩), (0x18, ⟨Word.ofNat c.counter, .nat⟩)] ++
    (if c.lead then [(0x1C, (⟨Word.ofNat (c.anchor / 1024), .time⟩ : TWord)),
      (0x20, ⟨Word.ofNat (c.anchor / 1024 / 2 ^ 32 % 65536 + c.anchor % 1024 * 65536), .raw⟩)] else [])

/-- From `d` to `e` the event `ev` of record `c` has been put into the heap, its state written, and nothing else of Lathe or memory has
changed (R84, R86). -/
def Dev.scheduled (d e : Dev) (c : Ctx) (ev : Event) : Prop :=
  d.ctxStored e c.slot (c.stored ev.state) ∧
    e.lathe = { d.lathe with
      heap := heapInsert ⟨c.slot, ev.due, c.eprio⟩ d.lathe.heap,
      backbone := if c.kind = 1 ∧ c.slot ∉ d.lathe.backbone then d.lathe.backbone ++ [c.slot] else d.lathe.backbone }

/-- From `d` to `e` context `c` has gone to LOST for reason `why`, with a notice on its port's notice Flume (R85, R93). -/
def Dev.lostWith (d e : Dev) (c : Ctx) (why : Nat) : Prop :=
  let n := d.rd (if d.planPort c.plan = 0 then LATHE.NOTE_FLUME_PORT_A else LATHE.NOTE_FLUME_PORT_B)
  d.ctxStored e c.slot [(0x00, ⟨setBits (setBits c.w00 0 8 6) 12 4 why, .raw⟩), (0x18, ⟨Word.ofNat c.counter, .nat⟩)] ∧
    e.lathe = { d.lathe with
      heap := d.lathe.heap.filter (fun x => x.slot != c.slot), backbone := d.lathe.backbone.filter fun x => x != c.slot } ∧
    e.on LATHE.EVENTS_LOST = true ∧
    e.flume n = (d.flume n).withGroup [ctxHandle c.slot, ⟨Word.ofNat (c.counter % 2 ^ 24 + why * 2 ^ 24 + 2 * 2 ^ 28), .raw⟩] ∧
    ∀ m, m ≠ n → e.flume m = d.flume m

/-- The notice Flumes of both ports take a notice whole. -/
def Dev.takesNotices (d : Dev) : Prop :=
  d.takesGroup (d.rd LATHE.NOTE_FLUME_PORT_A) 2 ∧ d.takesGroup (d.rd LATHE.NOTE_FLUME_PORT_B) 2

/-! ### Synthesisers and transmit chains -/

/-- From `d` to `e` the newest record of the fault log tells of the fault `f`, under the next SEQ (R333). -/
def Dev.tells (d e : Dev) (f : FaultInfo) : Prop :=
  e.newest.map (fun r => [r.cls, r.code, r.kind, r.inst, r.reaction, r.d0, r.d1, r.agent, r.seq]) =
    some [faultClass f.code, f.code, f.kind, f.inst, f.reaction, f.d0, f.d1, f.agent, d.sluice.seq + 1] ∧
  e.sluice.seq = d.sluice.seq + 1

/-- From `d` to `e` port `p`'s synthesiser and chain have become `r`, and only the registers `l` have changed beside. -/
def Dev.rfBecomes (d e : Dev) (p : Nat) (r : Rf) (l : List Nat) : Prop :=
  e.rfp p = r ∧ (∀ q, q ≠ p → e.rfp q = d.rfp q) ∧ regsBut d e l ∧ e = { d with regs := e.regs, rf := e.rf }

/-- The same, where the port has been blanked or has stopped being active with no lane receiving on it: its undecided declarations are gone
and its span of activity ended (R38, R61). -/
def Dev.rfBlanks (d e : Dev) (p : Nat) (r : Rf) (l : List Nat) : Prop :=
  e.rfp p = r ∧ (∀ q, q ≠ p → e.rfp q = d.rfp q) ∧ regsBut d e l ∧
    e.basin = { d.basin with decls := d.basin.decls.filter fun x => x.port != p } ∧
    e = { d with regs := e.regs, rf := e.rf, basin := e.basin, lathe := { d.lathe with spans := e.lathe.spans } }

/-- No lane receives on port `p`. -/
def Dev.portQuiet (d : Dev) (p : Nat) : Prop := ∀ n, n < 72 → (d.lane n).group.port = p → (d.lane n).state.running = false

/-- The synthesiser with calibration frequency `f`, its cache entry the most recently used, after a hit (R106). -/
def Syn.hit (s : Syn) (f : Nat) : Syn :=
  { s with
    calFreq := f,
    cache := s.cache.filter (fun x => x.1 == f / 2000000) ++ s.cache.filter (fun x => x.1 != f / 2000000) }

/-- Whether frequency `f` hits the cache at a junction temperature (R106). -/
def Syn.hits (s : Syn) (f : Nat) (temp : Int) : Prop := ∃ x ∈ s.cache, x.1 = f / 2000000 ∧ (x.2 - temp).natAbs ≤ 15

/-- The synthesiser after a calibration of `f` has been stored: the segment foremost, at most 16 entries (R106). -/
def Syn.stored (s : Syn) (f : Nat) (temp : Int) : Syn :=
  { s with cache := ((f / 2000000, temp) :: s.cache.filter fun x => x.1 != f / 2000000).take 16 }

/-- The four words of a transmit report (R118). -/
def reportWords (p : Nat) (id : TWord) (outcome why ctr : Nat) (power : Int) (clamped cal ramped : Bool) (start paOn : Nat) : List TWord :=
  [id, ⟨Word.ofNat (outcome * 2 ^ 28 + why * 2 ^ 24 + p * 2 ^ 23 + ctr * 2 ^ 15 + twos 9 power * 2 ^ 6 + clamped.toNat * 2 ^ 5 + cal.toNat * 2 ^ 4
      + ramped.toNat * 2 ^ 3), .raw⟩,
   ⟨Word.ofNat (start / 1024), .time⟩, ⟨Word.ofNat (start % 1024 * 2 ^ 22 + paOn % 2 ^ 22), .raw⟩]

/-- From `d` to `e` the report `ws` stands on port `p`'s report Flume, counted as sent or failed, and no other Flume has changed. -/
def Dev.reports (d e : Dev) (p : Nat) (sent : Bool) (ws : List TWord) : Prop :=
  let n := d.rd (RF.TXCFG_RES_FLUME p)
  let c := if sent then RF.SENT_COUNT p else RF.FAILED_COUNT p
  e.flume n = (d.flume n).withGroup ws ∧ (∀ m, m ≠ n → e.flume m = d.flume m) ∧ e.rd c = min (d.rd c + 1) (2 ^ c.width - 1)

/-- A power in steps of 0.25 dB within the amplifier's range (R108). -/
def inRange (v : Int) : Int := if v < -40 then -40 else if 108 < v then 108 else v

/-- The outcome of a request that ends with no ramp, reported for a request with frame `x` or none (R116, R118). -/
def Dev.ended (d : Dev) (p : Nat) (t : TxReq) (outcome why : Nat) : List TWord :=
  reportWords p ⟨t.id, if t.sched then .ctx else .nat⟩ outcome why t.ctr
    (match t.desc with
     | some x => inRange (x.power + d.rdS (RF.PACAL_TRIM p))
     | none => 0) false false false 0 0

/-- The words of a packet as Flume entries, END on the last (R179, R186). -/
def packet (ws : List TWord) : List FEntry := (group ws).map fun w => mkEntry w.data w.tag w.isEnd false

/-- Flume `n` is on, no reader is stalled on it, and the packet `ws` stands at its head before the entries `rest`. -/
def Dev.waits (d : Dev) (n : Nat) (ws : List TWord) (rest : List FEntry) : Prop :=
  d.flumeOn n = true ∧ (d.flume n).stalled = [] ∧ (d.flume n).pkts ≠ 0 ∧ (d.flume n).entries = packet ws ++ rest

/-- The Flume after a head packet of `k` entries has been read (R185, R186). -/
def Flume.afterPacket (f : Flume) (k : Nat) (rest : List FEntry) : Flume :=
  { f with
    entries := rest, pkts := if rest.isEmpty then 0 else f.pkts - 1, openGap := f.openGap && !rest.isEmpty,
    headPos := f.headPos + k, suspect := !rest.isEmpty && f.suspect }

/-- The device after the head packet of `k` entries of Flume `n` has been read. -/
def Dev.consumed (d : Dev) (n k : Nat) (rest : List FEntry) : Dev := d.setFlume n ((d.flume n).afterPacket k rest)

/-- A frame of `len` octets stands at `a` in words that read without an error and are tagged BYTES, and `o` are its octets. -/
def Dev.holdsFrame (d : Dev) (a len : Nat) (o : List Byte) : Prop :=
  (∀ i, i < (len + 3) / 4 → d.cleanWord (a + 4 * i) ∧ (d.word (a + 4 * i)).tag = .bytes) ∧
    o = ((List.range ((len + 3) / 4)).flatMap fun i => octetsOf (d.word (a + 4 * i)).data).take len

/-- The claim lead of R111 on port `p` for a frequency that hits the cache or misses it, in 1/1,024 tick. -/
def Dev.leadTo (d : Dev) (p : Nat) (hit : Bool) : Nat :=
  usCeil (max 130 (d.rd (RF.TXCFG_PREP p)) + (if hit then 0 else 160) + (if d.rd (RF.SYN_STATUS_STATE p) = 0 then 40 else 0))

/-- From `d` to `e` a request of port `p` has ended with the report `ws`, its chain and synthesiser having become `r`; `l` are the registers
that changed beside the count and EVENTS. -/
def Dev.endsRequest (d e : Dev) (p : Nat) (r : Rf) (ws : List TWord) (l : List Nat) : Prop :=
  d.reports e p false ws ∧ e.rfp p = r ∧ (∀ q, q ≠ p → e.rfp q = d.rfp q) ∧ regsBut d e (RF.FAILED_at p :: RF.EVENTS_at p :: l) ∧
    e = { d with regs := e.regs, flumes := e.flumes, rf := e.rf }

/-- From `d` to `e` the words `ws` have been stored from address `a` on, and no other word of memory has changed. -/
def Dev.wrote (d e : Dev) (a : Nat) (ws : List TWord) : Prop :=
  (∀ i w, ws[i]? = some w → e.word (a + 4 * i) = ⟨w.data, w.tag, 0#43⟩) ∧
    ∀ x, (∀ i, i < ws.length → x / 4 ≠ (a + 4 * i) / 4) → e.word x = d.word x

/-- The `n` octets from address `a` are `o`, in words that read without an error and hold neither POISON nor VOID. -/
def Dev.octetsStand (d : Dev) (a n : Nat) (o : List Nat) : Prop :=
  (∀ i, i < (n + 3) / 4 → d.cleanWord (a + 4 * i) ∧ (d.word (a + 4 * i)).tag.bad = false) ∧
    o = ((List.range ((n + 3) / 4)).flatMap fun i => (octetsOf (d.word (a + 4 * i)).data).map BitVec.toNat).take n

/-- The `n` octets from `a` lie in banks in service. -/
def Dev.writable (d : Dev) (a n : Nat) : Prop := a % 4 = 0 ∧ a + n ≤ 0x600000 ∧ ∀ i, i < (n + 3) / 4 → d.bankDead (a + 4 * i) = false

/-! ### Chisel -/

/-- The five words of a job's result (R161). -/
def resultWords (j : Job) (status outLen counter bitmap : Nat) (exh : Bool) : List TWord :=
  [j.words.getD 7 ⟨0#32, .raw⟩,
   ⟨Word.ofNat (status * 2 ^ 27 + j.mode * 2 ^ 23 + j.dir.toNat * 2 ^ 22 + j.core * 2 ^ 18 + j.queue * 2 ^ 16 + exh.toNat * 2 ^ 15), .raw⟩,
   ⟨Word.ofNat outLen, .nat⟩, ⟨Word.ofNat counter, .nat⟩, ⟨Word.ofNat bitmap, .raw⟩]

/-- From `d` to `e` the one running job `j` has ended with the result `ws`; a job that ended OK counts in JOBS, any other in FAILS. -/
def Dev.jobEnds (d e : Dev) (j : Job) (ok : Bool) (ws : List TWord) : Prop :=
  let n := d.rd (CHISEL.QCFG_RES_FLUME j.queue)
  let c := if ok then CHISEL.JOBS_COUNT else CHISEL.FAILS_COUNT
  e.flume n = (d.flume n).withGroup ws ∧ (∀ m, m ≠ n → e.flume m = d.flume m) ∧ e.rd c = min (d.rd c + 1) (2 ^ c.width - 1) ∧
    e.chisel.jobs = [] ∧ regsBut d e [c.addr, CHISEL.EVENTS_at]

/-- What a job dispatch sees: no job runs, queue `q` is the first enabled one, the descriptor `ws` heads it before `rest`, core `c` serves, and
no cut descriptor heads a later queue. -/
def Dev.dispatches (d : Dev) (c q : Nat) (ws : List TWord) (rest : List FEntry) : Prop :=
  d.chisel.jobs = [] ∧ q < 4 ∧ (∀ r, r < q → d.on (CHISEL.QCFG_EN r) = false) ∧ d.on (CHISEL.QCFG_EN q) = true ∧
    (∃ i, i < 8 ∧ Store.get i d.chisel.pos i = c) ∧ ws.length = 8 ∧ d.waits (d.rd (CHISEL.QCFG_JOB_FLUME q)) ws rest ∧
    ∀ r, q < r → r < 4 → d.on (CHISEL.QCFG_EN r) = true → let n := d.rd (CHISEL.QCFG_JOB_FLUME r)
      (d.flume n).stalled = [] ∧ ((d.flume n).pkts = 0 ∨ d.wholeHead n 8 = true)

/-! ### Aqueduct -/

/-- From `d` to `e` port `p` beside its registers has become `a`, and only the registers `l` have changed beside. -/
def Dev.aqBecomes (d e : Dev) (p : Nat) (a : AqPort) (l : List Nat) : Prop :=
  e.aq p = a ∧ (∀ q, q ≠ p → e.aq q = d.aq q) ∧ regsBut d e l ∧ e = { d with regs := e.regs, aqua := e.aqua }

/-- LQ[p] shows SNR and EVM of the slicer inputs `y` at a rate (R210). -/
def Dev.showsQuality (e : Dev) (p rate : Nat) (y : List Int) : Prop :=
  e.rd (AQUA.LQ_SNR p) = (lineQuality (rateBits rate) y).1 ∧ e.rd (AQUA.LQ_EVM p) = (lineQuality (rateBits rate) y).2

/-- From `d` to `e` port `p`, with no frame in progress, has gone to a link state, a link that was up or in training counting a loss for
`reason` (R199). -/
def Dev.aqDowns (d e : Dev) (p state reason : Nat) (want : Bool) (back : Option Nat) : Prop :=
  e.rd (AQUA.LINK_STATE p) = state ∧
    (2 ≤ d.rd (AQUA.LINK_STATE p) → d.rd (AQUA.LINK_STATE p) ≤ 4 → e.rd (AQUA.LINK_REASON p) = reason ∧
      e.rd (AQUA.DOWNS_COUNT p) = min (d.rd (AQUA.DOWNS_COUNT p) + 1) (2 ^ (AQUA.DOWNS_COUNT p).width - 1) ∧
      e.on (if p = 0 then AQUA.EVENTS_LINKDOWN_A else AQUA.EVENTS_LINKDOWN_B) = true) ∧
    d.aqBecomes e p { d.aq p with phase := 0, backoff := back, burst := 0, want := want, line := [], nextSync := 0 }
      [AQUA.LINK_at p, AQUA.DOWNS_at p, AQUA.EVENTS_at, AQUA.PCTRL_at p]

/-- Port `p` sends and receives no frame and its repeat buffer is empty. -/
def Dev.aqStill (d : Dev) (p : Nat) : Prop := (d.aq p).rx = none ∧ (d.aq p).tx = none ∧ (d.aq p).rpt = none

/-- The three words of a cable transmit report (R212). -/
def cableReport (p : Nat) (id : Word) (outcome : Nat) (clamped : Bool) (amp stamp : Nat) : List TWord :=
  [⟨id, .nat⟩, ⟨Word.ofNat (outcome * 2 ^ 28 + p * 2 ^ 27 + clamped.toNat * 2 ^ 26 + stamp % 1024 * 2 ^ 8 + amp), .raw⟩,
   ⟨Word.ofNat (stamp / 1024), .time⟩]

/-! ### Cistern -/

/-- The Cistern's sequence logic idle, its latest step now. -/
def Dev.seqIdle (d : Dev) : Dev := { d with cist := { d.cist with seq := .idle, seqTick := d.tick } }

/-- A sequence or operation has ended with an ERR code (R282, R284, R294). -/
def Dev.withErr (d : Dev) (code op : Nat) : Dev := ((d.wr CIST.ERR_CODE code).wr CIST.ERR_OP op).setF CIST.EVENTS_ERR

/-- From `d` to `e` an accepted operation has ended with a result, its completion word written where CFG.DONE_EN is 1 (R285). -/
def Dev.opEnds (d e : Dev) (op result block : Nat) : Prop :=
  let n := d.rd CIST.CFG_DONE_FLUME
  e.cist.op = none ∧ e.on CIST.EVENTS_DONE = true ∧ e.on CIST.STATUS_SUSP_PEND = false ∧
    (result ≠ 0 → e.rd CIST.ERR_CODE = result ∧ e.rd CIST.ERR_OP = op ∧ e.on CIST.EVENTS_ERR = true) ∧
    (d.on CIST.CFG_DONE_EN = false → e.flumes = d.flumes) ∧
    (d.on CIST.CFG_DONE_EN = true → e.flume n = (d.flume n).withGroup [⟨Word.ofNat (op * 2 ^ 28 + result * 2 ^ 24 + block), .nat⟩] ∧
      ∀ m, m ≠ n → e.flume m = d.flume m)

/-- The completion word, if one is to be written, finds room. -/
def Dev.canReport (d : Dev) : Prop := d.on CIST.CFG_DONE_EN = true → d.takesGroup (d.rd CIST.CFG_DONE_FLUME) 1
/-! ### Sluice and the repair engine -/

/-- Sluice can log a fault that nothing coalesces with: the device is in RUN, no injection is armed, the log holds no record. -/
def Dev.freshLog (d : Dev) : Prop := d.power = 0 ∧ d.sluice.injections = [] ∧ d.sluice.held = []

/-- The registers that a new record of the fault log writes. -/
def logRegs : List Nat := [SLUICE.CORR_COUNT_at, SLUICE.CONT_COUNT_at, SLUICE.EVENTS_at, WELL.PEND_at]

/-- From `d` to `e` the log has taken the fault `f`, and nothing else of Sluice and Wellspring beside their registers has changed. -/
def Dev.logs (d e : Dev) (f : FaultInfo) : Prop :=
  d.tells e f ∧ e.sluice = { d.sluice with log := e.sluice.log, lastNo := e.sluice.lastNo, seq := e.sluice.seq } ∧
    e.well = { d.well with levels := e.well.levels }

/-- From `d` to `e` unit (kind, inst) has been fenced, its FENCED record naming the unit now serving, the reaction and the agent. -/
def Dev.fences (d e : Dev) (kind inst serving reaction agent agentNo : Nat) : Prop :=
  e.unitFenced kind inst = true ∧ e.on REPAIR.EVENTS_FENCED = true ∧
    (∃ left, d.tells e ⟨0x12, kind, inst, serving, left, reaction, agent, agentNo, false⟩)

/-- No rotation of a core kind is under way or waits, and the loader is not busy. -/
def Dev.coresAtRest (d : Dev) (kind : Nat) : Prop :=
  (∀ r ∈ d.repair.rots, r.kind ≠ kind) ∧ d.repair.coreQueue = [] ∧ d.on CORES.PL_STATUS_BUSY = false

/-- From `d` to `e` the rotation `r` has begun (R341): its slot is ROTATING, to go back to its state, and every slot keeps its unit and its
architectural state until the rotation ends. -/
def Dev.rotates (d e : Dev) (r : CoreRot) : Prop :=
  e.slotState r.slot = 5 ∧ e.repair.rots = d.repair.rots ++ [r] ∧ e.repair.coreQueue = [] ∧
    Store.get none e.repair.paused r.slot = some ⟨d.slotState r.slot, []⟩ ∧ e.on REPAIR.STATUS_BUSY = true ∧ e.rd REPAIR.STATUS_KIND = r.kind ∧
    (∀ j, j < 12 → e.rd (assignFld j) = d.rd (assignFld j) ∧ e.slot j = d.slot j) ∧ e.sram = d.sram ∧ e.flumes = d.flumes

/-- The test of schedule `k` that runs. -/
def Dev.testOf (d : Dev) (k : Nat) : Option TestRun := Store.get none d.repair.tests k

/-- From `d` to `e` a test of unit (kind, inst) has been counted and shown (R359). -/
def Dev.testShown (d e : Dev) (kind inst : Nat) (pass : Bool) : Prop :=
  e.rd REPAIR.LAST_TEST_KIND = kind ∧ e.rd REPAIR.LAST_TEST_INST = inst ∧ e.on REPAIR.LAST_TEST_PASS = pass ∧
    e.rd REPAIR.LAST_TEST_TICK = d.tick % 2 ^ REPAIR.LAST_TEST_TICK.width ∧
    e.rd REPAIR.TESTS_COUNT = min (d.rd REPAIR.TESTS_COUNT + 1) (2 ^ REPAIR.TESTS_COUNT.width - 1) ∧
    (pass = false → e.on REPAIR.EVENTS_TESTFAIL = true ∧
      e.rd REPAIR.TESTFAILS_COUNT = min (d.rd REPAIR.TESTFAILS_COUNT + 1) (2 ^ REPAIR.TESTFAILS_COUNT.width - 1))

/-! ### Wellspring -/

/-- No port's RF has anything in progress: nothing is transmitted, held or scheduled, no lane receives, no declaration waits, and the
synthesisers are off. -/
def Dev.rfQuiet (d : Dev) : Prop :=
  (∀ p, p < 2 → (d.rfp p).tx = ⟨[], none, none⟩ ∧ d.rd (RF.SYN_STATUS_STATE p) = 0 ∧ d.portQuiet p) ∧ d.basin.decls = [] ∧ d.lathe.spans = []

/-- The wake source `src` is enabled and can wake the power state `st` (R302). -/
def Dev.wakeable (d : Dev) (src st : Nat) : Prop := src < 16 ∧ (d.rd WELL.WAKE_EN_SOURCES).testBit src = true ∧ (wakesFrom src).testBit st = true

/-- From `d` to `e` a wake has begun from the state last left (R303): STATE is WAKING and WAKE_CAUSE shows the sources. -/
def Dev.waking (d e : Dev) (sources : Nat) (replayed early : Bool) : Prop :=
  e.power = 6 ∧ e.rd WELL.WAKE_CAUSE_SOURCES = sources ∧ e.rd WELL.WAKE_CAUSE_FROM = d.well.leaving ∧ e.on WELL.WAKE_CAUSE_REPLAYED = replayed ∧
    e.on WELL.WAKE_CAUSE_EARLY = early ∧ (replayed = true → e.on WELL.EVENTS_REPLAYED = true) ∧ (early = true → e.on WELL.EVENTS_EARLY = true)

/-- LB.0's request to sleep has been declined (R296). -/
def Dev.declined (d e : Dev) : Prop :=
  e.power = 0 ∧ e.on WELL.EVENTS_DECLINED = true ∧ e.on WELL.WAKE_CAUSE_DECLINED = true ∧ e.slotState 8 = 1 ∧
    regsBut d e [WELL.EVENTS_at, WELL.WAKE_CAUSE_at, WELL.STATUS_at, CORES.STATUS_at 8] ∧ e = { d with regs := e.regs }

/-- The core domain has started after an event (R312): RESET_CAUSE names it, the device is in RUN with every Flume empty, every served slot
booting at the reset values of R223 and every other one unserved. -/
def Dev.started (e : Dev) (why : Nat) : Prop :=
  e.rd WELL.RESET_CAUSE_WHY = why ∧ e.power = 0 ∧ e.flumes = [] ∧ e.well.coreOff = false ∧
    ∀ j, j < 12 → e.slot j = Slot.reset ∧ e.slotState j = if e.rd (assignFld j) = 15 then 6 else 7

/-! ### Clepsydra -/

/-- The latest edge has left nothing to carry out, no reader is stalled, no port is active, and no reset waits for the next edge. -/
def Dev.edgeQuiet (d : Dev) : Prop :=
  d.clep.timers = [] ∧ (∀ x ∈ d.clep.dmon, x.2.due = false) ∧ d.clep.secondDue = false ∧ d.clep.bucketDue = false ∧ d.clep.heartDue = false ∧
    (∀ x ∈ d.flumes, x.2.stalled = []) ∧ d.repair.chiselMove = none ∧ d.repair.rots = [] ∧ d.repair.coreQueue = [] ∧ d.anyActive = false ∧ d.sluice.fPending = false ∧ d.spout.held = []

/-- Timer `n` takes one unit step (R321, R322) that brings COUNT from `c` to `c'`: it is as after the step, a match left to serve. -/
def Dev.stepped (d e : Dev) (n c' : Nat) : Prop :=
  e.rd (TIM.COUNT_COUNT n) = c' ∧ e.timerDue n = ⟨0, d.on (TIM.CFG_CMP_EN n) && c' == d.rd (TIM.CMP_CMP n)⟩

/-- From `d` to `e` a crystal edge has advanced TICK by `adv` (R318, R326): the timers of source TICK that have room have counted, armed monitors
whose deadline was reached wait to expire, and SUBSEC has counted. -/
def Dev.edged (d e : Dev) (adv : Nat) : Prop :=
  e.tick = (d.tick + adv) % 2 ^ 48 ∧ e.clep.frac = 0#10 ∧ e.clep.swallowed = (adv == 0) ∧
    e.rd CAL.SUBSEC_SUBSEC = (d.rd CAL.SUBSEC_SUBSEC + adv) % 32768 ∧
    (e.clep.secondDue = true ↔ 32768 ≤ d.rd CAL.SUBSEC_SUBSEC + adv) ∧
    (e.clep.heartDue = true ↔ d.tick / 2048 ≠ (d.tick + adv) / 2048) ∧ (e.clep.bucketDue = true ↔ d.tick / 1966080 ≠ (d.tick + adv) / 1966080) ∧
    (∀ n, n < 16 → d.on (TIM.CFG_SRC n) = false → d.rd (TIM.COUNT_COUNT n) + 1 < d.rd (TIM.PERIOD_PERIOD n) →
      (adv = 0 → e.rd (TIM.COUNT_COUNT n) = d.rd (TIM.COUNT_COUNT n) ∧ e.timerDue n = ⟨0, false⟩) ∧
      (adv = 1 → d.stepped e n (d.rd (TIM.COUNT_COUNT n) + 1)) ∧
      (adv = 2 → d.on (TIM.CFG_CMP_EN n) = false → d.stepped e n (d.rd (TIM.COUNT_COUNT n) + 2))) ∧
    (∀ n, n < 16 → d.on (TIM.CFG_SRC n) = false → d.rd (TIM.COUNT_COUNT n) = d.rd (TIM.PERIOD_PERIOD n) →
      e.rd (TIM.COUNT_COUNT n) = d.rd (TIM.COUNT_COUNT n) ∧ e.timerDue n = ⟨adv, false⟩) ∧
    (∀ m, (d.mon m).armed = true → (d.mon m).atNext = false → (e.mon m).armed = true ∧
      ((e.mon m).due = true ↔ 1 ≤ (d.rd (CLEP.DMON_DEADLINE m) + 2 ^ 32 - d.tick % 2 ^ 32) % 2 ^ 32 ∧
        (d.rd (CLEP.DMON_DEADLINE m) + 2 ^ 32 - d.tick % 2 ^ 32) % 2 ^ 32 ≤ adv)) ∧
    e.sram = d.sram ∧ e.cores = d.cores ∧ e.flumes = d.flumes ∧ e.lathe = d.lathe

/-- A match of timer `n` has been served (R322), CMP advancing from `c`; the device is in RUN. -/
def Dev.matched (d e : Dev) (n c : Nat) : Prop :=
  e.on (TIM.STATUS_MATCH n) = true ∧ e.rd (TIM.STATUS_MATCHES n) = (d.rd (TIM.STATUS_MATCHES n) + 1) % 256 ∧
    e.rd (TIM.CMP_CMP n) = (c + d.rd (TIM.INTERVAL_INTERVAL n)) % (d.rd (TIM.PERIOD_PERIOD n) + 1) ∧
    (e.on (TIM.CFG_CMP_EN n) = (d.on (TIM.CFG_CMP_EN n) && !d.on (TIM.CFG_STOP n))) ∧
    e.rd WELL.PEND_SOURCES = (if d.on (TIM.CFG_WAKE n) then d.rd WELL.PEND_SOURCES ||| 1 else d.rd WELL.PEND_SOURCES)

/-- From `d` to `e` the trim measurement has ended FAILED with a reason (R330). -/
def Dev.measFailed (d e : Dev) (why : Nat) : Prop :=
  e.rd CLEP.MEAS_STATUS_STATE = 3 ∧ e.rd CLEP.MEAS_STATUS_WHY = why ∧ e.clep = { d.clep with meas := none, frac := e.clep.frac } ∧
    e = { d with regs := e.regs, clep := e.clep }

/-- The trim measurement has ended DONE with a proposal, which AUTO applies when it lies within 8 × MAXSTEP of TRIM (R330, R331). -/
def Dev.measDone (d e : Dev) (prop : Int) : Prop :=
  let auto := d.on CLEP.MEAS_CTRL_AUTO = true ∧ (prop - d.trim).natAbs ≤ 8 * d.rd CLEP.MEAS_CTRL_MAXSTEP
  e.rd CLEP.MEAS_STATUS_STATE = 2 ∧ e.rd CLEP.MEAS_STATUS_WHY = 0 ∧ e.rd CLEP.PROPOSAL_VALUE = twos 16 prop ∧ e.clep.meas = none ∧
    (auto → e.rd CLEP.TRIM_VALUE = twos 16 prop ∧ e.on CLEP.MEAS_STATUS_APPLIED = true) ∧ (¬ auto → e.rd CLEP.TRIM_VALUE = d.rd CLEP.TRIM_VALUE) ∧
    regsBut d e [CLEP.MEAS_STATUS_at, CLEP.PROPOSAL_at, CLEP.TRIM_at] ∧ e = { d with regs := e.regs, clep := e.clep }

/-! ### Spout and the serial ports -/

/-- The Spout engine works and has taken command `h`, with opcode `op`, which it has not yet carried out (R363). -/
def Dev.engaged (d : Dev) (h : HeldCmd) (op : Nat) : Prop := d.engineUp = true ∧ d.taken = some h ∧ h.phase = 1 ∧ h.opcode = op

/-- The engine's count of opcodes carried out has risen. -/
def Dev.counted (d : Dev) : Dev := d.inc SPOUT.RX_OK_COUNT

/-- The command held by the transport of `h` has become `h'`. -/
def Dev.heldBecomes (d : Dev) (h h' : HeldCmd) : Dev :=
  { d with spout := { d.spout with held := d.spout.held.map fun x => if x.src == h.src then h' else x } }

/-- The transport of `h` is free. -/
def Dev.released (d : Dev) (src : Nat) : Dev := { d with spout := { d.spout with held := d.spout.held.filter fun x => x.src != src } }

/-- The run of `n` words from `a` lies in SRAM and reads without an error. -/
def Dev.cleanRun (d : Dev) (a n : Nat) : Prop := a % 4 = 0 ∧ ∀ i, i < n → d.cleanWord (a + 4 * i)

/-- The data of the words of a run, low octet first. -/
def Dev.runData (d : Dev) (a n : Nat) : List Byte := (List.range n).flatMap fun i => octetsOf (d.word (a + 4 * i)).data

/-- The QSP slave serves a transaction, its select already sensed (R302, R372). -/
def Dev.slaveOpen (d : Dev) : Prop := d.slaveServes = true ∧ d.well.levels.getLsbD 11 = true

/-- From `d` to `e` the indirect frame of QSP master `n` has ended with a result, after `len` data octets (R376). -/
def Dev.frameEnds (d e : Dev) (n result len : Nat) : Prop :=
  let fl := d.rd (QSP.CTRL_DONE_FLUME n)
  e.qspFrame n = none ∧ e.rd (QSP.STATUS_RESULT n) = result ∧ e.rd (QSP.STATUS_DONE_LEN n) = len ∧ e.on (doneFld n) = true ∧
    (d.on (QSP.CTRL_DONE_EN n) = false → e.flumes = d.flumes) ∧
    (d.on (QSP.CTRL_DONE_EN n) = true → d.takesGroup fl 1 → e.flume fl = (d.flume fl).withGroup [⟨Word.ofNat result, .nat⟩] ∧ ∀ m, m ≠ fl → e.flume m = d.flume m)


/-! ### Amelaog -/

/-- Amelaog's notice, if one is to be written, finds room, and no Cistern operation writes a completion word. -/
def Dev.canNote (d : Dev) : Prop :=
  (d.on SYS.AM_CFG_NOTE_EN = true → d.takesGroup (d.rd SYS.AM_CFG_NOTE_FLUME) 1) ∧ d.on CIST.CFG_DONE_EN = false

/-- From `d` to `e` an outcome has been recorded in AM_RESULT, AM_EVENTS.DONE set, and a notice written where NOTE_EN is 1 (R384, R385). -/
def Dev.amTells (d e : Dev) (note typ code index : Nat) : Prop :=
  let n := d.rd SYS.AM_CFG_NOTE_FLUME
  e.rd SYS.AM_RESULT_CODE = code ∧ e.rd SYS.AM_RESULT_INDEX = index ∧ e.on SYS.AM_EVENTS_DONE = true ∧
    (d.canNote →
      (d.on SYS.AM_CFG_NOTE_EN = false → e.flumes = d.flumes) ∧
      (d.on SYS.AM_CFG_NOTE_EN = true →
        e.flume n = (d.flume n).withGroup [⟨Word.ofNat (note * 2 ^ 28 + typ % 16 * 2 ^ 24 + code * 2 ^ 16 + index), .nat⟩] ∧
        ∀ m, m ≠ n → e.flume m = d.flume m))

/-- From `d` to `e` an outcome that concerns a set of types has been recorded; the TYPE of its notice is free (log entry 3). -/
def Dev.amTellsSet (d e : Dev) (code : Nat) : Prop := ∃ typ, d.amTells e 4 typ code 0

/-- From `d` to `e` a header has been refused with a code (R385): the Cistern and memory stand as they did and the engine is IDLE. -/
def Dev.hdrRefused (d e : Dev) (typ code : Nat) : Prop :=
  d.amTells e 1 typ code 0 ∧ e.on SYS.AM_EVENTS_REFUSED = true ∧ e.amState = 0 ∧ e.cist = d.cist ∧ e.sram = d.sram ∧ e.am = d.am ∧
    (d.canNote → regsBut d e [SYS.AM_RESULT_at, SYS.AM_EVENTS_at, SYS.AM_STATUS_at])

/-- From `d` to `e` reception has been closed (R387, R388). -/
def Dev.amCloses (d e : Dev) (typ code index : Nat) : Prop :=
  d.amTells e 3 typ code index ∧ e.amState = 0 ∧ e.am = Am.reset ∧ (code ≠ 0x18 → e.on SYS.AM_EVENTS_REFUSED = true)

/-- Amelaog's queue is enabled and its workspace lies in SRAM, 64-byte aligned (R385). -/
def Dev.amReady (d : Dev) : Prop :=
  d.on (CHISEL.QCFG_EN (d.rd SYS.AM_CFG_QUEUE)) = true ∧ d.rd SYS.AM_WORK_ADDR % 64 = 0 ∧ d.rd SYS.AM_WORK_ADDR + 8256 ≤ 0x600000

/-- The images that a set would put in force read without an error: no operation holds their blocks, no line is torn or has a bit in error. -/
def Dev.cleanImages (d : Dev) (set : List Nat) : Prop :=
  ∀ t ∈ set, ∀ k, d.waitingSlot t = some k → ∀ n, cistLineNo (regionAt t k) ≤ n → n < cistLineNo (regionEnd t k) →
    d.blockReadable (n / 2048) = true ∧ ∀ l, d.cistLine n = some l → l.torn = false ∧ l.flip = 0#256

/-- The activation or trial has ended, confirmed or undone: the engine is IDLE and the spares are free (R391). -/
def Dev.amDone (d e : Dev) (code : Nat) : Prop :=
  e.amState = 0 ∧ e.rd SYS.AM_STATUS_SET = 0 ∧ e.am = Am.reset ∧ e.cores.spareHeld = [] ∧ d.amTellsSet e code

/-- From `d` to `e` fallback has begun with DETAIL (R394).  Where converted slots of a core kind come first, it waits for their conversion back;
where no slot or lane is left to convert back, it has ended: the old slots are in force again, and each new slot carries a REVOKED line. -/
def Dev.fellBack (d e : Dev) (detail : Nat) : Prop :=
  (∀ g x l r, d.am.undo = (g, x :: l) :: r → g = 1 ∨ g = 2 → (∀ u ∈ r, u.1 ≠ 3) →
    e.amState = 6 ∧ e.rd SYS.AM_RESULT_DETAIL = detail ∧ e.am = { d.am with order := [], since := d.tick } ∧
      regsBut d e [SYS.AM_STATUS_at, SYS.AM_RESULT_at] ∧ e = { d with regs := e.regs, am := e.am }) ∧
  ((∀ u ∈ d.am.undo, u.2 = [] ∧ (u.1 = 1 ∨ u.1 = 2 ∨ u.1 = 5 ∨ u.1 = 6)) → d.am.undo.length < 8 →
    d.amDone e 0x26 ∧ e.rd SYS.AM_RESULT_DETAIL = detail ∧ e.on SYS.AM_EVENTS_FELLBACK = true ∧
      (∀ u ∈ d.am.undo, d.oldSlot u.1 < 4 → e.inforce u.1 = d.oldSlot u.1) ∧
      (d.cistFenced = false → (∀ t ∈ d.amSet, d.newSlot t < 2 ∧ ∃ x ∈ d.am.new, x.1 = t) → ∀ t ∈ d.amSet, let n := cistLineNo (regionEnd t (d.newSlot t) - 32)
        d.cistLine n = none → e.cistLine n = some ⟨markLine [3#32], 0#256, false⟩))

end Sys2Proof.Machine
end

