-- ==== Sys2Proof/Certificates/Slice0/Obligations.lean ====
section
/-! DEFINITION. The statements for the provers. -/

open Sys2Proof Sys2Proof.Machine

/-! ### The block as a whole -/

/-- A step takes the command at the front of the queue and does what `exec` does with it on the machine with the queue's rest, whatever
the command and its operands; with an empty queue the block stays as it is (log entry 1). -/
def Obligations.StepRunsTheFrontCommand : Prop :=
  (∀ (c : Instr) (s : State), step { s with pending := c :: s.pending } = exec c s) ∧
  (∀ s : State, s.pending = [] → step s = .next s)

/-- Every command, in every state, answers a next state whose queue is the one it found. -/
def Obligations.EveryCommandCompletes : Prop :=
  ∀ (c : Instr) (s : State), ∃ t, exec c s = .next t ∧ t.pending = s.pending

/-- R125, R290, R293: the lock cells are one-way.  Whatever command runs, in whatever state, no lock that was set is clear afterwards, and
TEST_CLOSED stays closed. -/
def Obligations.LockCellsAreOneWay : Prop :=
  ∀ (s t : State), step s = .next t → s.cells.kept t.cells

/-- The machine right after reset (R9): every register reads its reset value, SRAM reads blank words, every slot has the reset values of
R223, every Flume is empty, no lock is set, and nothing waits in the queue; the sparse memories have their canonical form. -/
def Obligations.ResetState : Prop :=
  State.reset.pending = [] ∧ State.reset.cells = ⟨0#11, false⟩ ∧
  (∀ a, State.reset.dev.reg a = resetWord a) ∧ (∀ a, State.reset.dev.word a = ⟨0#32, .void, 0#43⟩) ∧
  (∀ k, State.reset.dev.slot k = Slot.reset) ∧ (∀ n, State.reset.dev.flume n = Flume.empty ∧ State.reset.dev.flumeOn n = false) ∧
  State.reset.dev.sramWf = true ∧ State.reset.dev.regsWf = true

/-! ### The bus (chapter 00) -/

/-- R5, R6, R8, R30, R31, R32, R125, R127, R225, R269: a whole aligned word stored to SRAM replaces data, tag (RAW) and code of that word and nothing else; a register
takes it by its access codes; an unlisted register offset ignores it; an access that is not one aligned word, or to an unmapped address,
is discarded with a bus-access fault that names the master, the address and the value.  A register of the Weir that a lock governs takes a
write only while that lock is clear, and a new VPA_WARN is compared at once with the level of VPA; a write of the tag alias sets the tag over the word's data as checked, and leaves the data. -/
def Obligations.BusWrites : Prop :=
  (∀ (s : State) (m : Master) (addr : BitVec 32) (whole : Bool) (w : Word), s.dev.mastersUp = true →
      let d := s.dev
      let a := addr.toNat
      let writes (P : Dev → Prop) : Prop := Gives (.registerWrite m addr true w) s P
      (a % 4 = 0 → a < 0x600000 → d.bankDead a = false → writes fun e =>
        e.word a = ⟨w, .raw, 0#43⟩ ∧ (∀ x, x / 4 ≠ a / 4 → e.word x = d.word x) ∧ e = { d with sram := e.sram }) ∧
      (a = WELL.WAKE_EN_at → writes fun e => e = d.setReg a ((d.reg a &&& 0xFFFF0000#32) ||| (w &&& 0xFFFF#32))) ∧
      (a = FLUME.EVENTS_at → d.blockOpen 12 = true → writes fun e => e = d.setReg a (d.reg a &&& ~~~(w &&& 0x1F#32))) ∧
      (a = SYS.ID_at → writes fun e => (∀ x, e.reg x = d.reg x) ∧ e = { d with regs := e.regs }) ∧
      (a % 4 = 0 → isRegAddr a = true → regFields a = [] → writes fun e => e = d) ∧
      (d.canLog → (whole = false ∨ a % 4 ≠ 0 ∨ (0x600000 ≤ a ∧ a < 0x08000000) ∨ (0x20130000 ≤ a ∧ a < 0x40000000)) →
        Gives (.registerWrite m addr whole w) s fun e =>
          d.faulted e ⟨0x06, 21, m.inst, a, w.toNat, 0, m.agent, m.agentNo, false⟩)) ∧
  (∀ (s : State) (m : Master) (w : Word), s.dev.mastersUp = true → s.dev.blockOpen 5 = true →
      let d := s.dev
      let at_ (a : Nat) (P : Dev → Prop) : Prop := Gives (.registerWrite m (BitVec.ofNat 32 a) true w) s P
      (s.cells.locked 9 = true → at_ WEIR.SUPPLY_at fun e => (∀ x, e.reg x = d.reg x) ∧ e = { d with regs := e.regs }) ∧
      (s.cells.locked 9 = false → (∀ p, p < 2 → (d.rfp p).tx.now = none) → at_ WEIR.SUPPLY_at fun e =>
        let low (p : Nat) : Bool := decide (d.vpa p < 2000 + 10 * max 80 (min 200 (w.toNat % 256)))
        e.reg WEIR.SUPPLY_at = (d.reg WEIR.SUPPLY_at &&& ~~~0xFF#32) ||| (w &&& 0xFF#32) ∧
        (∀ p, p < 2 → e.on (vpaLowFld p) = low p ∧ e.on (supplyOkFld p) = (d.on (supplyOkFld p) && !low p) ∧ e.vpa p = d.vpa p) ∧
        regsBut d e [WEIR.SUPPLY_at, WEIR.STATUS_at] ∧ e = { d with regs := e.regs, weir := { d.weir with vpa := e.weir.vpa, supplyFrom := e.weir.supplyFrom } }) ∧
      (∀ b, b < 8 → at_ (WEIR.LO_at b) fun e =>
        e.reg (WEIR.LO_at b) = (if s.cells.bandLocked b then d.reg (WEIR.LO_at b) else
          (d.reg (WEIR.LO_at b) &&& ~~~0x3FFFFFFF#32) ||| (w &&& 0x3FFFFFFF#32)) ∧
        regsBut d e [WEIR.LO_at b] ∧ e = { d with regs := e.regs })) ∧
  (∀ (s : State) (m : Master) (offset : BitVec 32) (w : Word), s.dev.mastersUp = true →
      let d := s.dev
      let a := offset.toNat
      (a % 4 = 0 → d.cleanWord a → w.toNat < 16 → Gives (.tagAliasWrite m offset w) s fun e =>
        e.word a = ⟨(d.word a).data, Tag.ofCode w.toNat, 0#43⟩ ∧ (∀ x, x / 4 ≠ a / 4 → e.word x = d.word x) ∧ e = { d with sram := e.sram }) ∧
      (d.canLog → (a % 4 ≠ 0 ∨ 0x600000 ≤ a ∨ 16 ≤ w.toNat) → Gives (.tagAliasWrite m offset w) s fun e =>
        d.faulted e ⟨0x06, 21, m.inst, (0x40000000 + a) % 2 ^ 32, w.toNat, 0, m.agent, m.agentNo, false⟩))

/-! ### Core instructions (chapters 10 and 11) -/

/-- R233, R234, R252 to R255, R260, R272: a register operation whose operands pass its checks writes its result into register a, sets FLAGS, and moves
the PC past its words; one that fails a check, outside a trap, takes the trap: TPC keeps the PC, TCAUSE the cause, TINFO what R233 gives,
INTRAP is set and the PC takes TVEC.  Nothing else changes.  One with a word that its code cannot correct takes the FETCH trap instead, with its
own address, and the fault 0x0B is recorded (R233, R272).  Where R233 gives the cause no TINFO (OVF, DIV0) its value is free (log entry
3).  What each operation computes is stated in the obligations on results below. -/
def Obligations.RegisterOperations : Prop :=
  (∀ (c : Instr) (s : State) (k len : Nat) (i : Insn),
    dataInsn c = some (k, i, len) → s.dev.ready k len → fitsSlot k i.a i.b i.p i.ext →
    (∀ (w : TWord) (fl : BitVec 10), s.dev.dataResult k i = .ok (w, fl) →
      Gives c s fun e => s.dev.ran e k ((s.dev.slot k).withResult len i.a w fl) (s.dev.slot k).after) ∧
    (∀ t : Trp, s.dev.dataResult k i = .error t → (s.dev.slot k).flag flagINTRAP = false → t.cause ≠ causePOISON →
      Gives c s fun e => ∃ (info : Word) (fc : Nat),
        Dev.ran { s.dev with freeCount := fc } e k ((s.dev.slot k).trapped t.cause info ((s.dev.slot k).pc + len))
          (if (s.dev.slot k).stepping || (s.dev.slot k).haltAfter then 0 else 1) ∧
        (∀ n, t.info = some n → info = Word.ofNat n ∧ fc = s.dev.freeCount))) ∧
  (∀ (c : Instr) (s : State) (k len : Nat) (i : Insn) (u j : Nat),
    dataInsn c = some (k, i, len) → fitsSlot k i.a i.b i.p i.ext → s.dev.executing k = true → s.dev.atBreak k = false →
    (s.dev.slot k).rep = none → (s.dev.slot k).flag flagINTRAP = false → s.dev.unitOfSlot k = some u → j < len →
    (s.dev.slot k).pc + j < progSize k → s.dev.codeBad (progKey u ((s.dev.slot k).pc + j)) = true → s.dev.canLog →
    Gives c s fun e => ∃ m, s.dev.faulted m (Dev.slotFault k 0x0B (s.dev.slot k).pc (u % 16)) ∧
      m.ran e k ((s.dev.slot k).trapped causeFETCH (Word.ofNat (s.dev.slot k).pc) ((s.dev.slot k).pc + len))
        (if (s.dev.slot k).stepping || (s.dev.slot k).haltAfter then 0 else 1))

/-- R228, R229, R252: ADD, SUB and MUL of two INT, NAT, RAW or FIX words of one kind give the low 32 bits (a FIX product is the 16.16 product
rounded toward zero) with that tag, a USER tag staying where both carry it; ADD and SUB of NAT and RAW set C to the carry or borrow; ADD,
SUB and MUL of INT and FIX set V to the overflow and keep it in VS; no other flag changes.  DIV by 0 traps DIV0, other quotients round
toward zero; with OVF_TRAP an overflow traps OVF. -/
def Obligations.ArithmeticResults : Prop :=
  ∀ (a b : Opd) (fl : BitVec 10) (t : Tag), t = .int ∨ t = .nat ∨ t = .raw ∨ t = .fix → a.eff = t → b.eff = t →
    let r : Tag := if a.w.tag = b.w.tag then a.w.tag else t
    let x := a.w.data
    let y := b.w.data
    let prod : Int := if t = .fix then (x.toInt * y.toInt).tdiv 65536 else x.toInt * y.toInt
    (∃ fa fs fm,
      arith2 false .add a b fl = .ok (⟨x + y, r⟩, fa) ∧ arith2 false .sub a b fl = .ok (⟨x - y, r⟩, fs) ∧
      arith2 false .mul a b fl = .ok (⟨if t = .fix then BitVec.ofInt 32 prod else x * y, r⟩, fm) ∧
      (t = .nat ∨ t = .raw →
        fa.getLsbD flagC = decide (2 ^ 32 ≤ x.toNat + y.toNat) ∧ fs.getLsbD flagC = decide (x.toNat < y.toNat) ∧ fm = fl ∧
        ∀ i, i ≠ flagC → fa.getLsbD i = fl.getLsbD i ∧ fs.getLsbD i = fl.getLsbD i) ∧
      (t = .int ∨ t = .fix →
        fa.getLsbD flagV = x.saddOverflow y ∧ fs.getLsbD flagV = x.ssubOverflow y ∧
        fm.getLsbD flagV = decide (prod < -2 ^ 31 ∨ 2 ^ 31 ≤ prod) ∧
        fa.getLsbD flagVS = (fl.getLsbD flagVS || fa.getLsbD flagV) ∧ fs.getLsbD flagVS = (fl.getLsbD flagVS || fs.getLsbD flagV) ∧
        fm.getLsbD flagVS = (fl.getLsbD flagVS || fm.getLsbD flagV) ∧
        ∀ i, i ≠ flagV → i ≠ flagVS → fa.getLsbD i = fl.getLsbD i ∧ fs.getLsbD i = fl.getLsbD i ∧ fm.getLsbD i = fl.getLsbD i)) ∧
    (∀ ovf, y = 0#32 → arith2 ovf .div a b fl = .error ⟨causeDIV0, none, 0⟩) ∧
    (∀ ovf, y ≠ 0#32 → (t = .nat ∨ t = .raw) → arith2 ovf .div a b fl = .ok (⟨x / y, r⟩, fl)) ∧
    (y ≠ 0#32 → t = .int → ∃ fd, arith2 false .div a b fl = .ok (⟨x.sdiv y, r⟩, fd) ∧
      fd.getLsbD flagV = decide (x = 0x80000000#32 ∧ y = 0xFFFFFFFF#32)) ∧
    (t = .int ∨ t = .fix → x.saddOverflow y = true → arith2 true .add a b fl = .error ⟨causeOVF, none, 0⟩)

/-- R228: a DPTR, CPTR or TIME moves by an INT or NAT and keeps its tag, without touching FLAGS; the difference of two DPTR or two TIME words
is an INT; any other pair with a pointer traps TAG on the second operand. -/
def Obligations.PointerArithmetic : Prop :=
  ∀ (ovf : Bool) (a b : Opd) (fl : BitVec 10), (a.eff = .dptr ∨ a.eff = .cptr ∨ a.eff = .time) → a.w.tag = a.eff → b.w.tag = b.eff →
    ((b.eff = .int ∨ b.eff = .nat) →
      arith2 ovf .add a b fl = .ok (⟨a.w.data + b.w.data, a.eff⟩, fl) ∧ arith2 ovf .add b a fl = .ok (⟨b.w.data + a.w.data, a.eff⟩, fl) ∧
      arith2 ovf .sub a b fl = .ok (⟨a.w.data - b.w.data, a.eff⟩, fl)) ∧
    (b.eff = a.eff → a.eff ≠ .cptr → ∃ fs, arith2 ovf .sub a b fl = .ok (⟨a.w.data - b.w.data, .int⟩, fs)) ∧
    (b.eff = a.eff → arith2 ovf .add a b fl = .error (b.fail clsARITH)) ∧
    (b.eff = .raw → arith2 ovf .add a b fl = .error (b.fail clsARITH)) ∧
    (∀ t, b.eff = t → t ∈ arithTags → arith2 ovf .mul a b fl = .error (b.fail clsARITH) ∧ arith2 ovf .div a b fl = .error (b.fail clsARITH))

/-- R227, R252, R253: AND, OR and XOR of two LOGIC words of one kind keep its tag, of two kinds give RAW; a shift counts by a NAT, one of 32 or
more empties the word (SAR fills it with the sign, ROL counts modulo 32) and turns a BOOL into RAW; EQ compares words of one kind and is
false across kinds; LT and LE compare signed for INT and FIX, modulo 2^32 for TIME and unsigned otherwise, and trap TAG across kinds. -/
def Obligations.LogicShiftAndComparisonResults : Prop :=
  (∀ (f : Word → Word → Word) (a b : Opd), a.eff ∈ logicTags →
    let t : Tag := if a.w.tag = b.w.tag then a.w.tag else a.eff
    let s : Tag := if a.eff = .bool then .raw else a.w.tag
    let x := a.w.data
    (b.eff = a.eff → logic2 f a b = .ok ⟨f x b.w.data, t⟩) ∧
    (b.eff ∈ logicTags → b.eff ≠ a.eff → logic2 f a b = .ok ⟨f x b.w.data, .raw⟩) ∧
    (b.eff ∉ logicTags → logic2 f a b = .error (b.fail clsLOGIC)) ∧
    (b.eff = .nat → ∀ n, n = b.w.data.toNat →
      shift2 shlW a b = .ok ⟨if n < 32 then x <<< n else 0#32, s⟩ ∧ shift2 shrW a b = .ok ⟨if n < 32 then x >>> n else 0#32, s⟩ ∧
      shift2 sarW a b = .ok ⟨if n < 32 then x.sshiftRight n else if x.msb then 0xFFFFFFFF#32 else 0#32, s⟩ ∧
      shift2 rolW a b = .ok ⟨x.rotateLeft n, s⟩) ∧
    (b.eff ≠ .nat → ∀ g, shift2 g a b = .error (b.fail clsCOUNT))) ∧
  (∀ (a b : Opd), a.eff ∈ ordTags → b.eff ∈ ordTags →
    let x := a.w.data
    let y := b.w.data
    eq2 a b = .ok (boolWord (decide (a.eff = b.eff ∧ x = y))) ∧
    (b.eff ≠ a.eff → ord2 false a b = .error (b.fail clsORD) ∧ ord2 true a b = .error (b.fail clsORD)) ∧
    (b.eff = a.eff → a.eff = .int ∨ a.eff = .fix → ord2 false a b = .ok (boolWord (x.slt y)) ∧ ord2 true a b = .ok (boolWord (x.sle y))) ∧
    (b.eff = a.eff → a.eff = .nat ∨ a.eff = .raw ∨ a.eff = .dptr ∨ a.eff = .cptr →
      ord2 false a b = .ok (boolWord (x.ult y)) ∧ ord2 true a b = .ok (boolWord (x.ule y))) ∧
    (b.eff = a.eff → a.eff = .time →
      ord2 false a b = .ok (boolWord (x - y).msb) ∧ ord2 true a b = .ok (boolWord ((x - y).msb || decide (x = y)))))

/-- R253, R254, R260, R261: NEG, NOT, ISZ, ISNEG, PAR, BREV, BREVB and HDPTR, each with its class, result tag and flags; the words that IMM
and RETAG make; EXTB and INSB take and replace one octet; the cyclic-check steps take the bits of one octet of b or of its four, octet 0
first, from bit 0 or, left-aligned, from bit 7, each with its classes and result tag. -/
def Obligations.UnaryImmediateAndOctetResults : Prop :=
  (∀ (bowl ovf : Bool) (i : Insn) (a b p : Opd) (fl : BitVec 10),
    let x := a.w.data
    let gives (o : COp) (w : Word) (t : Tag) (f : BitVec 10) : Prop := dataOp bowl ovf { i with op := o } a b p fl = .ok (⟨w, t⟩, f)
    let traps (o : COp) (t : Trp) : Prop := dataOp bowl ovf { i with op := o } a b p fl = .error t
    let signedTag : Prop := a.eff = .int ∨ a.eff = .fix
    let plainTag : Prop := a.eff = .nat ∨ a.eff = .raw
    let logic : Prop := a.eff ∈ logicTags
    (signedTag → x = 0x80000000#32 → ovf = true → traps .neg ⟨causeOVF, none, 0⟩) ∧
    (signedTag → x ≠ 0x80000000#32 ∨ ovf = false → ∃ f, gives .neg (-x) a.w.tag f ∧ f.getLsbD flagV = decide (x = 0x80000000#32) ∧
      f.getLsbD flagVS = (fl.getLsbD flagVS || f.getLsbD flagV) ∧ ∀ j, j ≠ flagV → j ≠ flagVS → f.getLsbD j = fl.getLsbD j) ∧
    (plainTag → ∃ f, gives .neg (-x) a.w.tag f ∧ f.getLsbD flagC = decide (x ≠ 0#32) ∧ ∀ j, j ≠ flagC → f.getLsbD j = fl.getLsbD j) ∧
    (signedTag ∨ plainTag → gives .isz (if x = 0#32 then 1#32 else 0#32) .bool fl) ∧
    (¬ signedTag → ¬ plainTag → traps .neg (a.fail clsARITH) ∧ traps .isz (a.fail clsARITH)) ∧
    (signedTag → gives .isneg (if x.msb then 1#32 else 0#32) .bool fl) ∧ (¬ signedTag → traps .isneg (a.fail clsARITH)) ∧
    (a.eff = .bool → gives .not (if x = 0#32 then 1#32 else 0#32) .bool fl) ∧ (logic → a.eff ≠ .bool → gives .not (~~~x) a.w.tag fl) ∧
    (logic → gives .par (if (List.range 32).foldl (fun r j => r ^^ x.getLsbD j) false then 1#32 else 0#32) a.w.tag fl ∧
      (∃ w, gives .brev w a.w.tag fl ∧ ∀ j, j < 32 → w.getLsbD (31 - j) = x.getLsbD j) ∧
      (∃ w, gives .brevb w a.w.tag fl ∧ ∀ o j, o < 4 → j < 8 → w.getLsbD (8 * o + (7 - j)) = x.getLsbD (8 * o + j))) ∧
    (¬ logic → traps .not (a.fail clsLOGIC) ∧ traps .par (a.fail clsLOGIC) ∧ traps .brev (a.fail clsLOGIC) ∧ traps .brevb (a.fail clsLOGIC)) ∧
    (a.eff = .ctx → x.toNat < 8192 → gives .hdptr (0x400000#32 + 128#32 * x) .dptr fl) ∧
    (a.eff ≠ .ctx ∨ 8192 ≤ x.toNat → traps .hdptr (a.fail clsADDR)) ∧
    dataOp bowl ovf { i with op := .retag } a b p fl = .ok (⟨b.w.data, Tag.ofCode i.x⟩, fl)) ∧
  (∀ (bowl : Bool) (x : Nat), x < 2 ^ xBits bowl →
    immWord bowl 0 x = ⟨BitVec.ofInt 32 (signed (xBits bowl) x), .int⟩ ∧ immWord bowl 1 x = ⟨BitVec.ofNat 32 x, .nat⟩ ∧
    immWord bowl 2 x = ⟨BitVec.ofNat 32 x, .raw⟩ ∧ immWord bowl 3 x = ⟨BitVec.ofNat 32 x, .bool⟩ ∧
    immWord bowl 4 x = ⟨BitVec.ofInt 32 (signed (xBits bowl) x * 65536), .fix⟩ ∧ immWord bowl 5 x = ⟨BitVec.ofNat 32 x, .cptr⟩ ∧
    immWord bowl 6 x = ⟨BitVec.ofNat 32 x, .time⟩ ∧ immWord bowl 7 x = ⟨BitVec.ofNat 32 x, .key⟩) ∧
  (∀ (bowl ovf : Bool) (i : Insn) (a b p : Opd) (fl : BitVec 10), i.n < 4 →
    let x := a.w.data
    let y := b.w.data
    let merged : Tag := if a.eff ≠ b.eff then .raw else if a.w.tag = b.w.tag then a.w.tag else a.eff
    let gives (o : COp) (w : Word) (t : Tag) : Prop := dataOp bowl ovf { i with op := o } a b p fl = .ok (⟨w, t⟩, fl)
    let traps (o : COp) (t : Trp) : Prop := dataOp bowl ovf { i with op := o } a b p fl = .error t
    let right (r : Word) (d : Bool) : Word := if r.getLsbD 0 ^^ d then (r >>> 1) ^^^ p.w.data else r >>> 1
    let left (r : Word) (d : Bool) : Word := if r.getLsbD 31 ^^ d then (r <<< 1) ^^^ p.w.data else r <<< 1
    (b.eff ∈ logicTags → gives .extb ((y >>> (8 * i.n)) &&& 0xFF#32) b.w.tag) ∧ (b.eff ∉ logicTags → traps .extb (b.fail clsLOGIC)) ∧
    (a.eff ∈ logicTags → b.eff ∈ logicTags →
      gives .insb ((x &&& ~~~(0xFF#32 <<< (8 * i.n))) ||| ((y &&& 0xFF#32) <<< (8 * i.n))) merged ∧
      (p.eff ∈ logicTags →
        gives .crcr ((List.range 8).foldl (fun r j => right r (y.getLsbD j)) x) merged ∧
        gives .crcrw ((List.range 32).foldl (fun r j => right r (y.getLsbD j)) x) merged ∧
        gives .crcl ((List.range 8).foldl (fun r j => left r (y.getLsbD (7 - j))) x) merged ∧
        gives .crclw ((List.range 32).foldl (fun r j => left r (y.getLsbD (8 * (j / 8) + (7 - j % 8)))) x) merged) ∧
      (p.eff ∉ logicTags → ∀ o, o ∈ [COp.crcr, .crcrw, .crcl, .crclw] → traps o (p.fail clsLOGIC))) ∧
    (∀ o, o ∈ [COp.insb, .crcr, .crcrw, .crcl, .crclw] →
      (a.eff ∉ logicTags → traps o (a.fail clsLOGIC)) ∧ (a.eff ∈ logicTags → b.eff ∉ logicTags → traps o (b.fail clsLOGIC))))

/-- R240, R254, R257: the effective address.  A DPTR base must be a multiple of 4 and adds 4 × X, X signed; a context handle addresses its
record of 128 octets and X must stay inside it; anything else traps. -/
def Obligations.EffectiveAddresses : Prop :=
  ∀ (bowl : Bool) (b : Opd) (x : Nat),
    let off : Int := signed (xBits bowl) x
    (b.eff = .dptr → b.w.data.toNat % 4 = 0 →
      effAddr bowl b x = .ok (b.w.data + BitVec.ofInt 32 (4 * off)).toNat ∧ postAddr b = .ok b.w.data.toNat) ∧
    (b.eff = .dptr → b.w.data.toNat % 4 ≠ 0 →
      effAddr bowl b x = .error ⟨causeALIGN, some (b.w.data + BitVec.ofInt 32 (4 * off)).toNat, 0⟩ ∧
      postAddr b = .error ⟨causeALIGN, some b.w.data.toNat, 0⟩) ∧
    (b.eff = .ctx → b.w.data.toNat < 8192 →
      (0 ≤ off → off ≤ 31 → effAddr bowl b x = .ok (0x400000 + 128 * b.w.data.toNat + (4 * off).toNat)) ∧
      (off < 0 ∨ 31 < off → ∃ n, effAddr bowl b x = .error ⟨causeALIGN, some n, 0⟩)) ∧
    (b.eff = .ctx → 8192 ≤ b.w.data.toNat → effAddr bowl b x = .error (b.fail clsADDR)) ∧
    (b.eff ≠ .dptr → postAddr b = .error (b.fail clsADDR)) ∧ (b.eff ≠ .dptr → b.eff ≠ .ctx → effAddr bowl b x = .error (b.fail clsADDR))

/-- R225, R240, R254, R257, R261: LD and LDP bring a tagged word of SRAM into register a, and ADDM, CRCRM and CRCLM combine it with a; LDP and
the combining ones advance the pointer in b by 4 first.  None of them changes memory. -/
def Obligations.LoadsBringTheTaggedWord : Prop :=
  ∀ (s : State) (k : Fin 12) (a b p : Fin 16) (x : BitVec 14) (ea : Nat) (w : TWord) (fl : BitVec 10), s.dev.ready k 2 →
    fitsSlot k a b p x.toNat → s.dev.cleanWord ea →
    let v := s.dev.slot k
    let post (w : TWord) (fl : BitVec 10) (e : Dev) : Prop := s.dev.ran e k (v.withPost 2 a b (some w) fl) v.after
    (effAddr (isBowl k) (s.dev.operand k b 1) x.toNat = .ok ea →
      Gives (.ld k a b x) s fun e => s.dev.ran e k (v.withResult 2 a (s.dev.tword ea) v.flags) v.after) ∧
    (postAddr (s.dev.operand k b 1) = .ok ea →
      (Gives (.ldp k a b) s (post (s.dev.tword ea) v.flags)) ∧
      (arith2 (s.dev.on (CORES.SCFG_OVF_TRAP k)) .add (s.dev.operand k a 0) (s.dev.memOperand k ea) v.flags = .ok (w, fl) →
        Gives (.addm k a b) s (post w fl)) ∧
      (crcOp false true (s.dev.operand k a 0) (s.dev.memOperand k ea) (s.dev.operand k p 3) = .ok w →
        Gives (.crcrm k a b p) s (post w v.flags)) ∧
      (crcOp true true (s.dev.operand k a 0) (s.dev.memOperand k ea) (s.dev.operand k p 3) = .ok w →
        Gives (.crclm k a b p) s (post w v.flags)))

/-- R225, R254, R257: ST and STP replace data, tag and code of the addressed word of SRAM, whatever stood there; every other word of memory
stays, and STP advances the pointer by 4. -/
def Obligations.StoresReplaceOneWord : Prop :=
  ∀ (s : State) (k : Fin 12) (a b : Fin 16) (x : BitVec 14) (ea : Nat), s.dev.ready k 2 → fitsSlot k a b 0 x.toNat →
    ea < 0x600000 → s.dev.bankDead ea = false →
    (effAddr (isBowl k) (s.dev.operand k b 1) x.toNat = .ok ea →
      Gives (.st k a b x) s fun e =>
        s.dev.ranStore e k ((s.dev.slot k).jumped ((s.dev.slot k).pc + 2)) (s.dev.slot k).after ea (s.dev.operand k a 0).w) ∧
    (postAddr (s.dev.operand k b 1) = .ok ea →
      Gives (.stp k a b) s fun e =>
        s.dev.ranStore e k ((s.dev.slot k).withPost 2 a b none (s.dev.slot k).flags) (s.dev.slot k).after ea (s.dev.operand k a 0).w)

/-- R262: TLI on a well-formed table of `n` points from `x0` in steps of 2^sh gives the first value below the table, the last at and beyond its
end, and between two points their interpolation rounded toward zero. -/
def Obligations.TableLookUp : Prop :=
  ∀ (s : State) (k : Fin 12) (a b : Fin 16) (t n sh : Nat) (y : Nat → Word), isBowl k = true → s.dev.ready k 2 →
    (s.dev.operand k a 0).eff = .fix → (s.dev.operand k b 1).eff = .dptr → (s.dev.operand k b 1).w.data.toNat = t → t % 4 = 0 →
    t + 4 * (n + 2) ≤ 0x600000 → 2 ≤ n → n ≤ 1024 → sh < 32 →
    (∀ i, i < n + 2 → s.dev.cleanWord (t + 4 * i)) →
    (s.dev.word t).tag = .fix → s.dev.tword (t + 4) = ⟨Word.ofNat (sh + n * 65536), .nat⟩ →
    (∀ i, i < n → s.dev.tword (t + 8 + 4 * i) = ⟨y i, .fix⟩) →
    Gives (.tli k a b) s fun e =>
      let dx : Int := (s.dev.operand k a 0).w.data.toInt - (s.dev.word t).data.toInt
      let i := dx.toNat / 2 ^ sh
      let r : Word :=
        if dx < 0 then y 0
        else if n - 1 ≤ i then y (n - 1)
        else BitVec.ofInt 32 ((y i).toInt + (((y (i + 1)).toInt - (y i).toInt) * ((dx.toNat % 2 ^ sh : Nat) : Int)).tdiv ((2 ^ sh : Nat) : Int))
      s.dev.ran e k ((s.dev.slot k).withResult 2 a ⟨r, .fix⟩ (s.dev.slot k).flags) (s.dev.slot k).after

/-- R185, R186, R239: GET and GETN of an enabled Flume with an intact head entry and no reader before them take it: register a, E and G (and
EMPTY 0 for GETN) come from the entry.  GETN of an empty Flume sets EMPTY only; GET of an empty one stalls the slot. -/
def Obligations.FlumeReadsOfASlot : Prop :=
  ∀ (s : State) (k : Fin 12) (a : Fin 16) (f : FlumeSel) (n : Nat), s.dev.ready k 2 → fitsSlot k a f.regNo 0 0 → flumeNamed f s.dev k n →
    s.dev.quietFlume n →
    let v := s.dev.slot k
    (∀ h rest, (s.dev.flume n).entries = h :: rest → h.bad = false →
      (Gives (.get k a f) s fun e => s.dev.ranFlume e k (v.withRead 2 a h) v.after n ((s.dev.flume n).afterRead h rest)) ∧
      (Gives (.getn k a f) s fun e =>
        s.dev.ranFlume e k (v.withResult 2 a ⟨h.data, h.tag⟩ (flagTo (flagTo (flagTo v.flags flagE h.isEnd) flagG h.gap) flagEMPTY false))
          v.after n ((s.dev.flume n).afterRead h rest))) ∧
    ((s.dev.flume n).entries = [] →
      (Gives (.getn k a f) s fun e => s.dev.ran e k { v.jumped (v.pc + 2) with flags := flagTo v.flags flagEMPTY true } v.after) ∧
      (Gives (.get k a f) s fun e =>
        s.dev.ranFlume e k { v with pend := some ⟨n, a, 2⟩, resume := none } 2 n
          { s.dev.flume n with stalled := [⟨k, s.dev.tick, false⟩] }))

/-- R181, R239: PUT and PUTE to an enabled Flume with room append the word of register a, with END 0 or 1, and clear D (said of a Flume that
is no slot's wake Flume); FREE and PKTS read the Flume's room and packets as NATs. -/
def Obligations.FlumeWritesOfASlot : Prop :=
  ∀ (s : State) (k : Fin 12) (a : Fin 16) (f : FlumeSel) (n : Nat), s.dev.ready k 2 → fitsSlot k a f.regNo 0 0 → flumeNamed f s.dev k n →
    let v := s.dev.slot k
    let put (isEnd : Bool) (e : Dev) : Prop :=
      s.dev.ranFlume e k { v.jumped (v.pc + 2) with flags := flagTo v.flags flagD false } v.after n
        ((s.dev.flume n).appended (mkEntry (s.dev.operand k a 0).w.data (s.dev.operand k a 0).w.tag isEnd false))
    let size := s.dev.rd (FLUME.CFG_SIZE n) * 64
    (s.dev.flumeOn n = true → (s.dev.flume n).entries.length + 1 < size → s.dev.sluice.injections = [] →
      Gives (.put k a f) s (put false) ∧
      ((∀ j, j < 12 → s.dev.on (CORES.SCFG_WAKEF_EN j) = true → s.dev.rd (CORES.SCFG_WAKEF j) ≠ n) →
        Gives (.pute k a f) s (put true))) ∧
    (Gives (.free k a f) s fun e =>
      s.dev.ran e k (v.withResult 2 a ⟨Word.ofNat (if s.dev.flumeOn n then size - 1 - (s.dev.flume n).entries.length else 0), .nat⟩ v.flags)
        v.after) ∧
    (Gives (.pkts k a f) s fun e => s.dev.ran e k (v.withResult 2 a ⟨Word.ofNat (s.dev.flume n).pkts, .nat⟩ v.flags) v.after)

/-- R236, R258, R259: BT, BF, BFS and BFC add X, signed, to the address after them when their condition holds and fall through otherwise; JMP
and JR jump; CALL and CALLR push the address after them and jump, a call onto a full stack overwriting the oldest entry and setting RSOV;
RET jumps to the entry on top of the return stack and removes it. -/
def Obligations.BranchesCallsAndReturns : Prop :=
  ∀ (s : State) (k : Fin 12) (a bit : Fin 16) (x : BitVec 14) (t : Nat), fitsSlot k a bit 0 x.toNat →
    let v := s.dev.slot k
    let n := stackSize k
    let ra := s.dev.operand k a 0
    let target := ((((v.pc + 2 : Nat) : Int) + signed (xBits (isBowl k)) x.toNat) % (progSize k : Int)).toNat
    let goes (c : Instr) (taken : Bool) : Prop := (taken = true ∨ v.pc + 2 < progSize k) →
      Gives c s fun e => s.dev.ran e k (v.jumped (if taken then target else v.pc + 2)) v.after
    let pushed (next : Nat) : Slot :=
      let w := { v with stack := Store.put 0 v.stack v.sp (next % progSize k), sp := (v.sp + 1) % n, depth := min (v.depth + 1) n }
      if v.depth = n then w.setFlag flagRSOV true else w
    (s.dev.issues k 2 →
      (ra.eff = .bool → goes (.bt k a x) (decide (ra.w.data = 1#32)) ∧ goes (.bf k a x) (decide (ra.w.data = 0#32))) ∧
      (bit.val ≤ (if isBowl k then 9 else 7) → goes (.bfs k bit x) (v.flag bit) ∧ goes (.bfc k bit x) (!v.flag bit)) ∧
      goes (.jmp k x) true ∧
      ((v.depth ≠ n ∨ s.dev.on (CORES.SCFG_RSTK_TRAP k) = false) →
        Gives (.call k x) s fun e => s.dev.ran e k ((pushed (v.pc + 2)).jumped target) v.after)) ∧
    (s.dev.issues k 1 →
      (ra.eff = .cptr → ra.w.data.toNat = t → t < progSize k →
        (Gives (.jr k a) s fun e => s.dev.ran e k (v.jumped t) v.after) ∧
        ((v.depth ≠ n ∨ s.dev.on (CORES.SCFG_RSTK_TRAP k) = false) →
          Gives (.callr k a) s fun e => s.dev.ran e k ((pushed (v.pc + 1)).jumped t) v.after)) ∧
      (v.depth ≠ 0 → Gives (.ret k) s fun e =>
        s.dev.ran e k (({ v with sp := (v.sp + n - 1) % n, depth := v.depth - 1 } : Slot).jumped
          (Store.get 0 v.stack ((v.sp + 2 * n - 1) % n))) v.after))

/-- R234, R235, R258: TRAP takes the SOFT trap with X as TINFO; TRET clears INTRAP and INREP and goes to TPC, handing RCOUNT to a repeat prefix
that the trap cut, or, with skip, to the address after the instruction that trapped.  That RCOUNT reads 0 after such a retry is the
model's choice (log entry 42). -/
def Obligations.TrapAndReturn : Prop :=
  ∀ (s : State) (k : Fin 12) (x : BitVec 14), fitsSlot k 0 0 0 x.toNat →
    let v := s.dev.slot k
    let u := if v.flag flagINREP then { v with rcount := 0#32 } else v
    (s.dev.issues k 2 → v.flag flagINTRAP = false →
      Gives (.trap k x) s fun e =>
        s.dev.ran e k (v.trapped causeSOFT (Word.ofNat x.toNat) (v.pc + 2)) (if v.stepping || v.haltAfter then 0 else 1)) ∧
    (s.dev.issues k 1 →
      (Gives (.tret k false) s fun e =>
        s.dev.ran e k { (u.setFlag flagINTRAP false).setFlag flagINREP false with
          pc := v.tpc, stepping := false, passBrk := false, resume := if v.flag flagINREP then some v.rcount.toNat else none } v.after) ∧
      (∀ t, v.trapNext = some t → t < progSize k →
        Gives (.tret k true) s fun e => s.dev.ran e k (((v.setFlag flagINTRAP false).setFlag flagINREP false).jumped t) v.after))

/-- R235, R237, R259: NOP only advances; REPK, REPR and REPIR arm a repetition of the next instruction, REP up to 64 times and REPI up to
65,535, or as often as a retried prefix still has to; a count beyond traps COUNT.  Under a repetition with more than one iteration left a
register operation writes its result and stays for the next iteration; the last iteration moves the PC past it and ends the repetition. -/
def Obligations.RepeatPrefixesAndIterations : Prop :=
  (∀ (s : State) (k : Fin 12) (a : Fin 16) (isRepI : Bool) (count : Fin 128), s.dev.ready k 1 → fitsSlot k a 0 0 0 →
    let v := s.dev.slot k
    let armed (n : Nat) (repI : Bool) (e : Dev) : Prop :=
      s.dev.ran e k { v.jumped (v.pc + 1) with rep := some ⟨v.resume.getD n, v.pc, repI, true⟩ } v.after
    let tooMany (c : Instr) (n : Nat) : Prop := v.resume = none → v.flag flagINTRAP = false → Gives c s fun e =>
      s.dev.ran e k (v.trapped causeCOUNT (Word.ofNat n) (v.pc + 1)) (if v.stepping || v.haltAfter then 0 else 1)
    (Gives (.nop k) s fun e => s.dev.ran e k (v.jumped (v.pc + 1)) v.after) ∧
    ((isRepI = true ∨ count.val ≤ 64 ∨ v.resume ≠ none) → (isBowl k = true ∨ count.val < 32) →
      Gives (.repk k isRepI count) s (armed count isRepI)) ∧
    (isBowl k = true → 64 < count.val → tooMany (.repk k false count) count) ∧
    ((s.dev.operand k a 0).eff = .nat → ∀ n, n = (s.dev.operand k a 0).w.data.toNat →
      ((n ≤ 64 ∨ v.resume ≠ none) → Gives (.repr k a) s (armed n false)) ∧
      ((n ≤ 65535 ∨ v.resume ≠ none) → Gives (.repir k a) s (armed n true)) ∧
      (64 < n → tooMany (.repr k a) n) ∧ (65535 < n → tooMany (.repir k a) n))) ∧
  (∀ (c : Instr) (s : State) (k len : Nat) (i : Insn) (w : TWord) (fl : BitVec 10) (r : Rep),
    dataInsn c = some (k, i, len) → s.dev.executing k = true → s.dev.atBreak k = false → (s.dev.slot k).pc + len < progSize k → s.dev.sound k len →
    fitsSlot k i.a i.b i.p i.ext → s.dev.dataResult k i = .ok (w, fl) → (s.dev.slot k).rep = some r → (s.dev.slot k).stepping = false →
    let v := s.dev.slot k
    (2 ≤ r.left → Gives c s fun e =>
      s.dev.ran e k { v with regs := Store.put voidWord v.regs i.a w, flags := fl, resume := none,
                             rep := some { r with left := r.left - 1, fresh := false } } 1) ∧
    (r.left = 1 → Gives c s fun e =>
      s.dev.ran e k { v.withResult len i.a w fl with rep := none, haltAfter := false } (if v.haltAfter then 0 else 1)))

/-- R241, R243, R296: WAIT clears a KICKED latch and goes on; otherwise the slot parks at the instruction after WAIT; LB.0's WAIT with a
sleeping state in MODE requests that state. -/
def Obligations.WaitParksTheSlot : Prop :=
  ∀ (s : State) (k : Fin 12), s.dev.ready k 1 → (s.dev.slot k).stepping = false →
    let v := s.dev.slot k
    let parked : Slot := { v.jumped (v.pc + 1) with resumeDue := false }
    (s.dev.on (CORES.STATUS_KICKED k) = true →
      Gives (.wait k) s fun e => e.slot k = v.jumped (v.pc + 1) ∧ e.slotState k = 1 ∧ e.on (CORES.STATUS_KICKED k) = false ∧
        regsBut s.dev e [CORES.STATUS_at k] ∧ e = { s.dev with regs := e.regs, cores := e.cores }) ∧
    (s.dev.on (CORES.STATUS_KICKED k) = false → s.dev.on (CORES.SCFG_WAKEF_EN k) = false →
      ((k.val ≠ 8 ∨ modeState (s.dev.rd WELL.MODE_TARGET) = 0) → Gives (.wait k) s fun e => s.dev.ran e k parked 3) ∧
      (k.val = 8 → modeState (s.dev.rd WELL.MODE_TARGET) ≠ 0 → s.dev.power = 0 →
        Gives (.wait k) s fun e => e.power = 7 ∧ e.slotState k = 3 ∧ e.slot k = parked ∧ e.well = { s.dev.well with waitFrom := s.dev.tick } ∧
          regsBut s.dev e [CORES.STATUS_at k, WELL.STATUS_at] ∧ e = { s.dev with regs := e.regs, cores := e.cores, well := e.well }))

/-- R224, R238, R259: CRD and FEAT bring a control register or a feature word into register a; CWR writes a control register, the PC-wide ones
modulo program memory, and leaves RSD. -/
def Obligations.ControlRegisters : Prop :=
  ∀ (s : State) (k : Fin 12) (a : Fin 16) (n : Fin 8), s.dev.ready k 1 → fitsSlot k a n 0 0 →
    let v := s.dev.slot k
    let ra := s.dev.operand k a 0
    let size := stackSize k
    let top := (v.sp + 2 * size - 1) % size
    let kind := if isBowl k then 1 else 0
    let puts (w : TWord) (e : Dev) : Prop := s.dev.ran e k (v.withResult 1 a w v.flags) v.after
    let sets (u : Slot) (e : Dev) : Prop := s.dev.ran e k (u.jumped (v.pc + 1)) v.after
    Gives (.crd k a n) s (puts ([(⟨v.flags.setWidth 32, .raw⟩ : TWord), ⟨Word.ofNat v.tvec, .cptr⟩, ⟨Word.ofNat v.tpc, .cptr⟩, ⟨v.tcause, .nat⟩,
      ⟨v.tinfo, .raw⟩, ⟨v.rcount, .nat⟩, ⟨Word.ofNat v.depth, .nat⟩, ⟨Word.ofNat (Store.get 0 v.stack top), .cptr⟩].getD n voidWord)) ∧
    Gives (.feat k a n) s (puts ⟨[Word.ofNat (0x77400000 + s.dev.rd SYS.ID_STEP * 256 + (if isBowl k then k.val - 8 else k.val) * 16 + kind),
      (if isBowl k then 0x00401010#32 else 0x00100808#32), (if isBowl k then 0x7F#32 else 0x1F#32), (if isBowl k then 0x00200400#32 else 0#32),
      s.dev.reg (CORES.IMGVER_at kind), s.dev.reg (CORES.IFVER_at kind), s.dev.reg (CORES.FEATU_at kind),
      Word.ofNat (min v.rotations 0xFFFFFFFF)].getD n 0#32, .nat⟩) ∧
    (ra.eff = .cptr →
      (n.val = 1 → Gives (.cwr k a n) s (sets { v with tvec := ra.w.data.toNat % progSize k })) ∧
      (n.val = 2 → Gives (.cwr k a n) s (sets { v with tpc := ra.w.data.toNat % progSize k, trapNext := none })) ∧
      (n.val = 7 → Gives (.cwr k a n) s (sets { v with stack := Store.put 0 v.stack top (ra.w.data.toNat % progSize k) }))) ∧
    (ra.eff ∈ logicTags →
      (n.val = 0 → Gives (.cwr k a n) s (sets { v with flags := ra.w.data.setWidth 10 })) ∧
      (n.val = 3 → Gives (.cwr k a n) s (sets { v with tcause := ra.w.data })) ∧
      (n.val = 4 → Gives (.cwr k a n) s (sets { v with tinfo := ra.w.data })) ∧
      (n.val = 5 → Gives (.cwr k a n) s (sets { v with rcount := ra.w.data })) ∧ (n.val = 6 → Gives (.cwr k a n) s (sets v)))

/-- R263, R265: a custom instruction whose entry is valid and whose classes accept its registers commits the registers and FLAGS of its
micro-operations together at END; said of one whose entry and microcode words hold no bit in error, whose micro-operations neither store nor
touch a Flume, and whose reads leave the device as it was. -/
def Obligations.CustomInstructionCommitsAtEnd : Prop :=
  ∀ (s : State) (k : Fin 4) (op : Fin 32) (a b : Fin 16) (x : BitVec 14) (u : Nat) (st : MState) (f : Eff),
    let n := 8 + k.val
    let v := s.dev.slot n
    let d := s.dev.setSlot n { v with resume := none }
    let w := s.dev.decodeEntry u op.val
    let len := if w.getLsbD 10 then 2 else 1
    s.dev.ready n len → s.dev.unitOfSlot n = some u → entryValid w = true →
    clsCheck (s.dev.operand n a 0) (bitsOf w 12 4) = .ok () → clsCheck (s.dev.operand n b 1) (bitsOf w 16 4) = .ok () →
    s.dev.codeErr (decodeKey u op) = 0#55 →
    microRun (coreEnv s.cells s.dev n) (s.dev.ucodeFetch u) a b (if w.getLsbD 10 then some x.toNat else none)
      ⟨causeILLEGAL, some (firstWord true (0x20 + op.val) a b), 0⟩ 256 ⟨v.regs, v.flags, ⟨d, []⟩, false, none, []⟩ (bitsOf w 0 10) = .done st f →
    (∀ x ∈ st.pcs, s.dev.codeErr (ucodeKey u x) = 0#55) → st.mem.dev = d → st.resv = none → f.put = none → f.store = none →
    Gives (.customInstruction k op a b x) s fun e =>
      s.dev.ran e n { v with
        regs := Store.keep (fun r _ => decide (r < 16)) st.regs, flags := st.flags, pc := v.pc + len, stepping := false,
        passBrk := false, resume := none } v.after

/-- R241, R242, R243: START sets a HALTED slot running from its PC, past a breakpoint there; HALT stops a running one; RESET returns it to the
reset values of R223, HALTED, or running where START came with it; KICK latches for a slot that is not parked and marks a parked one due to
resume; a parked slot that is due resumes; STEP runs the one instruction that program memory holds at the PC.  An UNSERVED slot takes no command;
one that is ROTATING takes it when the rotation has ended. -/
def Obligations.SlotControl : Prop :=
  ∀ (s : State) (k : Fin 12), s.dev.blockOpen 17 = true →
    let v := s.dev.slot k
    let st := s.dev.slotState k
    (st = 0 → Gives (.start k) s fun e =>
      e = ((s.dev.setSlot k { v with passBrk := true, stepping := false, haltAfter := false }).setSlotState k 1).wr (CORES.STATUS_BRKHIT k) 0) ∧
    (st = 1 → v.rep = none → Gives (.halt k) s fun e => s.dev.ran e k v 0) ∧
    (st = 0 ∨ st = 1 → (∀ n, n < 64 → (s.dev.flume n).stalled = []) → ∀ start, Gives (.reset k start) s fun e =>
      e.slot k = (if start then { Slot.reset with passBrk := true } else Slot.reset) ∧ e.slotState k = (if start then 1 else 0) ∧
      e.on (CORES.STATUS_KICKED k) = false ∧ e.on (CORES.STATUS_BRKHIT k) = false ∧ (∀ j, j ≠ k.val → e.slot j = s.dev.slot j) ∧
      regsBut s.dev e [CORES.STATUS_at k] ∧ e = { s.dev with regs := e.regs, cores := e.cores }) ∧
    (st = 6 → ∀ start, Gives (.start k) s (· = s.dev) ∧ Gives (.halt k) s (· = s.dev) ∧ Gives (.reset k start) s (· = s.dev) ∧
      Gives (.kick k) s (· = s.dev)) ∧
    (∀ p, s.dev.pausedAs k = some p →
      let waits (w : Word) (e : Dev) : Prop :=
        e = { s.dev with repair := { s.dev.repair with
          paused := Store.put none s.dev.repair.paused k (some { p with ctrl := p.ctrl ++ [w] }) } }
      Gives (.start k) s (waits 0x1#32) ∧ Gives (.halt k) s (waits 0x2#32) ∧ Gives (.reset k false) s (waits 0x8#32) ∧
        Gives (.reset k true) s (waits 0x9#32) ∧ Gives (.step k) s (waits 0x4#32) ∧ Gives (.kick k) s (waits 0x10#32)) ∧
    (st ≠ 3 → st ≠ 5 → st ≠ 6 → Gives (.kick k) s fun e => e = s.dev.setF (CORES.STATUS_KICKED k)) ∧
    (st = 3 → Gives (.kick k) s fun e => e.slot k = { v with resumeDue := true } ∧ e.well.levels.getLsbD 12 = true) ∧
    (st = 3 → s.dev.running = true → v.resumeDue = true → Gives (.waitResume k) s fun e =>
      e.slotState k = 1 ∧ e.slot k = { v with resumeDue := false } ∧ (k.val = 8 → s.dev.power = 7 → e.power = 0)) ∧
    (∀ e, st = 0 → s.dev.running = true → (s.dev.unitOfSlot k).isSome = true →
      e = Dev.coreFetch s.cells ((s.dev.setSlot k { v with passBrk := true, stepping := true, haltAfter := false }).setSlotState k 1) k →
      (e.slot k).stepping = false → Gives (.step k) s fun e' => e' = e) ∧
    (∀ u, st = 0 → s.dev.running = true → s.dev.unitOfSlot k = some u → v.rep = none → v.pc + 1 < progSize k → s.dev.sound k 1 →
      (s.dev.progWord u v.pc).toNat = (if isBowl k then 0x1B05 else 0x6C5) → Gives (.step k) s fun e =>
        s.dev.ran e k { v.jumped (v.pc + 1) with haltAfter := false } 0)

/-- R244: a write of PL_DATA that the loader accepts writes the word at PL_ADDR of the memory that PL_CTRL names, in the spare unit or in every
unit of the kind, and nowhere else; PL_ADDR advances.  A write it refuses names the reason in PL_STATUS and sets PL_REFUSED.  A read of
PL_DATA returns the word at PL_ADDR, and PL_ADDR advances. -/
def Obligations.LoaderAccessesMemories : Prop :=
  ∀ (s : State) (w : Word), s.dev.blockOpen 17 = true →
    let d := s.dev
    let kind := d.rd CORES.PL_CTRL_KIND
    let mem := d.rd CORES.PL_CTRL_MEM
    let a := d.rd CORES.PL_ADDR_ADDR
    let units := if d.on CORES.PL_CTRL_TARGET then [d.spareKey kind] else unitKeys kind
    (d.plRefusal = none → Gives (.plDataWrite w) s fun e =>
      (∀ u ∈ units, (mem = 0 → e.progWord u a = BitVec.ofNat 14 (w.toNat % 2 ^ kindBits kind)) ∧ (mem = 1 → e.decodeEntry u a = w) ∧
        (mem = 2 → e.ucodeWord u a = BitVec.ofNat 48 (w.toNat + d.rd CORES.PL_DATA_HI_DATA * 2 ^ 32))) ∧
      (∀ j, (mem ≠ 0 ∨ ∀ u ∈ units, j ≠ u * 0x10000 + a) → Store.get 0#14 e.cores.prog j = Store.get 0#14 d.cores.prog j) ∧
      (∀ j, (mem ≠ 1 ∨ ∀ u ∈ units, j ≠ u * 32 + a) → Store.get 0#32 e.cores.decode j = Store.get 0#32 d.cores.decode j) ∧
      (∀ j, (mem = 0 ∨ mem = 1 ∨ ∀ u ∈ units, j ≠ u * 1024 + a) → Store.get 0#48 e.cores.ucode j = Store.get 0#48 d.cores.ucode j) ∧
      e.rd CORES.PL_ADDR_ADDR = (a + 1) % 0x10000 ∧ e.reg CORES.PL_DATA_at = w ∧ e.rd CORES.PL_STATUS_REFUSED = 0 ∧
      (d.on CORES.PL_CTRL_TARGET = false → e.on CORES.PL_STATUS_BUSY = true) ∧
      regsBut d e [CORES.PL_ADDR_at, CORES.PL_DATA_at, CORES.PL_STATUS_at] ∧
      (∀ j, (∀ u ∈ units, j ≠ if mem = 0 then progKey u a else if mem = 1 then decodeKey u a else ucodeKey u a) → e.codeErr j = d.codeErr j) ∧
      e.cores = { d.cores with prog := e.cores.prog, decode := e.cores.decode, ucode := e.cores.ucode, codeFlip := e.cores.codeFlip } ∧
      e = { d with regs := e.regs, cores := e.cores }) ∧
    (∀ r, d.plRefusal = some r → Gives (.plDataWrite w) s fun e =>
      e = ((d.setReg CORES.PL_DATA_at w).wr CORES.PL_STATUS_REFUSED r).setF CORES.EVENTS_PL_REFUSED) ∧
    (∀ u, d.plReadUnit = some u → a < d.plSize →
      let next (x : Dev) : Dev := x.wr CORES.PL_ADDR_ADDR (a + 1)
      (mem = 0 → Gives .plDataRead s fun e => e = (next d).answer ((d.progWord u a).setWidth 32)) ∧
      (mem = 1 → kind ≠ 0 → Gives .plDataRead s fun e => e = (next d).answer (d.decodeEntry u a)) ∧
      (mem = 2 → kind ≠ 0 → Gives .plDataRead s fun e =>
        e = (next (d.wr CORES.PL_DATA_HI_DATA ((d.ucodeWord u a).toNat / 2 ^ 32))).answer ((d.ucodeWord u a).setWidth 32)))

/-- R244, R245, R396: PL_COPY_DONE ends BUSY (said of one that no rotation and no retest waits for); PL_CHECK starts a comparison, whose end shows the CRC-32 of the first unit and whether every unit
of the kind has it; the boot load leaves BOOT.STATE FAILED where a type has no image in force, and otherwise DONE with every slot at the
reset values of R223, LB.0 running and the others HALTED. -/
def Obligations.ImageChecksAndBoot : Prop :=
  ∀ s : State,
    let d := s.dev
    (d.repair.coreQueue = [] → d.repair.retests = [] → Gives .plCopyDone s fun e => e = d.wr CORES.PL_STATUS_BUSY 0) ∧
    (d.blockOpen 17 = true → Gives .plCheck s fun e =>
      e.cores = { d.cores with checking := some (d.rd CORES.PL_CTRL_KIND) } ∧ e.on CORES.PL_CHECK_DONE = false ∧
      e.on CORES.PL_CHECK_MATCH = false ∧ regsBut d e [CORES.PL_CHECK_at] ∧ e = { d with regs := e.regs, cores := e.cores }) ∧
    (∀ kind u us, d.cores.checking = some kind → d.rd (spareFld (kind + 2)) = 15 → d.servingKeys kind = u :: us →
      Gives .plCheckDone s fun e =>
        e.cores = { d.cores with checking := none } ∧ e.reg CORES.PL_CRC_at = Word.ofNat (d.unitCrc kind u) ∧
        e.on CORES.PL_CHECK_DONE = true ∧
        (e.on CORES.PL_CHECK_MATCH = true ↔ ∀ u' ∈ us, d.unitCrc kind u' = d.unitCrc kind u) ∧
        regsBut d e [CORES.PL_CHECK_at, CORES.PL_CRC_at] ∧ e = { d with regs := e.regs, cores := e.cores }) ∧
    (d.rd CORES.BOOT_STATE = 0 → d.on SLUICE.STATUS_STOPPED = false → d.well.coreOff = false → d.power = 0 →
      (∀ k, k < 12 → d.slotState k = 7) → Gives .bootLoadDone s fun e =>
        e.rd CORES.BOOT_SRC_S = e.inforce 1 ∧ e.rd CORES.BOOT_SRC_B = e.inforce 2 ∧ e.rd CORES.BOOT_SRC_U = e.inforce 4 ∧
        ((∃ t ∈ imageTypes, e.inforce t = 3) → e.rd CORES.BOOT_STATE = 2 ∧ ∀ k, k < 12 → e.slotState k = 7) ∧
        ((∀ t ∈ imageTypes, e.inforce t ≠ 3) → e.rd CORES.BOOT_STATE = 1 ∧ ∀ k, k < 12 →
          e.slot k = Slot.reset ∧ e.slotState k = if k = 8 then 1 else 0))

/-- R246: a write of DBG_SEL brings the named register, control register, PC or return-stack entry of a HALTED slot into DBG_DATA and DBG_TAG; a
write of DBG_DATA stores it; both set ERR where the slot is not HALTED or the number names nothing. -/
def Obligations.DebugPort : Prop :=
  ∀ (s : State) (w : Word), s.dev.blockOpen 17 = true →
    let d := s.dev
    let k := bitsOf w 0 4
    let r := bitsOf w 8 6
    let named := (d.wr CORES.DBG_SEL_SLOT k).wr CORES.DBG_SEL_REG r
    (k < 12 → d.slotState k = 0 → dbgNames k r = true → Gives (.dbgSelWrite w) s fun e =>
      e = ((named.setReg CORES.DBG_DATA_at (d.dbgItem k r).data).wr CORES.DBG_TAG_TAG (d.dbgItem k r).tag.code).wr CORES.DBG_SEL_ERR 0) ∧
    ((12 ≤ k ∨ d.slotState k ≠ 0 ∨ dbgNames k r = false) → Gives (.dbgSelWrite w) s fun e => e = named.wr CORES.DBG_SEL_ERR 1) ∧
    (d.dbgReach = false → Gives (.dbgDataWrite w) s fun e => e = d.wr CORES.DBG_SEL_ERR 1) ∧
    (∀ k r, d.rd CORES.DBG_SEL_SLOT = k → d.rd CORES.DBG_SEL_REG = r → k < 12 → d.slotState k = 0 → dbgNames k r = true →
      let v := d.slot k
      let sets (u : Slot) : Prop := Gives (.dbgDataWrite w) s fun e =>
        e.slot k = u ∧ (∀ j, j ≠ k → e.slot j = d.slot j) ∧ e.reg CORES.DBG_DATA_at = w ∧ e.on CORES.DBG_SEL_ERR = false ∧
        regsBut d e [CORES.DBG_DATA_at, CORES.DBG_SEL_at] ∧ e = { d with regs := e.regs, cores := e.cores }
      (r < 16 → sets { v with regs := Store.put voidWord v.regs r ⟨w, Tag.ofCode (d.rd CORES.DBG_TAG_TAG)⟩ }) ∧
      (r = 16 → sets { v with flags := w.setWidth 10 }) ∧ (r = 17 → sets { v with tvec := w.toNat % progSize k }) ∧
      (r = 18 → sets { v with tpc := w.toNat % progSize k, trapNext := none }) ∧ (r = 24 → sets { v with pc := w.toNat % progSize k }) ∧
      (32 ≤ r → sets { v with stack := Store.put 0 v.stack ((v.sp + 2 * stackSize k - 1 - (r - 32)) % stackSize k) (w.toNat % progSize k) }))

/-! ### Flumes (chapter 08) -/

/-- R179, R180: enabling a Flume takes the range when it lies in the 1,024 units and overlaps no other enabled Flume, which starts empty;
otherwise BADCFG and the Flume stays disabled.  On an enabled Flume the same range changes NOLIMIT alone, another range only sets BADCFG.
Disabling empties the Flume and traps a core stalled on it; a read that an entry or the stall limit had ended before ends so (R182, R187). -/
def Obligations.FlumeConfiguration : Prop :=
  ∀ (s : State) (n : Fin 64) (base : BitVec 10) (size : BitVec 11) (nolimit : Bool), s.dev.blockOpen 12 = true →
    let d := s.dev
    let stored (x : Dev) : Dev :=
      ((x.wr (FLUME.CFG_BASE n) base.toNat).wr (FLUME.CFG_SIZE n) size.toNat).wr (FLUME.CFG_NOLIMIT n) nolimit.toNat
    let free : Prop := 1 ≤ size.toNat ∧ base.toNat + size.toNat ≤ 1024 ∧ ∀ m, m < 64 → m ≠ n.val → d.flumeOn m = true →
      d.rd (FLUME.CFG_BASE m) + d.rd (FLUME.CFG_SIZE m) ≤ base.toNat ∨ base.toNat + size.toNat ≤ d.rd (FLUME.CFG_BASE m)
    (d.flumeOn n = false → free → Gives (.flumeEnable n base size nolimit) s fun e =>
      e = ((stored d).setFlume n Flume.empty).wr (FLUME.CFG_EN n) 1) ∧
    (d.flumeOn n = false → ¬ free → Gives (.flumeEnable n base size nolimit) s fun e => e = (stored d).setF FLUME.EVENTS_BADCFG) ∧
    (d.flumeOn n = true → Gives (.flumeEnable n base size nolimit) s fun e =>
      e = if base.toNat = d.rd (FLUME.CFG_BASE n) ∧ size.toNat = d.rd (FLUME.CFG_SIZE n) then d.wr (FLUME.CFG_NOLIMIT n) nolimit.toNat
          else d.setF FLUME.EVENTS_BADCFG) ∧
    ((d.flume n).stalled = [] → Gives (.flumeDisable n base size nolimit) s fun e =>
      e = stored ((d.setFlume n Flume.empty).wr (FLUME.CFG_EN n) 0)) ∧
    (∀ k t p due, (d.flume n).stalled = [⟨k, t, due⟩] → k < 12 → (d.slot k).pend = some p → (d.slot k).rep = none →
      (d.slot k).resume = none → d.slotState k ≠ 5 →
      let v := d.slot k
      let traps (x : Dev) (info : Nat) : Prop := Gives (.flumeDisable n base size nolimit) s fun e =>
        Dev.ranFlume (stored (x.wr (FLUME.CFG_EN n) 0)) e k (v.trapped causeFLUME (Word.ofNat info) (v.pc + p.len))
          (if v.stepping || v.haltAfter then 0 else 1) n Flume.empty
      (due = false → (d.flume n).entries = [] → v.flag flagINTRAP = false → traps d (n.val + 256)) ∧
      (due = true → v.flag flagINTRAP = false → traps (d.setF FLUME.EVENTS_STALLTRAP) n.val) ∧
      (due = false → ∀ h rest, (d.flume n).entries = h :: rest → h.bad = false → v.pc + p.len < progSize k →
        Gives (.flumeDisable n base size nolimit) s fun e =>
          Dev.ranFlume (stored (d.wr (FLUME.CFG_EN n) 0)) e k (v.withRead p.len p.dest h) v.after n Flume.empty))

/-- R181, R183, R185, R189, R194: PUSH appends a word under PUSH_ATTR where the Flume has room, starts or grows the gap marker where it has
none, and is discarded by a disabled Flume; POP takes the head entry and leaves its attributes in POP_ATTR, EMPTY where there is none, and
POISON with PARITY where the entry fails its parity. -/
def Obligations.FlumePushAndPop : Prop :=
  ∀ (s : State) (n : Fin 64) (w : Word), s.dev.blockOpen 12 = true →
    let d := s.dev
    let f := d.flume n
    let isEnd := d.on (FLUME.PUSH_ATTR_END n)
    let size := d.rd (FLUME.CFG_SIZE n) * 64
    let attr (x : Dev) (v : Nat) : Dev := x.setReg (FLUME.POP_ATTR_at n) (Word.ofNat v)
    let dropped (x : Dev) : Dev :=
      let x := x.add (FLUME.DROPS_COUNT n) 1
      if n.val < 32 then x.wr FLUME.DROP_LO_FLUME (x.rd FLUME.DROP_LO_FLUME ||| 2 ^ n.val)
      else x.wr FLUME.DROP_HI_FLUME (x.rd FLUME.DROP_HI_FLUME ||| 2 ^ (n.val - 32))
    (d.flumeOn n = true → f.entries.length + 1 < size → d.sluice.injections = [] → isEnd = false →
      Gives (.flumePush n w) s fun e =>
        e = d.setFlume n (f.appended (mkEntry w (Tag.ofCode (d.rd (FLUME.PUSH_ATTR_TAG n))) false false))) ∧
    (d.flumeOn n = true → size ≤ f.entries.length + 1 → f.openGap = true → Gives (.flumePush n w) s fun e =>
      e = dropped (d.setFlume n { f with entries := setLast f.entries fun g => mkEntry (Word.ofNat (min (g.data.toNat + 1) 0xFFFFFFFF)) .nat true true })) ∧
    (d.flumeOn n = true → size ≤ f.entries.length + 1 → f.openGap = false → d.sluice.injections = [] →
      (∀ j, j < 12 → d.on (CORES.SCFG_WAKEF_EN j) = false) → Gives (.flumePush n w) s fun e =>
      e = dropped (d.setFlume n (f.appended (mkEntry 1#32 .nat true true)))) ∧
    (d.flumeOn n = false → Gives (.flumePush n w) s fun e => e = (dropped d).setF FLUME.EVENTS_OFFWRITE) ∧
    ((d.flumeOn n = false ∨ (f.entries = [] ∧ f.stalled = [])) → Gives (.flumePop n) s fun e => e = (attr d (15 + 64)).answer 0#32) ∧
    (∀ h rest, d.quietFlume n → f.entries = h :: rest →
      (h.bad = false → Gives (.flumePop n) s fun e =>
        e = (attr (d.setFlume n (f.afterRead h rest)) (h.tag.code + h.isEnd.toNat * 16 + h.gap.toNat * 32)).answer h.data) ∧
      (h.bad = true → Gives (.flumePop n) s fun e =>
        e.readOut = ⟨h.data, .raw⟩ ∧ e.flume n = f.afterRead h rest ∧
        e.reg (FLUME.POP_ATTR_at n) = Word.ofNat (Tag.poison.code + h.isEnd.toNat * 16 + 128) ∧
        e.rd FLUME.PARITY_COUNT = min (d.rd FLUME.PARITY_COUNT + 1) (2 ^ FLUME.PARITY_COUNT.width - 1) ∧
        e.on FLUME.EVENTS_PARITY = true ∧ e.cores = d.cores ∧ e.sram = d.sram))

/-- R185, R187: an entry goes to the core stalled first, whose read then ends as if it had not stalled; a core whose stall limit an edge has
reached takes the Flume trap with cause STALL. -/
def Obligations.StalledReadsEnd : Prop :=
  ∀ (s : State) (n : Fin 64) (k : Nat) (t : Nat) (p : PendRead), k < 12 → (s.dev.slot k).pend = some p → (s.dev.slot k).rep = none →
    (s.dev.slot k).resume = none → s.dev.slotState k ≠ 5 →
    let d := s.dev
    let v := d.slot k
    let f := d.flume n
    (∀ h rest, f.stalled = [⟨k, t, false⟩] → f.entries = h :: rest → h.bad = false → v.pc + p.len < progSize k →
      Gives (.stalledReadDone n) s fun e =>
        d.ranFlume e k (v.withRead p.len p.dest h) v.after n ({ f with stalled := [] }.afterRead h rest)) ∧
    (f.stalled = [⟨k, t, true⟩] → v.flag flagINTRAP = false → Gives (.stallTrap n) s fun e =>
      Dev.ranFlume (d.setF FLUME.EVENTS_STALLTRAP) e k (v.trapped causeFLUME (Word.ofNat n.val) (v.pc + p.len))
        (if v.stepping || v.haltAfter then 0 else 1) n { f with stalled := [] })

/-! ### Basin (chapter 02) -/

/-- R38, R40, R44, R61: PORT_EN is written, and clearing it drops the port's undecided declarations; a gain step moves AGC.INDEX by one within 0 to
7 while the port is active, unblanked and not frozen, counts it and marks every lane that receives on the port; a detector declares only on
an active, unblanked port, enabled, from a window of MIN_SYM symbols after the latest blanking, whose normalised correlation with the
preamble pattern reaches THR / 256 and whose power reaches ED_FLOOR (R61, R65). -/
def Obligations.PortsGainAndDeclarations : Prop :=
  ∀ s : State,
    let d := s.dev
    (∀ (p : Fin 2), d.blockOpen 8 = true →
      (Gives (.portEn p true) s fun e => e.on (portEnFld p) = true ∧ regsBut d e [BASIN.CTRL_at] ∧ e = { d with regs := e.regs, lathe := e.lathe }) ∧
      ((∀ n, n < 72 → (d.lane n).group.port = p.val → (d.lane n).state.running = false) → d.on (portEnFld p) = true →
        Gives (.portEn p false) s fun e =>
          e.on (portEnFld p) = false ∧ regsBut d e [BASIN.CTRL_at] ∧
          e.basin = { d.basin with decls := d.basin.decls.filter fun x => x.port != p.val } ∧
          e = { d with regs := e.regs, lathe := e.lathe, basin := e.basin })) ∧
    (∀ (p : Fin 2) (up : Bool) (i : Nat), d.portActive p = true → d.blanked p = false → d.on (BASIN.PCFG_AGC_FROZEN p) = false →
      d.rd (BASIN.AGC_INDEX p) = i →
      ((if up then 7 ≤ i else i = 0) → Gives (.agcStep p up) s fun e => e = d) ∧
      ((if up then i < 7 else 0 < i) → Gives (.agcStep p up) s fun e =>
        e.rd (BASIN.AGC_INDEX p) = (if up then i + 1 else i - 1) ∧
        e.rd (BASIN.AGC_STEPS p) = min (d.rd (BASIN.AGC_STEPS p) + 1) (2 ^ (BASIN.AGC_STEPS p).width - 1) ∧
        e.on (if p.val = 0 then BASIN.EVENTS_AGC_A else BASIN.EVENTS_AGC_B) = true ∧
        (∀ n, n < 72 → e.lane n =
          if (d.lane n).state.running = true ∧ (d.lane n).group.port = p.val then { d.lane n with agcStep := true } else d.lane n) ∧
        regsBut d e [BASIN.AGC_at p, BASIN.EVENTS_at] ∧
        e = { d with regs := e.regs, basin := { d.basin with lanes := e.basin.lanes } })) ∧
    (∀ (det : Fin 128) (start : Stamp) (sample : Nat) (z : List Int) (power : Nat),
      let g := d.detGroup det
      let i := g.port * 8 + g.profile
      let rssi := d.rssiOf g.port power
      let p := preamblePattern z.length
      let thr := d.rd (BASIN.PMATCH_THR i)
      d.portActive g.port = true → d.blanked g.port = false → d.on (BASIN.DET_EN det) = true →
      (d.detBad det = true → Gives (.preambleDeclaration det start sample z power) s fun e => e = d.setF BASIN.EVENTS_BADCFG) ∧
      (d.detBad det = false → Gives (.preambleDeclaration det start sample z power) s fun e =>
        e = if z.length = max 8 (d.rd (BASIN.PMATCH_MIN_SYM i)) ∧ Store.get 0 d.basin.clearFrom g.port ≤ start.inst ∧ 0 < energy z ∧
                thr * thr * (energy p * energy z) ≤ 256 * 256 * ((dotProduct p z).natAbs * (dotProduct p z).natAbs) ∧
                4 * d.rdS (BASIN.PMATCH_ED_FLOOR i) ≤ rssi then
              { d with basin := { d.basin with decls := d.basin.decls ++
                [⟨det.val / 64, det.val % 64, g.width, g.profile, d.rd (BASIN.DET_PRIO det), start.inst, sample, rssi, z.sum, z.length⟩] } }
            else d))

/-- R45, R49, R56: at the end of an allocation window a declaration on bins that no lane holds starts SEARCH in the idle lane that has been idle
longest, with the copy of its profile; where no lane is idle or the limit is reached and nothing may be pre-empted, it is counted in
NOLANE and dropped; a declaration of a later sample waits for its own window.  Said of a window with one declaration, which is the earliest, no pin slots and no Lathe window. -/
def Obligations.AllocationWindow : Prop :=
  ∀ (s : State) (c : Decl) (later : List Decl) (g : Group), s.dev.noPins → s.dev.lathe.windows = [] → s.dev.basin.decls = c :: later →
    (∀ x ∈ later, c.sample / 16 < x.sample / 16) → g = ⟨c.port, c.bin, c.width, c.profile⟩ →
    c.port < 2 → c.bin < 64 → s.dev.heldLanes g = [] →
    let d := s.dev
    let rssi (e : Dev) : Prop := e.rd (BASIN.DET_LAST_RSSI (c.port * 64 + c.bin)) = twos 8 (c.rssi.fdiv 4)
    (∀ n t, d.idleLane = some n → d.lane n = { Lane.blank with idleAt := t } → d.activeLanes < d.laneLimit →
      Gives .allocationWindow s fun e => rssi e ∧
        e.lane n = { Lane.blank with
          state := .search, group := g, copy := d.profileCopy (c.port * 8 + c.profile), prio := c.prio, start := c.start, detRssi := c.rssi,
          foff := meanOf c.zSum c.zCount, zSum := c.zSum, zCount := c.zCount, fec := d.rd (BASIN.PMATCH_MODE (c.port * 8 + c.profile)) == 0 } ∧
        (∀ m, m ≠ n → e.lane m = d.lane m) ∧ e.basin.decls = later ∧ regsBut d e [BASIN.DET_at (c.port * 64 + c.bin)] ∧
        e.lathe.declLog.getLast? = some ⟨c.port, c.bin, c.width, c.start, n, d.now, .searching⟩ ∧
        e = { d with regs := e.regs, basin := { d.basin with lanes := e.basin.lanes, decls := later }, lathe := e.lathe }) ∧
    ((d.idleLane = none ∨ d.laneLimit ≤ d.activeLanes) → d.on BASIN.CFG_PREEMPT_EN = false → d.on BASIN.CFG_DROP_REC = false →
      Gives .allocationWindow s fun e => rssi e ∧
        e.rd (BASIN.NOLANE_COUNT c.port) = min (d.rd (BASIN.NOLANE_COUNT c.port) + 1) (2 ^ (BASIN.NOLANE_COUNT c.port).width - 1) ∧
        e.on (if c.port = 0 then BASIN.EVENTS_NOLANE_A else BASIN.EVENTS_NOLANE_B) = true ∧
        regsBut d e [BASIN.DET_at (c.port * 64 + c.bin), BASIN.NOLANE_at c.port, BASIN.EVENTS_at] ∧
        e = { d with regs := e.regs, basin := { d.basin with decls := later } })

/-- R48, R53, R57, R58, R59, R65, R146, R147: the life of a lane that has no primary and no shadow.  In SEARCH a sync word in time with few
enough errors takes a free buffer and enters DEMOD, or drains NOBUF where there is none, and SYNC_TIMEOUT symbols without one drain NOSYNC;
in DEMOD the header freezes RSSI and length or drains BADLEN, the last octet drains OK with the octets, dewhitened, in the buffer, and a
fade drains FADE.  RSSI, FOFFSET, LQI and EVM come from the samples as R65 says, to the roundings of log entry 103. -/
def Obligations.LaneReception : Prop :=
  ∀ (s : State) (n : Fin 72), s.dev.loneLane n →
    let d := s.dev
    let l := d.lane n
    let fl := d.rd (BASIN.PCFG_BUF_FLUME l.group.port)
    let units := d.rd (BASIN.PCFG_BUF_SIZE l.group.port)
    let bytes := (if units = 0 ∨ 64 < units then 64 else units) * 32
    (∀ (at_ : Stamp) (z : List Int) (energy : Nat) (count : BitVec 16) (f : BitVec 10) (coded : Bool), l.state = .search →
      let d := s.dev.atFrac f
      let match_ : Instr := .syncMatch n at_.tick at_.frac z energy count f
      (at_.inst - l.start - 1) * symbolRate l.copy.mode ≤ (l.copy.minSym + l.copy.syncTimeout) * 33554432 →
      (l.syncFound z = none → Gives match_ s fun e => e = d) ∧
      (l.syncFound z = some coded →
      let l' := { l with sync := some at_.inst, syncRssi := d.rssiOf l.group.port (energy / count.toNat), zSum := l.zSum + z.sum, zCount := l.zCount + z.length,
                         foff := meanOf (l.zSum + z.sum) (l.zCount + z.length), lqi := lqiOf (syncLevels l.copy.mode coded) z,
                         fec := l.copy.mode == 0 || coded }
      (∀ h rest, d.quietFlume fl → (d.flume fl).entries = h :: rest → h.bad = false → h.tag = .dptr → h.data.toNat % 32 = 0 →
        0x500000 ≤ h.data.toNat → h.data.toNat + bytes ≤ 0x600000 →
        Gives match_ s fun e =>
          e.lane n = { l' with state := .demod, buf := some h.data, isShadow := false } ∧ (∀ m, m ≠ n.val → e.lane m = d.lane m) ∧
          e.flume fl = (d.flume fl).afterRead h rest ∧ (∀ m, m ≠ fl → e.flume m = d.flume m) ∧
          e = { d with flumes := e.flumes, basin := { d.basin with lanes := e.basin.lanes }, lathe := d.latheAfter n }) ∧
      (d.quietFlume fl → (d.flume fl).entries = [] → Gives match_ s fun e =>
        Dev.drains (d.setLane n l') e n 6 [] 0 ∧ e.on BASIN.EVENTS_NOBUF = true))) ∧
    (∀ at_ : Stamp, l.state = .search →
      (l.copy.minSym + l.copy.syncTimeout) * 33554432 < (at_.inst - l.start + 1) * symbolRate l.copy.mode →
      Gives (.syncTimeout n at_) s fun e => d.drains e n 1 [] 0 ∧
        e.rd (BASIN.NOSYNC_COUNT l.group.port) = min (d.rd (BASIN.NOSYNC_COUNT l.group.port) + 1) (2 ^ (BASIN.NOSYNC_COUNT l.group.port).width - 1)) ∧
    (∀ (phr : BitVec 16) (z : List Int) (power : Nat), l.state = .demod → l.recRssi = none →
      let h := decodePhr l.copy.mode phr
      let l' := Lane.measured { l with recRssi := some (d.rssiOf l.group.port power), phrLen := h.len, fcs32 := h.fcs32, whitened := h.whitened }
        (l.copy.mode == 7) z
      (h.ok = true → h.len ≤ modeMax l.copy.mode → h.len ≤ bytes → Gives (.phrEnd n phr z power) s fun e => e = d.setLane n l') ∧
      ((h.ok = false ∨ modeMax l.copy.mode < h.len ∨ bytes < h.len) → Gives (.phrEnd n phr z power) s fun e =>
        Dev.drains (d.setLane n l') e n 5 [] l'.evm)) ∧
    (∀ (octets : List Byte) (z : List Int), l.state = .demod →
      let psduEvm := (l.measured (fourLevel l.copy.mode) z).evm
      (l.recRssi ≠ none → octets.length = l.phrLen → Gives (.lastOctet n octets z) s fun e =>
        d.drains e n 0 (dewhiten l.whitened octets) psduEvm) ∧
      (l.recRssi ≠ none → l.copy.fadeSym ≠ 0 → Gives (.fade n octets z) s fun e =>
        d.drains e n 7 (dewhiten l.whitened (octets.take l.phrLen)) psduEvm) ∧
      (l.recRssi = none → l.copy.fadeSym ≠ 0 → Gives (.fade n octets z) s fun e =>
        d.drains e n 7 [] (l.measured (l.copy.mode == 7) z).evm))

/-- R47, R48, R60, R61, R62, R67: at the end of DRAIN the record of eight words goes to the record Flume and the lane is IDLE; an abort drains a
lane in SEARCH with no octets and one in DEMOD with a part of its octets that R62 bounds but does not fix; an abort of a port drains every
lane that receives on it; BLANK_END unblanks a port whose synthesiser is in RX, and its correlation windows begin anew. -/
def Obligations.LaneEndings : Prop :=
  ∀ s : State,
    let d := s.dev
    (∀ (n : Fin 72) r, (d.lane n).state = .drain → (d.lane n).drain = some r → (d.lane n).waiting = false → (d.lane n).pin = none → r.pin = none →
      r.words.length = 8 → d.noPins → d.takesGroup (d.rd (BASIN.PCFG_REC_FLUME r.port)) 8 →
      let fl := d.rd (BASIN.PCFG_REC_FLUME r.port)
      Gives (.laneDrainEnd n) s fun e =>
        e.flume fl = (d.flume fl).withGroup r.words ∧ (∀ m, m ≠ fl → e.flume m = d.flume m) ∧
        e.lane n = { Lane.blank with idleAt := d.basin.idleSeq + 1, converted := (d.lane n).converted } ∧
        (∀ m, m ≠ n.val → e.lane m = d.lane m) ∧ regsBut d e [] ∧
        e = { d with regs := e.regs, flumes := e.flumes, basin := { d.basin with lanes := e.basin.lanes, idleSeq := d.basin.idleSeq + 1 } }) ∧
    (∀ n : Fin 72, d.loneLane n → d.blockOpen 8 = true →
      ((d.lane n).state = .search → Gives (.laneAbort n) s fun e => d.drains e n 9 [] 0) ∧
      ((d.lane n).state = .demod → Gives (.laneAbort n) s fun e => ∃ octets evm fc,
        Dev.drains { d with freeCount := fc } e n 9 octets evm ∧ octets.length ≤ (d.lane n).phrLen - 1) ∧
      ((d.lane n).state.running = false → Gives (.laneAbort n) s fun e => e = d)) ∧
    (∀ p : Fin 2, d.blockOpen 8 = true → Gives (.laneAbortAll p) s fun e => ∀ n, n < 72 →
      (e.lane n).state = if (d.lane n).group.port = p.val ∧ (d.lane n).state.running = true then .drain else (d.lane n).state) ∧
    (∀ p : Fin 2, d.blanked p = true → d.rd (RF.SYN_STATUS_STATE p) = 3 → Gives (.blankEnd p) s fun e =>
      e.blanked p = false ∧ (∀ q, q ≠ p.val → e.blanked q = d.blanked q) ∧
      e = { d with
        rf := e.rf, lathe := e.lathe, basin := { d.basin with clearFrom := Store.put 0 d.basin.clearFrom p d.rfNow } })

/-! ### Lathe (chapter 03) -/

/-- R69, R75, R80 to R84: an ARM that a check refuses only shows the check's RESULT, an armed context inside a BACKBONE span being one of the checks; one that is accepted clears MISSES and FORCE_RS, and schedules
the event that its record names; ARM_RESYNC of a FOLLOW context aims a wide listen whose window opens 20 µs from now. -/
def Obligations.ArmingAContext : Prop :=
  ∀ (s : State) (slot : BitVec 13) (f : BitVec 10) (c : Ctx) (ev : Event), s.dev.blockOpen 10 = true →
    let d := s.dev.atFrac f
    let k := slot.toNat
    let c0 : Ctx := { c with w00 := setBits (setBits c.w00 24 8 0) 11 1 0 }
    let c1 : Ctx := { c with w00 := setBits (setBits c.w00 24 8 0) 11 1 1 }
    let result (e : Dev) (r : Nat) : Prop := e.rd LATHE.CMD_STATUS_RESULT = r ∧ e.rd LATHE.CMD_STATUS_SLOT = k ∧ regsBut d e [LATHE.CMD_STATUS_at]
    d.lathe.rebuilding = false → d.readsCtx k c →
    (∀ r, d.armRefusal c false false = some r → Gives (.arm slot f) s fun e => result e r ∧ e = { d with regs := e.regs }) ∧
    (∀ r, d.armRefusal c false true = some r → Gives (.armResync slot f) s fun e => result e r ∧ e = { d with regs := e.regs }) ∧
    (d.armRefusal c false false = none → c.kind = 1 → (∀ j, 1 ≤ j → j ≤ 3 → d.plainState (k + j)) →
      (∃ j, 1 ≤ j ∧ j ≤ 3 ∧ wordArmed (d.tword (ctxAddr (k + j) 0)) = true) → Gives (.arm slot f) s fun e => result e 15 ∧ e = { d with regs := e.regs }) ∧
    (d.armRefusal c false false = none → d.spanFree c → d.admits c0 ev → Gives (.arm slot f) s fun e =>
      result e 0 ∧ d.scheduled e c0 ev ∧ e = { d with regs := e.regs, sram := e.sram, lathe := e.lathe }) ∧
    (d.armRefusal c false true = none → d.spanFree c → c.superv = 0 → d.now + usCeil 20 + d.resyncHalf c < 2 ^ 58 → c.counter < 2 ^ 32 →
      let at_ := d.now + usCeil 20 + d.resyncHalf c
      let c2 : Ctx := { c1 with anchor := (at_ + 2 ^ 58 - c.span 1 % 2 ^ 58) % 2 ^ 58 }
      Gives (.armResync slot f) s fun e =>
        result e 0 ∧ e.lathe.heap = heapInsert ⟨k, d.now + usCeil 20, c.eprio⟩ d.lathe.heap ∧
        d.ctxStored e k ([(0x00, ⟨setBits c1.w00 0 8 5, .raw⟩), (0x18, ⟨Word.ofNat c.counter, .nat⟩),
          (0x1C, ⟨Word.ofNat (c2.anchor / 1024), .time⟩),
          (0x20, ⟨Word.ofNat (c2.anchor / 1024 / 2 ^ 32 % 65536 + c2.anchor % 1024 * 65536), .raw⟩)]) ∧
        e = { d with regs := e.regs, sram := e.sram, lathe := e.lathe })

/-- R74, R75, R76, R81, R82, R85: a FOLLOW context's window lies one guard on either side of its expected instant, the guard growing with the
intervals since its anchor, and a LEAD context's event one lead before it; DISARM of an armed context loses it with reason DISARM, of one
that is not armed only says so, and of one whose event is due or awaits its commit is held; REBUILD empties the heap and the window table and stays
BUSY until its scan is done; a command meanwhile is refused. -/
def Obligations.RecordsDisarmAndRebuild : Prop :=
  (∀ (d : Dev) (c : Ctx),
      let rate := d.rd LATHE.OWN_DRIFT_DRIFT + d.rd (LATHE.PDC_DRIFT (bitsOf c.w28 16 3))
      let ns := (125 * rate * (c.misses + 1) * c.interval + 16000 * 32768 + 32767) / 32768
      let e := (c.anchor + c.span (c.misses + 1)) % 2 ^ 58
      let start := (c.anchor + c.interval * 1024) % 2 ^ 58
      (c.lead = true → d.eventOf c = some ⟨start - usCeil (max 50 (d.rd LATHE.TX_LEAD_US)), start, start, start, 0⟩) ∧
      (c.lead = false → c.forceRs = false → c.kind = 0 → 2 * ns ≤ clampN 100 64000 (d.rd LATHE.MAXWIN_MAXWIN) * 1000 →
        d.eventOf c = some ⟨e - nsCeil ns, e, e - nsCeil ns, e + nsCeil ns, 0⟩) ∧
      (c.lead = false → c.forceRs = false → c.kind = 0 → clampN 100 64000 (d.rd LATHE.MAXWIN_MAXWIN) * 1000 < 2 * ns → c.resyncEn = false →
        d.eventOf c = none)) ∧
  (∀ (s : State) (slot : BitVec 13) (f : BitVec 10), s.dev.blockOpen 10 = true →
      let d := s.dev.atFrac f
      let k := slot.toNat
      let status (x : Dev) (r : Nat) : Dev := (x.wr LATHE.CMD_STATUS_RESULT r).wr LATHE.CMD_STATUS_SLOT k
      (∀ c, d.quietSlot k → armedState c.state = true → d.readsCtx k c → d.takesNotices → Gives (.disarm slot f) s fun e =>
        d.lostWith e c 5 ∧ e.rd LATHE.CMD_STATUS_RESULT = 0 ∧ e.rd LATHE.CMD_STATUS_SLOT = k ∧
        regsBut d e [LATHE.CMD_STATUS_at, LATHE.EVENTS_at] ∧ e = { d with regs := e.regs, sram := e.sram, lathe := e.lathe, flumes := e.flumes }) ∧
      (∀ c, d.quietSlot k → armedState c.state = false → d.readsCtx k c → Gives (.disarm slot f) s fun e => e = status d 2) ∧
      (∀ h, d.lathe.rebuilding = false → d.lathe.held = [h] → h.slot = k → h.active = true → Gives (.disarm slot f) s fun e =>
        e = status { d with lathe := { d.lathe with held := [{ h with disarm := true }] } } 10) ∧
      (∀ x, d.lathe.rebuilding = false → d.lathe.held = [] → d.lathe.due = [x] → x.ev.slot = k → Gives (.disarm slot f) s fun e =>
        e = status { d with lathe := { d.lathe with due := [{ x with disarm := true }] } } 10) ∧
      (s.dev.lathe.rebuilding = false → Gives (.rebuild slot) s fun e =>
        e.lathe = { s.dev.lathe with heap := [], due := [], windows := [], rebuilding := true, rebuilt := true } ∧ e.on LATHE.CMD_STATUS_BUSY = true ∧
        e.rd LATHE.CMD_STATUS_SLOT = k ∧ regsBut s.dev e [LATHE.CMD_STATUS_at] ∧ e = { s.dev with regs := e.regs, lathe := e.lathe }) ∧
      (s.dev.lathe.rebuilding = true → Gives (.rebuild slot) s fun e => e = s.dev.wr LATHE.CMD_STATUS_RESULT 1) ∧
      (d.lathe.rebuilding = true → (∀ j, j < 8192 → d.plainState j ∧ wordArmed (d.tword (ctxAddr j 0)) = false) → Gives (.rebuildDone f) s fun e =>
        e = (({ d with lathe := { d.lathe with held := [], backbone := [], stale := [], rebuilding := false } } : Dev).wr
          LATHE.CMD_STATUS_BUSY 0).wr LATHE.CMD_STATUS_RESULT 0))

/-- R99, R100: a COMMIT that names no event, another counter or an outcome of the other role is refused and counted; an accepted one ends the
event: HEARD clears MISSES and schedules the next event from the anchor, MISSED counts a miss, SENT and NOT_SENT move the anchor on, LOSE
loses the context and RELEASE makes it FREE.  Said of a context with one held event, no monitor and no held DISARM. -/
def Obligations.Commits : Prop :=
  ∀ (s : State) (slot : BitVec 13) (ctr : BitVec 8) (f : BitVec 10), s.dev.blockOpen 10 = true →
    let d := s.dev.atFrac f
    let k := slot.toNat
    let all : List Instr := [.commitHeard slot ctr f, .commitMissed slot ctr f, .commitSent slot ctr f, .commitNotSent slot ctr f,
      .commitLose slot ctr f, .commitRelease slot ctr f]
    let status (x : Dev) (r : Nat) : Dev := (x.wr LATHE.COMMIT_STATUS_RESULT r).wr LATHE.COMMIT_STATUS_SLOT k
    let refused (c : Instr) (r : Nat) : Prop := Gives c s fun e =>
      e = ((status d r).inc LATHE.COMMIT_STATUS_REFUSED).setF LATHE.EVENTS_BADCOMMIT
    (d.lathe.rebuilding = true → ∀ c ∈ all, refused c 4) ∧
    (d.lathe.rebuilding = false → d.lathe.held = [] → Store.get none d.lathe.stale k = none → ∀ c ∈ all, refused c 1) ∧
    (∀ h, d.lathe.rebuilding = false → d.lathe.held = [h] → h.slot = k → h.active = true →
      (h.ctr % 256 ≠ ctr.toNat → ∀ c ∈ all, refused c 2) ∧
      (h.ctr % 256 = ctr.toNat →
        (h.lead = true → refused (.commitHeard slot ctr f) 3 ∧ refused (.commitMissed slot ctr f) 3) ∧
        (h.lead = false → refused (.commitSent slot ctr f) 3 ∧ refused (.commitNotSent slot ctr f) 3) ∧
        (∀ c ev, h.mon = none → h.disarm = false → (h.lead = true → d.startState h.port (Word.ofNat k) h.ctr = none) → d.readsCtx k c →
          c.lead = h.lead →
          let ended : Dev := { status d 0 with lathe := { d.lathe with held := [] } }
          let next (c' : Ctx) : Prop := ended.admits c' ev
          let done (c' : Ctx) (e : Dev) : Prop := ended.scheduled e c' ev ∧ e = { ended with sram := e.sram, lathe := e.lathe }
          let heard : Ctx := { c with w00 := setBits (setBits c.w00 24 8 0) 11 1 0, counter := (c.counter + 1) % 2 ^ 32 }
          let missed : Ctx := { c with w00 := setBits c.w00 24 8 (c.misses + 1), counter := (c.counter + 1) % 2 ^ 32 }
          let moved : Ctx := { c with anchor := (c.anchor + c.interval * 1024) % 2 ^ 58, counter := (c.counter + 1) % 2 ^ 32 }
          (h.lead = false → next heard → Gives (.commitHeard slot ctr f) s (done heard)) ∧
          (h.lead = false → c.misses < 255 → next missed → Gives (.commitMissed slot ctr f) s (done missed)) ∧
          (h.lead = true → next moved → Gives (.commitSent slot ctr f) s (done moved) ∧ Gives (.commitNotSent slot ctr f) s (done moved)) ∧
          (d.takesNotices → Gives (.commitLose slot ctr f) s fun e =>
            ended.lostWith e { c with counter := (c.counter + 1) % 2 ^ 32 } 5 ∧ regsBut ended e [LATHE.EVENTS_at]) ∧
          (Gives (.commitRelease slot ctr f) s fun e =>
            ended.ctxStored e k [(0x00, ⟨setBits c.w00 0 8 0, .raw⟩)] ∧
            e.lathe = { ended.lathe with backbone := d.lathe.backbone.filter fun x => x != k } ∧
            e = { ended with sram := e.sram, lathe := e.lathe }))))

/-- R76, R86 to R92, R96, R98: the earliest event that is due is served: a FOLLOW event opens its window and is handed to its Flume, its context
ACTIVE; before it is due nothing happens, nor before a REBUILD where the heap was lost; in NAP it waits in DUE.  A window whose listen end passes without a hit leaves the table with an EMPTY notice, one that a
lane in SEARCH hit stays.  In DOZE the head's instant less WAKE_LEAD wakes the device. -/
def Obligations.EventService : Prop :=
  ∀ (s : State) (f : BitVec 10),
    let d := s.dev.atFrac f
    (∀ h rest, d.lathe.due = [] → d.lathe.heap = h :: rest → d.now < h.due → Gives (.eventDue f) s fun e => e = d) ∧
    (d.lathe.rebuilt = false ∨ d.on LATHE.CTRL_EN = false → Gives (.eventDue f) s fun e => e = d) ∧
    (∀ h rest, d.lathe.heap = h :: rest → h.due ≤ d.now → d.on LATHE.CTRL_EN = true → d.lathe.rebuilding = false → d.lathe.rebuilt = true →
      d.power = 2 → Gives (.eventDue f) s fun e =>
        e = { d with lathe := { d.lathe with heap := rest, due := d.lathe.due ++ [⟨h, false⟩] } }) ∧
    (∀ h rest c ev bin, d.lathe.heap = h :: rest → h.due ≤ d.now → d.on LATHE.CTRL_EN = true → d.lathe.rebuilding = false →
      d.lathe.rebuilt = true → d.lathe.due = [] → d.power = 0 → (∀ m, m < 64 → (d.mon m).due = false) →
      d.readsCtx h.slot c → c.lead = false → d.recordFault c = none → d.eventOf c = some ev → ev.mode = 0 →
      d.channelBin c.plan (hopChannel c.map c.seed c.counter) = some bin → d.takesGroup c.hflume 8 → d.lathe.held = [] →
      d.lathe.declLog = [] → d.lathe.windows = [] →
      Gives (.eventDue f) s fun e =>
        e.lathe.heap = rest ∧
        (∃ mon, e.lathe.held = [⟨h.slot, c.counter, false, mon, d.planPort c.plan, ev.openAt, ev.closeAt + usCeil c.res, c.eprio, true, false, false⟩] ∧
          e.flume c.hflume = (d.flume c.hflume).withGroup (d.handoff c ev bin mon)) ∧
        (∃ w, e.lathe.windows = [w] ∧ w.slot = h.slot ∧ w.ctr = c.counter ∧ w.port = d.planPort c.plan ∧ w.openAt = ev.openAt ∧
          w.closeAt = ev.closeAt ∧ w.listenEnd = ev.closeAt + usCeil (d.rd LATHE.CFG_LISTEN_EXT) ∧
          w.groups = [(bin, d.rd (LATHE.PLANC_WIDTH c.plan))] ∧ w.hits = []) ∧
        d.ctxStored e h.slot [(0x00, ⟨setBits c.w00 0 8 3, .raw⟩)] ∧
        e.rd LATHE.LAGMAX_LAG = max (min 0xFFFF (d.now - h.due)) (d.rd LATHE.LAGMAX_LAG)) ∧
    (∀ w, d.lathe.windows = [w] → w.listenEnd ≤ d.now →
      (w.hits = [] → w.times < 5 → d.takesNotices → Gives (.listenEnd f) s fun e =>
        let n := d.rd (if w.port = 0 then LATHE.NOTE_FLUME_PORT_A else LATHE.NOTE_FLUME_PORT_B)
        e.lathe = { d.lathe with windows := [] } ∧
        e.flume n = (d.flume n).withGroup [ctxHandle w.slot, ⟨Word.ofNat (w.ctr % 2 ^ 24 + w.reason * 2 ^ 24 + 1 * 2 ^ 28), .raw⟩] ∧
        (∀ m, m ≠ n → e.flume m = d.flume m) ∧ e = { d with lathe := e.lathe, flumes := e.flumes }) ∧
      ((∃ h ∈ w.hits, h.gone = false) → Gives (.listenEnd f) s fun e =>
        e = { d with lathe := { d.lathe with windows := [{ w with ended := true }] } })) ∧
    (∀ h rest, s.dev.lathe.heap = h :: rest →
      (s.dev.now + usCeil (s.dev.rd LATHE.WAKE_LEAD_US) < h.due → Gives .latheWakeRequest s fun e => e = s.dev) ∧
      (h.due ≤ s.dev.now + usCeil (s.dev.rd LATHE.WAKE_LEAD_US) → s.dev.power = 1 → (s.dev.rd WELL.WAKE_EN_SOURCES).testBit 3 = true →
        Gives .latheWakeRequest s fun e => e.power = 6 ∧ e.well.levels.getLsbD 3 = true ∧ (e.rd WELL.WAKE_CAUSE_SOURCES).testBit 3 = true))

/-! ### Synthesisers, transmit chains and the Weir (chapters 04 and 05) -/

/-- R61, R103 to R107: EN powers the synthesiser toward fc, by way of CAL where the cache misses, and turns a receiving one off; a valid FC
retunes and blanks, is held while the synthesiser calibrates or is claimed (the former centre staying in force), and outside 410 to 960 MHz only sets BADFREQ; a done calibration
is stored and returns to fc or goes on to TX_LOCK; a lock ends the run of failures, a failure is logged, drops the cache entry and makes the
receiver calibrate again, the eighth in a row fences; CAL.GO calibrates or is held, FLUSH empties the cache.  That FC itself takes its value
while the retune is held is the model's choice (log entry 9). -/
def Obligations.Synthesisers : Prop :=
  ∀ (s : State) (p : Fin 2) (temp : Int), s.dev.blockOpen (6 + p) = true →
    let d : Dev := { s.dev with junction := temp }
    let r := d.rfp p
    let st := d.rd (RF.SYN_STATUS_STATE p)
    let fc := d.rd (RF.FC_FREQ_HZ p)
    let state (e : Dev) (v : Nat) : Prop := e.rd (RF.SYN_STATUS_STATE p) = v
    let powered := d.on (RF.SYN_CTRL_EN p) = true ∧ d.synPowered p = true
    let inForce (c : Syn) : Syn := { c with fcWas := none }
    (st = 0 → r.tx.now = none → d.synPowered p = true →
      (r.syn.hits fc temp → Gives (.synEn p true temp) s fun e => state e 2 ∧ e.on (RF.SYN_CTRL_EN p) = true ∧
        d.rfBecomes e p { r with syn := inForce (r.syn.hit fc) } [RF.SYN_CTRL_at p, RF.SYN_STATUS_at p]) ∧
      (¬ r.syn.hits fc temp → d.portQuiet p → Gives (.synEn p true temp) s fun e => state e 1 ∧ e.on (RF.SYN_CTRL_EN p) = true ∧
        d.rfBlanks e p { r with syn := inForce { r.syn with calFreq := fc, blanked := true } } [RF.SYN_CTRL_at p, RF.SYN_STATUS_at p])) ∧
    (2 ≤ st → st ≤ 3 → d.portQuiet p → Gives (.synEn p false temp) s fun e => state e 0 ∧ e.on (RF.SYN_CTRL_EN p) = false ∧
      d.rfBlanks e p r [RF.SYN_CTRL_at p, RF.SYN_STATUS_at p]) ∧
    (st = 1 ∨ 4 ≤ st → Gives (.synEn p false temp) s fun e => e = d.wr (RF.SYN_CTRL_EN p) 0) ∧
    (∀ hz : BitVec 30, hz.toNat < 410000000 ∨ 960000000 < hz.toNat → Gives (.fcWrite p hz temp) s fun e => e = d.setF (RF.EVENTS_BADFREQ p)) ∧
    (∀ hz : BitVec 30, 410000000 ≤ hz.toNat → hz.toNat ≤ 960000000 →
      (st = 1 ∨ 4 ≤ st → Gives (.fcWrite p hz temp) s fun e => e.rd (RF.FC_FREQ_HZ p) = hz.toNat ∧
        d.rfBecomes e p { r with syn := { r.syn with fcWas := some (d.centreHz p) } } [RF.FC_at p]) ∧
      (st = 0 → Gives (.fcWrite p hz temp) s fun e => e = d.wr (RF.FC_FREQ_HZ p) hz.toNat) ∧
      (2 ≤ st → st ≤ 3 → d.portQuiet p → powered → Gives (.fcWrite p hz temp) s fun e =>
        e.rd (RF.FC_FREQ_HZ p) = hz.toNat ∧
        (r.syn.hits hz.toNat temp → state e 2 ∧
          d.rfBlanks e p { r with syn := inForce { r.syn.hit hz.toNat with blanked := true } } [RF.FC_at p, RF.SYN_STATUS_at p]) ∧
        (¬ r.syn.hits hz.toNat temp → state e 1 ∧
          d.rfBlanks e p { r with syn := inForce { r.syn with calFreq := hz.toNat, blanked := true } } [RF.FC_at p, RF.SYN_STATUS_at p]))) ∧
    (st = 1 → r.tx = ⟨[], none, none⟩ → r.syn.calFreq = fc → powered →
      Gives (.calibrationDone p temp) s fun e => state e 2 ∧
        d.rfBecomes e p { r with syn := inForce ((r.syn.stored fc temp).hit fc) } [RF.SYN_STATUS_at p]) ∧
    (∀ t, st = 4 → r.tx.now = some t → t.ending = none → Gives (.calibrationDone p temp) s fun e => state e 5 ∧
      d.rfBecomes e p { r with syn := r.syn.stored r.syn.calFreq temp } [RF.SYN_STATUS_at p]) ∧
    (let d := s.dev
     (st = 2 → Gives (.lockAchieved p) s fun e => state e 3 ∧ e.rd (RF.SYN_STATUS_LOCKFAILS p) = 0 ∧ regsBut d e [RF.SYN_STATUS_at p] ∧
       e = { d with regs := e.regs, lathe := { d.lathe with spans := e.lathe.spans, windows := e.lathe.windows } }) ∧
     (∀ t, st = 5 → r.tx.now = some t → t.lockFailed = false → Gives (.lockAchieved p) s fun e => state e 6 ∧
       e.rd (RF.SYN_STATUS_LOCKFAILS p) = 0 ∧ regsBut d e [RF.SYN_STATUS_at p] ∧ e = { d with regs := e.regs }) ∧
     (∀ n, st = 2 ∨ st = 5 → d.canLog → d.portQuiet p → n = d.rd (RF.SYN_STATUS_LOCKFAILS p) + 1 →
       Gives (.lockFailure p) s fun e => e.on (RF.EVENTS_NOLOCK p) = true ∧ e.rd (RF.SYN_STATUS_LOCKFAILS p) = min 8 n ∧
         (e.rfp p).syn.cache = r.syn.cache.filter (fun x => x.1 != r.syn.calFreq / 2000000) ∧
         d.tells e (mkUnitFault 0x09 6 p r.syn.calFreq (min 8 n) |> fun f => { f with reaction := if 8 ≤ n then 5 else 0 }) ∧
         (n < 8 → st = 2 → state e 1 ∧ (e.rfp p).syn.blanked = true) ∧
         (n < 8 → st = 5 → state e 5 ∧ (e.rfp p).tx.now = r.tx.now.map fun t => { t with lockFailed := true }) ∧
         (8 ≤ n → e.fencedPort 6 p = true ∧ e.on REPAIR.EVENTS_FENCED = true ∧ e.on REPAIR.EVENTS_DIRTY = true ∧ (r.tx.now = none → state e 0))) ∧
     Gives (.calFlush p) s (fun e => d.rfBecomes e p { r with syn := { r.syn with cache := [] } } []) ∧
     (∀ hz : BitVec 30, st = 0 ∨ st = 1 ∨ 4 ≤ st → Gives (.calGo p hz) s fun e =>
       d.rfBecomes e p { r with syn := { r.syn with heldCal := some hz.toNat } } []) ∧
     (2 ≤ st → st ≤ 3 → d.synPowered p = true → r.tx.scheds = [] → d.portQuiet p →
       (∀ hz : BitVec 30, Gives (.calGo p hz) s fun e => state e 1 ∧
         d.rfBlanks e p { r with syn := { r.syn with calFreq := hz.toNat, blanked := true, heldCal := none } } [RF.SYN_STATUS_at p]) ∧
       (∀ f, r.syn.heldCal = some f → Gives (.calHeldStart p) s fun e => state e 1 ∧
         d.rfBlanks e p { r with syn := { r.syn with calFreq := f, blanked := true, heldCal := none } } [RF.SYN_STATUS_at p])))

/-- R108, R109, R111, R112: a scheduled descriptor gives its frame to the held start of its handle and CTR, or is refused BADDESC; a free
descriptor becomes the held free transmission, or ends LATE where its claim instant has passed; at its claim instant a request takes the
synthesiser from fc to TX_LOCK, or to TX_CAL where the cache misses, and blanks the port.  Nothing is read without a whole descriptor, and
no claim is made before its instant or while a calibration runs; in DOZE its instant asserts the wake source TXCLAIM (R117, R302). -/
def Obligations.TransmitRequests : Prop :=
  ∀ (s : State) (p : Fin 2) (f : BitVec 10) (temp : Int) (id w1 buf w3 freq start : Word) (t : Tag) (rest : List FEntry) (o : List Byte),
    let ctr := bitsOf w1 24 8
    let len := bitsOf w3 21 11
    let mode := bitsOf w3 17 4
    let x : TxDesc := ⟨inRange (signed 9 (bitsOf w1 15 9)), w1.getLsbD 14, w1.getLsbD 13, w1.getLsbD 12, len, o⟩
    let goodBuffer := buf.toNat % 4 = 0 ∧ 1 ≤ len ∧ len ≤ modeMax mode ∧ 0x500000 ≤ buf.toNat ∧ buf.toNat + (len + 3) / 4 * 4 ≤ 0x600000
    let words (tag : Tag) : List TWord := [⟨id, tag⟩, ⟨w1, t⟩, ⟨buf, t⟩, ⟨w3, t⟩, ⟨freq, t⟩, ⟨start, t⟩]
    let badDesc (d e : Dev) (tag : Tag) (fl : Nat) (power : Int) : Prop :=
      (d.consumed fl 6 rest).endsRequest e p (d.rfp p) (reportWords p ⟨id, tag⟩ 0xB 0 ctr power false false false 0 0) [] ∧
      e.on (RF.EVENTS_BADDESC p) = true
    (let d := s.dev
     let r := d.rfp p
     let fl := d.rd (RF.TXCFG_TXS_FLUME p)
     let res := d.rd (RF.TXCFG_RES_FLUME p)
     ((d.flume fl).pkts = 0 → (d.flume fl).stalled = [] → Gives (.scheduledDescriptor p) s fun e => e = d) ∧
     (∀ h, d.waits fl (words .ctx) rest → r.tx.now = none → r.tx.scheds = [h] → h.id = id → h.ctr = ctr → h.desc = none → modeMax h.mode = modeMax mode →
       goodBuffer → d.holdsFrame buf.toNat len o → Gives (.scheduledDescriptor p) s fun e =>
         (d.consumed fl 6 rest).rfBecomes e p { r with tx := { r.tx with scheds := [{ h with desc := some x }] } } []) ∧
     (d.waits fl (words .ctx) rest → r.tx.now = none → (∀ h ∈ r.tx.scheds, h.id ≠ id ∨ h.ctr ≠ ctr ∨ h.desc ≠ none) → res ≠ fl → d.takesGroup res 4 →
       Gives (.scheduledDescriptor p) s fun e => badDesc d e .ctx fl 0)) ∧
    (let d := s.dev.atFrac f
     let r := d.rfp p
     let fl := d.rd (RF.TXCFG_TXF_FLUME p)
     let res := d.rd (RF.TXCFG_RES_FLUME p)
     let req (e q : Nat) : TxReq := ⟨false, id, ctr, w1.getLsbD 11, e, freq.toNat, mode, 0, q, some x⟩
     let taken (e : Dev) (q : TxReq) : Prop := (d.consumed fl 6 rest).rfBecomes e p { r with tx := { r.tx with free := some q } } []
     d.waits fl (words .nat) rest → r.tx.now = none → r.tx.free = none →
     ((freq.toNat < 410000000 ∨ 960000000 < freq.toNat) → res ≠ fl → d.takesGroup res 4 →
       Gives (.freeDescriptor p f) s fun e => badDesc d e .nat fl (inRange (inRange (signed 9 (bitsOf w1 15 9)) + d.rdS (RF.PACAL_TRIM p)))) ∧
     (410000000 ≤ freq.toNat → freq.toNat ≤ 960000000 → goodBuffer → d.holdsFrame buf.toNat len o →
       (w1.getLsbD 11 = true → Gives (.freeDescriptor p f) s fun e => taken e (req 0 0)) ∧
       (∀ n hit, w1.getLsbD 11 = false → n % 2 ^ 32 = start.toNat → d.tick ≤ n + 2 ^ 31 → n < d.tick + 2 ^ 31 → r.tx.scheds = [] →
         (hit = true ↔ r.syn.hits freq.toNat d.junction) →
         let i := n * 1024 + bitsOf w3 7 10
         let lead := d.leadTo p hit
         (d.rfNow + lead ≤ i → Gives (.freeDescriptor p f) s fun e => taken e (req i (i - lead))) ∧
         (i < d.rfNow + lead → res ≠ fl → d.takesGroup res 4 → Gives (.freeDescriptor p f) s fun e =>
           (d.consumed fl 6 rest).endsRequest e p r (d.ended p (req i (i - lead)) 0xF 0) [])))) ∧
    (let d : Dev := { s.dev.atFrac f with junction := temp }
     let r := d.rfp p
     let st := d.rd (RF.SYN_STATUS_STATE p)
     let claims (q : TxReq) (tx : Tx) : Prop :=
       (r.syn.hits q.freq temp → Gives (.claim p f temp) s fun e => e.rd (RF.SYN_STATUS_STATE p) = 5 ∧
         d.rfBlanks e p ⟨{ r.syn.hit q.freq with blanked := true }, { tx with now := some ⟨q, false, false, false, 0, [], (0, 0), 0, false, 0, [], [], none, none, none⟩ }⟩
           [RF.SYN_STATUS_at p]) ∧
       (¬ r.syn.hits q.freq temp → Gives (.claim p f temp) s fun e => e.rd (RF.SYN_STATUS_STATE p) = 4 ∧
         d.rfBlanks e p ⟨{ r.syn with calFreq := q.freq, blanked := true }, { tx with now := some ⟨q, true, false, false, 0, [], (0, 0), 0, false, 0, [], [], none, none, none⟩ }⟩
           [RF.SYN_STATUS_at p])
     (st = 1 ∨ r.tx.now ≠ none → d.running = true → Gives (.claim p f temp) s fun e => e = d) ∧
     (∀ q ∈ r.tx.scheds, q.q ≤ d.rfNow → d.power = 1 → d.fencedPort 6 p = false → d.fencedPort 7 p = false → Gives (.claim p f temp) s fun e =>
       e.well.levels.getLsbD 13 = true ∧ ((d.rd WELL.WAKE_EN_SOURCES).testBit 13 = true → e.power = 6) ∧ e.rf = d.rf) ∧
     ((∀ q ∈ r.tx.scheds, d.rfNow < q.q) → r.tx.free = none → Gives (.claim p f temp) s fun e => e = d) ∧
     (r.tx.now = none → st = 0 ∨ st = 2 ∨ st = 3 → d.synPowered p = true → d.fencedPort 7 p = false → d.portQuiet p →
       (∀ q, r.tx.scheds = [q] → q.sched = true → q.q ≤ d.rfNow → r.tx.free = none → claims q { r.tx with scheds := [] }) ∧
       (∀ q, r.tx.scheds = [] → r.tx.free = some q → q.sched = false → q.asap = false → q.q ≤ d.rfNow → claims q { r.tx with free := none }) ∧
       (∀ q hit, r.tx.scheds = [] → r.tx.free = some q → q.sched = false → q.asap = true → (hit = true ↔ r.syn.hits q.freq temp) →
         claims { q with e := d.rfNow + d.leadTo p hit, q := d.rfNow } { r.tx with free := none })))

/-- R111 steps 4 to 6, R116, R122, R128, R129, R130: at C the first failing check ends the claimed request and the synthesiser returns to fc:
NOLOCK, UNREADY, NOFRAME, then the Weir's checks in their order, each counted and shown in WEIR.LAST; where all pass the Weir grants, with
the power clamped to the lowest P_MAX, the predicted time reserved, the shortest MAXTX_MS kept for the dwell cut (R127), the ramp and its table copied, and a scheduled start's monitor disarmed. -/
def Obligations.ClearanceAtC : Prop :=
  ∀ (s : State) (p : Fin 2) (f : BitVec 10) (t : TxNow),
    let d := s.dev.atFrac f
    let r := d.rfp p
    let fc := d.rd (RF.FC_FREQ_HZ p)
    let st := d.rd (RF.SYN_STATUS_STATE p)
    r.tx.now = some t → t.ending = none → t.granted = false → t.req.e ≤ d.rfNow + usCeil 20 → st = 5 ∨ st = 6 →
    d.on (RF.SYN_CTRL_EN p) = true → d.synPowered p = true → r.syn.hits fc d.junction → d.takesGroup (d.rd (RF.TXCFG_RES_FLUME p)) 4 →
    let fails (outcome why : Nat) (l : List Nat) (P : Dev → Prop) : Prop := Gives (.clearance p f) s fun e =>
      d.endsRequest e p ⟨{ r.syn.hit fc with fcWas := none }, { r.tx with now := none }⟩
        (reportWords p ⟨t.req.id, if t.req.sched then .ctx else .nat⟩ outcome why t.req.ctr
          (match t.req.desc with
           | some x => inRange (x.power + d.rdS (RF.PACAL_TRIM p))
           | none => 0) false t.cal false 0 0) (RF.SYN_STATUS_at p :: l) ∧
      e.rd (RF.SYN_STATUS_STATE p) = 2 ∧ P e
    (t.lockFailed = true → fails 4 0 [] fun _ => True) ∧
    (t.lockFailed = false → st = 5 → fails 5 0 [] fun _ => True) ∧
    (t.lockFailed = false → st = 6 → t.req.desc = none → fails 3 0 [] fun _ => True) ∧
    (∀ x, t.lockFailed = false → st = 6 → t.req.desc = some x → (d.rfp (1 - p)).tx.now = none →
      let us := airTime t.req.mode x.fec x.len + 2 * clampN 2 32 (d.rd (RF.RAMP_US p))
      let cover (b : Nat) : Prop := b < 8 ∧ d.on (WEIR.COND_VALID b) = true ∧
        d.rd (WEIR.LO_HZ b) + modeBW t.req.mode / 2 ≤ t.req.freq ∧ t.req.freq + modeBW t.req.mode / 2 ≤ d.rd (WEIR.HI_HZ b)
      let dwell (b : Nat) : Prop := max 1 (d.rd (WEIR.PWR_MAXTX_MS b)) * 1000 < us
      let early (b : Nat) : Prop := ∃ m : Nat, Store.get none d.weir.lastOff b = some m ∧
        ((t.req.e : Int) - m) * 15625 < ((d.rd (WEIR.COND_OFF_MS b) * 1000 * 524288 : Nat) : Int)
      let short (b : Nat) : Prop := ((min 1000000 (d.rd (WEIR.DUTY_DUTY_PPM b)) * 3600 : Nat) : Int) - d.used b < us
      let first (F : Nat → Prop) (b : Nat) : Prop := cover b ∧ F b ∧ ∀ c, c < b → cover c → ¬ F c
      let refuses (why b : Nat) (ev : Fld) : Prop := fails 6 why [WEIR.REFUSALS_at, WEIR.EVENTS_at, WEIR.LAST_at] fun e =>
        e.on ev = true ∧ e.on (RF.EVENTS_REFUSED p) = true ∧ e.rd WEIR.REFUSALS_COUNT = min (d.rd WEIR.REFUSALS_COUNT + 1) (2 ^ WEIR.REFUSALS_COUNT.width - 1) ∧
        e.rd WEIR.LAST_WHY = why ∧ e.rd WEIR.LAST_RECORD = b ∧ e.rd WEIR.LAST_PORT = p
      let ok := d.on WEIR.STATUS_SILENT = false ∧ d.on (supplyOkFld p) = true
      (d.on WEIR.STATUS_SILENT = true → refuses 6 0 WEIR.EVENTS_SUPPLY) ∧
      (d.on WEIR.STATUS_SILENT = false → d.on (supplyOkFld p) = false → refuses 5 0 WEIR.EVENTS_SUPPLY) ∧
      (ok → (∀ b, ¬ cover b) → refuses 1 0 WEIR.EVENTS_FREQ) ∧
      (∀ b, ok → first dwell b → refuses 2 b WEIR.EVENTS_DWELL) ∧
      (∀ b, ok → (∀ c, cover c → ¬ dwell c) → first early b → refuses 3 b WEIR.EVENTS_OFFTIME) ∧
      (∀ b, ok → (∀ c, cover c → ¬ dwell c ∧ ¬ early c) → first short b → refuses 4 b WEIR.EVENTS_DUTY) ∧
      (∀ low : Int, ok → (∀ m, (d.mon m).due = false ∧ (d.mon m).expired = false) → (∃ b, cover b) → (∀ c, cover c → ¬ dwell c ∧ ¬ early c ∧ ¬ short c) →
        (∀ b, cover b → low ≤ inRange (d.rdS (WEIR.PWR_P_MAX b))) → (∃ b, cover b ∧ low = inRange (d.rdS (WEIR.PWR_P_MAX b))) →
        let power := x.power + d.rdS (RF.PACAL_TRIM p)
        Gives (.clearance p f) s fun e =>
          (∃ n, (e.rfp p).tx.now = some n ∧ n = { t with
            granted := true, predicted := us, cover := n.cover, dwell := n.dwell, power := inRange (min power low), clamped := decide (low < power),
            ramp := clampN 2 32 (d.rd (RF.RAMP_US p)), shape := (List.range 31).map (fun i => d.rd (RF.SHAPE_AMP p i)) ++ [1023] } ∧
            (∀ b, b ∈ n.cover ↔ cover b) ∧ (∀ b, cover b → n.dwell.2 ≤ max 1 (d.rd (WEIR.PWR_MAXTX_MS b)) * 1000) ∧
            ∃ b, cover b ∧ n.dwell = (b, max 1 (d.rd (WEIR.PWR_MAXTX_MS b)) * 1000)) ∧
          (e.rfp p).syn = r.syn ∧ (e.rfp p).tx.scheds = r.tx.scheds ∧ (e.rfp p).tx.free = r.tx.free ∧ (∀ q, q ≠ p.val → e.rfp q = d.rfp q) ∧
          (e.on WEIR.EVENTS_CLAMP = true ↔ d.on WEIR.EVENTS_CLAMP = true ∨ low < power) ∧
          regsBut d e [WEIR.EVENTS_at] ∧ e = { d with regs := e.regs, rf := e.rf, clep := { d.clep with dmon := e.clep.dmon } } ∧
          (t.req.sched = false → e.clep = d.clep) ∧
          (∀ h m, t.req.sched = true → d.lathe.held = [h] → h.lead = true → h.slot = t.req.id.toNat → h.ctr % 256 = t.req.ctr → h.mon = some m →
            (d.mon m).agent = 4 → (d.mon m).handle = Word.ofNat h.slot → (e.mon m).armed = false)))

/-- R111 steps 7 to 11, R114, R117, R118, R131, R134: a granted transmission ramps up at E with its bits on the air, ramps down at the end of its
last symbol, and at PA off is charged its measured time under every covering record and reported, the synthesiser returning to fc; TX_ABORT
withdraws held requests or ends the present transmission, before the ramp at once, in TX_ON by a ramp-down; a supply dip and a dwell cut end
it likewise, in 2 µs; while the other port's amplifier is on the ramp does not start (R113; the outcome then is the model's choice, log entry
108). -/
def Obligations.TransmissionOrder : Prop :=
  ∀ (s : State) (p : Fin 2) (f : BitVec 10) (t : TxNow),
    let res := s.dev.rd (RF.TXCFG_RES_FLUME p)
    let fc := s.dev.rd (RF.FC_FREQ_HZ p)
    let r := s.dev.rfp p
    let state (e : Dev) (v : Nat) : Prop := e.rd (RF.SYN_STATUS_STATE p) = v
    let returns := s.dev.on (RF.SYN_CTRL_EN p) = true ∧ s.dev.synPowered p = true ∧ r.syn.hits fc s.dev.junction ∧ s.dev.takesGroup res 4
    let home : Rf := ⟨{ r.syn.hit fc with fcWas := none }, { r.tx with now := none }⟩
    let power (x : Option TxDesc) : Int := match x with
      | some x => inRange (x.power + s.dev.rdS (RF.PACAL_TRIM p))
      | none => 0
    let reportOf (outcome why : Nat) : List TWord :=
      reportWords p ⟨t.req.id, if t.req.sched then .ctx else .nat⟩ outcome why t.req.ctr (if t.granted then t.power else power t.req.desc)
        (t.granted && t.clamped) t.cal false 0 0
    let stops (d e : Dev) (outcome why us : Nat) (l : List Nat) : Prop :=
      d.rfBecomes e p { r with tx := { r.tx with now := some { t with ending := some (outcome, why), down := some ⟨d.rfNow, us⟩ } } } l
    let ends (d e : Dev) (outcome why : Nat) (l : List Nat) : Prop := d.endsRequest e p home (reportOf outcome why) (RF.SYN_STATUS_at p :: l) ∧ state e 2
    r.tx.now = some t →
    (let d := s.dev.atFrac f
     (∀ x, t.req.desc = some x → t.granted = true → t.rampStart = none → d.rd (RF.SYN_STATUS_STATE p) = 6 → t.req.e ≤ d.rfNow →
       (d.rd (RF.SYN_STATUS_STATE (1 - p)) = 7 → t.ending = none → returns → Gives (.rampStart p f) s fun e => ends d e 7 0 []) ∧
       (d.rd (RF.SYN_STATUS_STATE (1 - p)) ≠ 7 → Gives (.rampStart p f) s fun e => state e 7 ∧
         e.lathe = { d.lathe with held := d.lathe.held.map fun h =>
           if t.req.sched && h.lead && h.slot == t.req.id.toNat && h.ctr % 256 == t.req.ctr then { h with wasHit := true } else h } ∧
         Dev.rfBecomes { d with lathe := e.lathe } e p { r with tx := { r.tx with
           now := some { t with rampStart := some d.rfNow, onAir := airSymbols t.req.mode x.octets x.fcs32 x.whiten x.fec } } } [RF.SYN_STATUS_at p])) ∧
     (t.granted = false ∨ d.rfNow + 1 < t.req.e → Gives (.rampStart p f) s fun e => e = d) ∧
     (t.rampStart ≠ none → t.down = none → Gives (.lastSymbolEnd p f) s fun e =>
       d.rfBecomes e p { r with tx := { r.tx with now := some { t with down := some ⟨d.rfNow, t.ramp⟩ } } } []) ∧
     (∀ up b, t.rampStart = some up → t.down ≠ none → t.cover = [b] → t.ending = none → t.ramp ≤ 32 →
       t.req.e / 1024 / 1966080 = d.tick / 1966080 → returns → Gives (.paOff p f) s fun e =>
         let us := ((d.rfNow - up) * 15625 + 262144) / 524288
         let k := (d.weir.bucket + d.clep.bucketDue.toNat) * 8 + b
         let full := up + t.ramp * 524288 / 15625
         d.reports e p true (reportWords p ⟨t.req.id, if t.req.sched then .ctx else .nat⟩ 0 0 t.req.ctr t.power t.clamped t.cal true full us) ∧
         e.weir = { d.weir with
           ledger := Store.put 0 d.weir.ledger k (Store.get 0 d.weir.ledger k + us),
           lastOff := Store.put none d.weir.lastOff b (some d.rfNow) } ∧
         e.rfp p = home ∧ (∀ q, q ≠ p.val → e.rfp q = d.rfp q) ∧ state e 2 ∧ regsBut d e [RF.SENT_at p, RF.SYN_STATUS_at p] ∧
         e = { d with regs := e.regs, flumes := e.flumes, rf := e.rf, weir := e.weir }) ∧
     (∀ up, t.rampStart = some up → t.ending = none → d.canLog →
       let us := ((d.rfNow - up) * 15625 + 262144) / 524288
       (us < t.dwell.2 → Gives (.dwellCut p f) s fun e => e = d) ∧
       (t.dwell.2 ≤ us → Gives (.dwellCut p f) s fun e =>
         d.tells e (mkUnitFault 0x0A 7 p us t.dwell.1) ∧
         e.rfp p = { r with tx := { r.tx with now := some { t with ending := some (9, 8), down := some ⟨d.rfNow, 2⟩ } } } ∧
         e.on WEIR.EVENTS_CUT = true ∧ e.rd WEIR.LAST_WHY = 8 ∧ e.rd WEIR.LAST_RECORD = t.dwell.1 % 8 ∧ e.rd WEIR.LAST_PORT = p))) ∧
    (let d := s.dev
     let low (e : Dev) : Prop := e.on (vpaLowFld p) = true ∧ e.on (supplyOkFld p) = false
     let dipped (mv : Nat) : Dev :=
       let x := s.dev.atFrac f
       { x with weir := { x.weir with vpa := Store.put 3600 x.weir.vpa p mv, supplyFrom := Store.put 0 x.weir.supplyFrom p x.rfNow } }
     (t.ending = none →
       (t.rampStart ≠ none →
         (d.blockOpen (6 + p) = true → Gives (.txAbortNow p) s fun e => stops d e 1 0 t.ramp []) ∧
         (d.blockOpen (6 + p) = true → r.tx.scheds = [] → r.tx.free = none → Gives (.txAbortAll p) s fun e => stops d e 1 0 t.ramp []) ∧
         (∀ mv : BitVec 13, mv.toNat < 2000 + 10 * clampN 80 200 (d.rd WEIR.SUPPLY_VPA_WARN) → Gives (.vpaLow ⟨p, mv, f⟩) s fun e =>
           low e ∧ stops (dipped mv.toNat) e 8 0 2 [WEIR.STATUS_at])) ∧
       (t.rampStart = none → returns → d.rd (RF.SYN_STATUS_STATE p) ≠ 4 →
         (d.blockOpen (6 + p) = true → Gives (.txAbortNow p) s fun e => ends d e 1 0 []) ∧
         (d.blockOpen (6 + p) = true → r.tx.scheds = [] → r.tx.free = none → Gives (.txAbortAll p) s fun e => ends d e 1 0 []) ∧
         (∀ mv : BitVec 13, t.granted = true → mv.toNat < 2000 + 10 * clampN 80 200 (d.rd WEIR.SUPPLY_VPA_WARN) → Gives (.vpaLow ⟨p, mv, f⟩) s fun e => low e ∧ ends (dipped mv.toNat) e 6 5 [WEIR.STATUS_at, WEIR.REFUSALS_at, WEIR.EVENTS_at, WEIR.LAST_at]))) ∧
     (∀ q, d.blockOpen (6 + p) = true → r.tx.free = some q → d.takesGroup res 4 → Gives (.txAbortFree p) s fun e =>
       d.endsRequest e p { r with tx := { r.tx with free := none } } (d.ended p q 1 0) []) ∧
     (∀ q, d.blockOpen (6 + p) = true → r.tx.free = none → r.tx.scheds = [q] → t.rampStart ≠ none → t.ending = none → d.takesGroup res 4 →
       Gives (.txAbortAll p) s fun e =>
         d.endsRequest e p { r with tx := { r.tx with scheds := [], now := some { t with ending := some (1, 0), down := some ⟨d.rfNow, t.ramp⟩ } } }
           (d.ended p q 1 0) []))

/-- R126, R130, R132, R133, R134: at a 60 s boundary the window moves by a bucket, the oldest leaving it; the supply rule allows transmission again
where VMAIN is not low, VPA stands 50 mV above VPA_WARN and 1 ms has passed (to within the unit of log entry 7); VPA below VPA_WARN forbids it and starts the 1 ms again; a failed self-check makes the Weir SILENT and is FATAL. -/
def Obligations.WeirRules : Prop :=
  ∀ s : State,
    let d := s.dev
    (d.clep.bucketDue = false → Gives .ledgerBucketBoundary s fun e => e = d) ∧
    (d.clep.bucketDue = true → Gives .ledgerBucketBoundary s fun e =>
      e.weir.bucket = d.weir.bucket + 1 ∧ e.clep = { d.clep with bucketDue := false } ∧
      (∀ b k, b < 8 → Store.get 0 e.weir.ledger (k * 8 + b) = if d.weir.bucket + 1 < k + 60 then Store.get 0 d.weir.ledger (k * 8 + b) else 0) ∧
      (e.on WEIR.STATUS_COLD = true ↔ ∃ b k, b < 8 ∧ Store.get none d.weir.cold b = some k ∧ d.weir.bucket + 1 < k + 60) ∧
      regsBut d e [WEIR.STATUS_at] ∧ e = { d with regs := e.regs, clep := e.clep, weir := { d.weir with bucket := e.weir.bucket, ledger := e.weir.ledger } }) ∧
    (∀ (p : Fin 2) (mv : BitVec 13) (f : BitVec 10),
      let d := s.dev.atFrac f
      let warn := 2000 + 10 * clampN 80 200 (d.rd WEIR.SUPPLY_VPA_WARN)
      let from_ := Store.get 0 d.weir.supplyFrom p
      let stands (e : Dev) (w : Store Nat) : Prop := (e.on (vpaLowFld p) = decide (mv.toNat < warn)) ∧ regsBut d e [WEIR.STATUS_at] ∧
        e = { d with regs := e.regs, weir := { d.weir with vpa := Store.put 3600 d.weir.vpa p mv.toNat, supplyFrom := w } }
      ((d.on WEIR.STATUS_VMAIN_LOW = true ∨ mv.toNat < warn + 50 ∨ d.rfNow + 1 < from_ + usCeil 1000) → Gives (.supplyRuleRelease ⟨p, mv, f⟩) s fun e =>
        stands e d.weir.supplyFrom ∧ e.on (supplyOkFld p) = d.on (supplyOkFld p)) ∧
      (d.on WEIR.STATUS_VMAIN_LOW = false → warn + 50 ≤ mv.toNat → from_ + usCeil 1000 ≤ d.rfNow + 1 → Gives (.supplyRuleRelease ⟨p, mv, f⟩) s fun e =>
        stands e d.weir.supplyFrom ∧ e.on (supplyOkFld p) = true) ∧
      (warn ≤ mv.toNat → Gives (.vpaLow ⟨p, mv, f⟩) s fun e => stands e d.weir.supplyFrom ∧ e.on (supplyOkFld p) = d.on (supplyOkFld p)) ∧
      (mv.toNat < warn → (d.rfp p).tx.now = none → Gives (.vpaLow ⟨p, mv, f⟩) s fun e =>
        stands e (Store.put 0 d.weir.supplyFrom p d.rfNow) ∧ e.on (supplyOkFld p) = false)) ∧
    (∀ code : Fin 3, (d.rfp 0).tx.now = none → (d.rfp 1).tx.now = none → d.canLog → (∀ p, p < 2 → d.rd (AQUA.LINK_STATE p) = 0) →
      Gives (.weirSelfCheckFail code) s fun e =>
        e.on WEIR.STATUS_SILENT = true ∧ e.on WEIR.STATUS_HEALTHY = false ∧ e.on SLUICE.STATUS_FATAL = true ∧ e.on SLUICE.STATUS_HB_RUN = false ∧
        e.on SLUICE.STATUS_HB_LEVEL = false ∧ e.sluice.fPending = true ∧ d.tells e (mkUnitFault 0x20 17 0 17 (0x11 + code)) ∧
        (d.on SLUICE.STATUS_FATAL = false → e.rd SLUICE.FATAL_INFO_CODE = 0x20 ∧ e.rd SLUICE.FATAL_INFO_KIND = 17 ∧ e.rd SLUICE.FATAL_INFO_INST = 0))

/-! ### Chisel (chapter 07) -/

/-- R162, R167, R170: KCTRL.WRITE makes the entry of KSEL from KDATA in one step, READ brings it back; a lease is taken only where none is held,
renewed and released only under its holder's token, broken under any, and at its expiry tick it ends, counted, with EVENTS.LEASE_EXP; a job that runs on the internal state then leaves it zeroed; reading
WSEQ_LO captures the upper half.  The lease's end is said here with no job waiting: CONTEXT sharing, or every queue disabled. -/
def Obligations.KeyTableAndLease : Prop :=
  ∀ (s : State) (token : BitVec 16), s.dev.blockOpen 11 = true →
    let d := s.dev
    let k := d.rd CHISEL.KSEL_INDEX
    let expiry := (d.tick + max 16 (d.rd CHISEL.LEASE_TICKS)) % 2 ^ 32
    let leased (e : Dev) (l : Option (Nat × Nat)) : Prop := e = { d with chisel := { d.chisel with lease := l } }
    let lapsed : Chisel := { d.chisel with
      lease := none, inner := none, jobs := d.chisel.jobs.map fun j => { j with orphan := j.orphan || j.usesState } }
    let lapses (e : Dev) : Prop := e = { d with chisel := lapsed }
    let noneWait := d.on CHISEL.CFG_SHARING = false ∨ ∀ q, q < 4 → d.on (CHISEL.QCFG_EN q) = false
    (∀ size : BitVec 2, Gives (.keyWrite size) s fun e =>
      (Store.get KeyEntry.blank e.chisel.keys k).size = size.toNat ∧
      (Store.get KeyEntry.blank e.chisel.keys k).valid = (size.toNat != 3) ∧
      (∀ i, i < 8 → (Store.get KeyEntry.blank e.chisel.keys k).bits.extractLsb' (32 * i) 32 = d.reg (CHISEL.KDATA_at i)) ∧
      (∀ m, m ≠ k → Store.get KeyEntry.blank e.chisel.keys m = Store.get KeyEntry.blank d.chisel.keys m) ∧
      e.rd CHISEL.KCTRL_SIZE = size.toNat ∧ e.on CHISEL.KCTRL_VALID = (size.toNat != 3) ∧ regsBut d e [CHISEL.KCTRL_at] ∧
      e = { d with regs := e.regs, chisel := { d.chisel with keys := e.chisel.keys } }) ∧
    (∀ entry, Store.get KeyEntry.blank d.chisel.keys k = entry → entry.size < 4 → Gives .keyRead s fun e =>
      (∀ i, i < 8 → e.reg (CHISEL.KDATA_at i) = entry.bits.extractLsb' (32 * i) 32) ∧ e.rd CHISEL.KCTRL_SIZE = entry.size ∧
      e.on CHISEL.KCTRL_VALID = entry.valid ∧ regsBut d e (CHISEL.KCTRL_at :: (List.range 8).map CHISEL.KDATA_at) ∧ e = { d with regs := e.regs }) ∧
    (d.chisel.lease = none →
      (Gives (.acquire token) s fun e => leased e (some (token.toNat, expiry))) ∧ (Gives (.renew token) s fun e => e = d) ∧
      (Gives (.release token) s fun e => e = d) ∧ (Gives (.lockBreak token) s fun e => e = d) ∧ (Gives .leaseExpiry s fun e => e = d)) ∧
    (∀ t x, d.chisel.lease = some (t, x) →
      (Gives (.acquire token) s fun e => e = d) ∧
      (Gives (.renew token) s fun e => leased e (if t = token.toNat then some (token.toNat, expiry) else some (t, x))) ∧
      (t ≠ token.toNat → Gives (.release token) s fun e => e = d) ∧
      (noneWait → t = token.toNat → Gives (.release token) s lapses) ∧ (noneWait → Gives (.lockBreak token) s lapses) ∧
      (2 ^ 31 ≤ (d.tick32 + 2 ^ 32 - x) % 2 ^ 32 → Gives .leaseExpiry s fun e => e = d) ∧
      ((d.tick32 + 2 ^ 32 - x) % 2 ^ 32 < 2 ^ 31 → noneWait → Gives .leaseExpiry s fun e =>
        e.chisel = lapsed ∧ e.on CHISEL.EVENTS_LEASE_EXP = true ∧
        e.rd CHISEL.LOCK_EXPIRIES_COUNT = min (d.rd CHISEL.LOCK_EXPIRIES_COUNT + 1) (2 ^ CHISEL.LOCK_EXPIRIES_COUNT.width - 1) ∧
        regsBut d e [CHISEL.EVENTS_at, CHISEL.LOCK_EXPIRIES_at] ∧ e = { d with regs := e.regs, chisel := e.chisel })) ∧
    (Gives .wseqLoRead s fun e => e.readOut = ⟨Word.ofNat d.chisel.wseq, .raw⟩ ∧ e.rd CHISEL.WSEQ_HI_SEQ = d.chisel.wseq / 2 ^ 32 % 2 ^ 32 ∧
      regsBut d e [CHISEL.WSEQ_HI_at] ∧ e = { d with regs := e.regs, readOut := e.readOut })

/-- R156, R157, R158, R160, R171, R172, R173: a free serving core takes the first whole descriptor and makes the checks in their order: BADDESC,
NOKEY, BADSEC, BADLEN, NOWRAPKEY, and for link CCM ZEROCTR, STALECTR, EXHAUSTED, REPLAY and TOOOLD; the job that passes them runs with its key copied and
its counter window as R172 and R173 compute it.  Said of ECB and of CCM-LINK. -/
def Obligations.JobDispatch : Prop :=
  ∀ (s : State) (c : Fin 9) (q : Nat) (ws : List TWord) (rest : List FEntry), s.dev.dispatches c q ws rest →
    let d := s.dev
    let fl := d.rd (CHISEL.QCFG_JOB_FLUME q)
    let w (i : Nat) : Nat := (ws.getD i ⟨0#32, .raw⟩).data.toNat
    let tag (i : Nat) : Tag := (ws.getD i ⟨0#32, .raw⟩).tag
    let mode := w 0 / 2 ^ 28
    let dir := w 0 / 2 ^ 27 % 2
    let aad := w 0 % 2 ^ 11
    let len := w 4
    let src := w 2
    let dst := w 3
    let clean := w 0 / 2 ^ 20 % 16 = 0 ∧ w 0 / 2 ^ 11 % 32 = 0
    let runs (P : Job → Prop) : Prop := Gives (.jobDispatch c) s fun e =>
      ∃ j, e = { d.consumed fl 8 rest with chisel := { d.chisel with jobs := [j] } } ∧ j.core = c ∧ j.queue = q ∧ j.words = ws ∧ P j
    let ends (st : Nat) : Prop := runs fun j => j.status = some st
    let placed (out : Nat) : Prop := src % 4 = 0 ∧ dst % 4 = 0 ∧ src + (len + 3) / 4 * 4 ≤ 0x600000 ∧ dst + (out + 3) / 4 * 4 ≤ 0x600000 ∧
      (dst = src ∨ src + (len + 3) / 4 * 4 ≤ dst ∨ dst + (out + 3) / 4 * 4 ≤ src)
    let tags (one : Tag) : Prop := tag 0 = .raw ∧ tag 1 = one ∧ tag 2 = .dptr ∧ tag 3 = .dptr ∧ tag 4 = .nat ∧ tag 6 = .nat
    let noWrap : Prop := d.on CHISEL.CFG_SHARING = false ∧ w 0 / 2 ^ 24 % 2 = 1 ∧ ((∀ x ∈ d.wrapKey, x = 0) ∨ ∀ x ∈ d.wrapKey, x = 255)
    (mode = 0 →
      let key := d.keyEntry (w 1 % 1024)
      (¬ (tags .key ∧ clean ∧ placed len) → ends 7) ∧
      (tags .key → clean → placed len → key.valid = false → ends 9) ∧
      (tags .key → clean → placed len → key.valid = true → len % 16 ≠ 0 → ends 8) ∧
      (tags .key → clean → placed len → key.valid = true → len % 16 = 0 → noWrap → ends 0x10) ∧
      (tags .key → clean → placed len → key.valid = true → len % 16 = 0 → ¬ noWrap → runs fun j => j.status = none ∧ j.key = key.octets)) ∧
    (∀ (addr own : List Nat), mode = 6 → d.octetsStand (ctxAddr (w 1 % 8192) 0x04) 8 addr → d.octetsStand (ctxAddr (w 1 % 8192) 0x30) 16 own →
      let h := leWord own 4
      let b := leWord own 8
      let sec := leWord own 12 / 65536 % 256
      let key := d.keyEntry (leWord own 12 % 1024)
      let ctr := w 6
      let mic := micLen sec
      let out := if dir = 1 then len - mic else len + mic
      let nonce := addr ++ [ctr / 2 ^ 24, ctr / 2 ^ 16 % 256, ctr / 256 % 256, ctr % 256, sec]
      let good (win : Nat × Nat) : Prop := runs fun j =>
        j.status = none ∧ j.key = key.octets ∧ j.nonce = nonce ∧ j.level = sec ∧ j.win = (h, b) ∧ j.newWin = win
      tags .ctx → clean → placed out →
      (key.valid = false → ends 9) ∧
      (key.valid = true → mic = 0 → ends 0xA) ∧
      (key.valid = true → mic ≠ 0 → (2047 < len ∨ 2047 < out ∨ (if dir = 1 then len < mic + aad else len < aad)) → ends 8) ∧
      (key.valid = true → mic ≠ 0 → len ≤ 2047 → out ≤ 2047 → (if dir = 1 then mic + aad ≤ len else aad ≤ len) → noWrap → ends 0x10) ∧
      (key.valid = true → mic ≠ 0 → len ≤ 2047 → out ≤ 2047 → (if dir = 1 then mic + aad ≤ len else aad ≤ len) → ¬ noWrap →
        (ctr = 0 → ends 4) ∧
        (dir = 0 →
          (0 < ctr → ctr < leWord own 0 → ends 6) ∧
          (leWord own 0 ≤ ctr → ctr = 0xFFFFFFFF → ends 5) ∧
          (0 < ctr → leWord own 0 ≤ ctr → ctr < 0xFFFFFFFF → good (ctr + 1, 0))) ∧
        (dir = 1 → 0 < ctr →
          (h < ctr → ctr - h ≤ 32 → good (ctr, (b * 2 ^ (ctr - h) + 2 ^ (ctr - h - 1)) % 2 ^ 32)) ∧
          (h + 32 < ctr → good (ctr, 0)) ∧
          (ctr = h → ends 2) ∧
          (ctr < h → h ≤ ctr + 32 → b.testBit (h - 1 - ctr) = true → ends 2) ∧
          (ctr < h → h ≤ ctr + 32 → b.testBit (h - 1 - ctr) = false → good (h, b + 2 ^ (h - 1 - ctr))) ∧
          (ctr + 32 < h → ends 3))))

/-- R158 to R161, R169, R171: a job that failed a check ends with its status and touches nothing; an ECB, CBC, CTR, CFB or OFB job writes the
cipher's octets over its destination and keeps the chain where LOCK sharing has it; CBC-MAC writes its MAC at LAST; link CCM writes header,
text and MIC, and a MIC that does not match leaves zeros and MICFAIL, with OUT_LEN the output's length; EXH marks the counter 0xFFFFFFFF.
A job of core `c`, whatever it is, ends; a core with no job completes nothing. -/
def Obligations.JobCompletion : Prop :=
  ∀ (s : State) (c : Fin 9) (j : Job),
    let d := s.dev
    let done (e : Dev) : Prop := e = { d with regs := e.regs, sram := e.sram, flumes := e.flumes, chisel := { d.chisel with jobs := [], inner := e.chisel.inner } }
    let exh (n : Nat) : Bool := decide (j.mode = 6) && (n == 0xFFFFFFFF || (j.dir && j.aux == 0xFFFFFFFF))
    (∀ r, d.chisel.jobs.find? (fun x => x.core == c.val) = some r → exec (.jobComplete c) s = .next { s with dev := d.finishJob r }) ∧
    (d.chisel.jobs = [] → Gives (.jobComplete c) s fun e => e = d) ∧
    (d.chisel.jobs = [j] → j.core = c → d.takesGroup (d.rd (CHISEL.QCFG_RES_FLUME j.queue)) 5 →
      (∀ st, j.status = some st → Gives (.jobComplete c) s fun e =>
        d.jobEnds e j (st == 0) (resultWords j st 0 j.window.1 j.window.2 (exh j.window.1)) ∧ e.sram = d.sram ∧ e.chisel.inner = d.chisel.inner ∧ done e) ∧
      (∀ o : List Nat, j.status = none → j.badAt = none → d.octetsStand j.src j.len o →
        let blocks := blocksOf (o.length / 16 + 1) o
        let stands (e : Dev) (out : List Nat) : Prop := d.wrote e j.dst (bytesWords (out.map fun x => BitVec.ofNat 8 x))
        let keeps (e : Dev) (v : ChainState) : Prop := e.chisel.inner = if j.usesState = true ∧ j.orphan = false then (if j.last = true then none else some v) else d.chisel.inner
        (j.mode ≤ 4 → d.on CHISEL.CFG_SHARING = true ∨ j.usesState = false → j.len % 16 = 0 ∨ 2 ≤ j.mode → d.writable j.dst j.len →
          Gives (.jobComplete c) s fun e =>
            let r := aesRun j.mode j.dir j.key blocks j.chain.chain
            stands e r.1 ∧ keeps e { j.chain with count := (j.chain.count + j.len) % 2 ^ 32, chain := r.2 } ∧
            d.jobEnds e j true (resultWords j 0 j.len 0 0 false) ∧ done e) ∧
        (j.mode = 5 → d.on CHISEL.CFG_SHARING = true ∨ j.usesState = false → d.writable j.dst 16 → Gives (.jobComplete c) s fun e =>
          let m := cbcMac j.key blocks j.chain.mac
          (j.last = true → stands e (m.take j.macLen)) ∧ (j.last = false → e.sram = d.sram) ∧
          keeps e { j.chain with count := (j.chain.count + j.len) % 2 ^ 32, mac := m } ∧
          d.jobEnds e j true (resultWords j 0 (if j.last then j.macLen else 0) 0 0 false) ∧ done e) ∧
        (j.mode = 6 → d.writable j.dst (j.len + 16) → micLen j.level ≠ 0 →
          let seals := decide (5 ≤ j.level)
          (j.dir = false → Gives (.jobComplete c) s fun e =>
            let r := ccmSeal j.key j.nonce (if seals then o.take j.aadLen else o) (if seals then o.drop j.aadLen else []) (micLen j.level)
            stands e ((if seals then o.take j.aadLen ++ r.1 else o) ++ r.2) ∧
            d.jobEnds e j true (resultWords j 0 (j.len + micLen j.level) j.newWin.1 0 (exh j.newWin.1)) ∧
            e.chisel.inner = d.chisel.inner ∧ done e) ∧
          (j.dir = true → micLen j.level ≤ j.len →
            let text := o.take (j.len - micLen j.level)
            let r := ccmOpen j.key j.nonce (if seals then text.take j.aadLen else text) (if seals then text.drop j.aadLen else [])
              (o.drop (j.len - micLen j.level))
            let body := if seals then r.1 else text.drop j.aadLen
            (r.2 = true → Gives (.jobComplete c) s fun e =>
              stands e (text.take j.aadLen ++ body) ∧
              d.jobEnds e j true (resultWords j 0 (j.len - micLen j.level) j.newWin.1 j.newWin.2 (exh j.newWin.1)) ∧ done e) ∧
            (r.2 = false → Gives (.jobComplete c) s fun e =>
              stands e (text.take j.aadLen ++ body.map fun _ => 0) ∧ e.on CHISEL.EVENTS_MICFAIL = true ∧
              d.jobEnds e j false (resultWords j 1 (j.len - micLen j.level) j.win.1 j.win.2 (exh j.win.1)) ∧ done e)))))

/-! ### Aqueduct (chapter 09) -/

/-- R199 to R202, R216, R218, R220, R221: training goes from the wake tone or line activity over the reply and the EXCHANGE word to UP at the rate
that passes, a rate lower at each failure; no reply, a lost signal, a failed training and firmware take the port to QUIET or OFF with their
reason; a fault fences it; line activity fires the port's wake source where WAKE.EN is 1.  Tones, EXCHANGE words and flags are driven as R200 and
R201 give them, and LQ shows the quality of each span.  Said of ports with no frame in progress. -/
def Obligations.CableLinks : Prop :=
  ∀ (s : State) (p : Fin 2), s.dev.aqStill p →
    let d := s.dev
    let a := d.aq p
    let st := d.rd (AQUA.LINK_STATE p)
    let t0 := d.tick * 1024
    let retry := d.on (AQUA.PCFG_AUTO_RETRAIN p)
    let trains (ev : TrainEvent) (P : Dev → Prop) : Prop := Gives (.linkTraining p ev) s P
    let up (e : Dev) (a : AqPort) : Prop := d.aqBecomes e p a [AQUA.LINK_at p]
    (d.on (AQUA.PCTRL_EN p) = true → d.on WEIR.STATUS_SILENT = false → d.power = 0 →
      (st = 1 → a.want = true → d.on (AQUA.PCTRL_ROLE p) = true →
        let woken (e : Dev) : Prop := e.rd (AQUA.LINK_STATE p) = 2 ∧ e.on (AQUA.LINK_INIT p) = true ∧
          up e { a with phase := 1, since := t0, want := false, backoff := none, line := tone }
        (a.backoff = none → trains .wakeTone woken) ∧
        (∀ b, a.backoff = some b → b ≤ t0 + 1023 → Gives (.backoffEnd p) s woken) ∧
        (∀ b, a.backoff = some b → t0 + 1023 < b → Gives (.backoffEnd p) s fun e => e = d)) ∧
      (st = 1 → trains .activity fun e => e.rd (AQUA.LINK_STATE p) = 3 ∧ e.on (AQUA.LINK_INIT p) = false ∧
        up e { a with phase := 2, since := t0, want := false, backoff := none, line := tone }) ∧
      (st = 2 → trains .reply fun e => e.rd (AQUA.LINK_STATE p) = 3 ∧ up e { a with phase := 2 }) ∧
      (st = 3 → a.phase = 2 →
        (∀ w1 w2 rate addr, readExchange w1 = some (rate, addr) → trains (.exchange w1 w2) fun e =>
          e.rd (AQUA.LINK_RATE p) = min (min 9 (d.rd (AQUA.PCFG_RATE_MAX p))) rate % 16 ∧ e.rd (AQUA.LINK_PEER p) = addr % 65536 ∧
          up e { a with phase := 3, line := exchangeSymbols (exchangeWord (d.rd (AQUA.PCFG_RATE_MAX p)) (d.rd AQUA.ADDR_ADDR)) }) ∧
        (∀ w1 w2, readExchange w1 = none → readExchange w2 = none → trains (.exchange w1 w2) fun e => d.aqDowns e p 1 2 retry none)) ∧
      (∀ y flag, st = 3 → a.phase = 3 →
        let rate := d.rd (AQUA.LINK_RATE p)
        let own := decide (passSnr rate + 4 * d.rd (AQUA.PCFG_MARGIN_DB p) ≤ (lineQuality (rateBits rate) y).1)
        let passes := own = true ∧ flagPass flag = true
        let live (e : Dev) : Prop := e.showsQuality p rate y
        (passes → trains (.full y flag) fun e => e.rd (AQUA.LINK_STATE p) = 4 ∧ e.on (linkUpFld p) = true ∧ live e ∧
          e.rd (AQUA.TRAIN_MS_MS p) = min ((t0 - a.since) * 1000 / 2 ^ 25) 65535 ∧
          d.aqBecomes e p { a with phase := 0, line := flagSymbols rate own } [AQUA.LINK_at p, AQUA.LQ_at p, AQUA.TRAIN_MS_at p, AQUA.EVENTS_at]) ∧
        (¬ passes → 0 < rate → trains (.full y flag) fun e => e.rd (AQUA.LINK_RATE p) = rate - 1 ∧ live e ∧
          d.aqBecomes e p { a with line := flagSymbols rate own } [AQUA.LINK_at p, AQUA.LQ_at p]) ∧
        (¬ passes → rate = 0 → trains (.full y flag) fun e => e.rd (AQUA.LINK_STATE p) = 1 ∧ e.rd (AQUA.LINK_REASON p) = 2 ∧ live e)) ∧
      (∀ y, st = 4 → trains (.span y) fun e => e.showsQuality p (d.rd (AQUA.LINK_RATE p)) y ∧ d.aqBecomes e p a [AQUA.LQ_at p]) ∧
      (st = 3 → trains .peerGone fun e => d.aqDowns e p 1 2 retry none)) ∧
    (st = 4 → Gives (.lossOfSignal p) s fun e => d.aqDowns e p 1 1 retry none) ∧
    (st ≠ 4 → Gives (.lossOfSignal p) s fun e => e = d) ∧
    (let ms := max 1 (d.rd (AQUA.PCFG_WAKE_MS p))
     let back := t0 + usCeil (((d.tick % 16) ^^^ (d.rd AQUA.ADDR_ADDR % 16)) * ms * 1000 / 16 + ms * 1000)
     (st = 2 → a.since + usFloor (ms * 1000) ≤ t0 + 1023 → Gives (.noreply p) s fun e =>
       if retry = true then d.aqDowns e p 1 3 true (some back) else d.aqDowns e p 1 3 false none) ∧
     (t0 + 1023 < a.since + usFloor (ms * 1000) → Gives (.noreply p) s fun e => e = d)) ∧
    (d.blockOpen 13 = true → st ≠ 5 →
      (∀ role : Bool,
        (d.on (AQUA.PCTRL_EN p) = false → Gives (.aqPortEn p true role) s fun e => e.rd (AQUA.LINK_STATE p) = 1 ∧ e.rd (AQUA.LINK_REASON p) = 0 ∧
          e.on (AQUA.PCTRL_EN p) = true ∧ e.on (AQUA.PCTRL_ROLE p) = role ∧
          d.aqBecomes e p { a with want := true } [AQUA.LINK_at p, AQUA.PCTRL_at p]) ∧
        (d.on (AQUA.PCTRL_EN p) = true → Gives (.aqPortEn p false role) s fun e =>
          e.on (AQUA.PCTRL_EN p) = false ∧ e.on (AQUA.PCTRL_ROLE p) = role ∧ d.aqDowns e p 0 4 false none)) ∧
      (d.on (AQUA.PCTRL_EN p) = true →
        (Gives (.retrain p) s fun e => d.aqDowns e p 1 4 true none) ∧ (Gives (.drop p) s fun e => d.aqDowns e p 1 4 false none))) ∧
    (d.canLog → d.fencedAqRip 10 p = false → Gives (.aqPortFault p) s fun e =>
      e.fencedAqRip 10 p = true ∧ e.rd (AQUA.LINK_STATE p) = 5 ∧ (2 ≤ st → st ≤ 4 → e.rd (AQUA.LINK_REASON p) = 7) ∧
      e.on REPAIR.EVENTS_FENCED = true ∧ e.on REPAIR.EVENTS_DIRTY = true ∧
      e.aq p = { a with phase := 0, backoff := none, burst := 0, want := false, line := [], nextSync := 0 } ∧
      e.newest.map (fun r => [r.cls, r.code, r.kind, r.inst, r.d0, r.reaction]) = some [2, 0x12, 10, p.val, 0xFF, 5]) ∧
    (d.fencedAqRip 10 p = true → Gives (.aqPortFault p) s fun e => e = d) ∧
    (d.on (AQUA.WAKE_EN p) = false ∨ d.fencedAqRip 10 p = true → Gives (.aqLineActivity p) s fun e => e = d) ∧
    (d.on (AQUA.WAKE_EN p) = true → d.fencedAqRip 10 p = false →
      (d.power = 0 → Gives (.aqLineActivity p) s fun e =>
        e = d.wr WELL.PEND_SOURCES (d.rd WELL.PEND_SOURCES ||| 2 ^ (6 + p.val))) ∧
      (d.power = 2 → (d.rd WELL.WAKE_EN_SOURCES).testBit (6 + p) = true → Gives (.aqLineActivity p) s fun e =>
        e.power = 6 ∧ (e.rd WELL.WAKE_CAUSE_SOURCES).testBit (6 + p) = true))

/-- R203, R204, R206 to R208, R211 to R216: a bad header is counted and dropped; a good one for this node takes a buffer, or ends TOOLONG or NOBUF; one
for others starts a cut-through repeat, fills the repeat buffer or is dropped from the repeat path; at its end a delivered frame stands in
its buffer with its record; a descriptor is refused or starts its frame; a frame boundary takes the repeat buffer; a frame that has left the
pins is reported or counted, and at least 8 idle symbols follow it. -/
def Obligations.CableFrames : Prop :=
  ∀ (s : State) (p : Fin 2) (hdr : BitVec 48) (stamp : Stamp),
    let d := s.dev
    let o := 1 - p.val
    let a := d.aq p
    let dest := hdr.toNat % 65536
    let len := hdr.toNat / 65536 % 4096
    let typ := hdr.toNat / 2 ^ 28 % 4
    let hops := hdr.toNat / 2 ^ 32 % 16
    let upLink := d.rd (AQUA.LINK_STATE p) = 4
    let amp := if d.on WEIR.STATUS_SILENT then 0 else min (min 200 (d.rd (AQUA.AMP_AMP p))) (d.rd WEIR.CABLE_CABLE_MAX)
    let clamped := decide (d.rd WEIR.CABLE_CABLE_MAX < min 200 (d.rd (AQUA.AMP_AMP p)))
    let units := d.rd (AQUA.BUFCFG_BUF_SIZE p)
    let bytes := (if units = 0 ∨ 64 < units then 64 else units) * 32
    let rate := d.rd (AQUA.LINK_RATE p)
    let buf := d.rd (AQUA.FLUMES_BUF_FLUME p)
    let x (deliver : Nat) (b : Option Word) (early : Option Nat) (repeated cut : Bool) : AqRx := ⟨hdr, stamp.inst, deliver, b, early, repeated, cut, rate⟩
    let holds (d e : Dev) (r : AqRx) (l : List Nat) : Prop := d.aqBecomes e p { a with rx := some r } l
    (upLink → a.rx = none → hdrGood hdr = false → Gives (.aqRxHeader p hdr stamp) s fun e =>
      e = (d.inc (AQUA.RXERR_COUNT p)).setF AQUA.EVENTS_BADHDR) ∧
    (upLink → a.rx = none → hdrGood hdr = true → dest = d.rd AQUA.ADDR_ADDR →
      (typ = 1 → d.on AQUA.CFG_MGMT_EN = true → Gives (.aqRxHeader p hdr stamp) s fun e => holds d e (x 2 none none false false) []) ∧
      (typ ≠ 1 ∨ d.on AQUA.CFG_MGMT_EN = false →
        (bytes < len → Gives (.aqRxHeader p hdr stamp) s fun e => holds d e (x 1 none (some 2) false false) []) ∧
        (len ≤ bytes → d.quietFlume buf → (d.flume buf).entries = [] → Gives (.aqRxHeader p hdr stamp) s fun e =>
          holds d e (x 1 none (some 3) false false) []) ∧
        (∀ h rest, len ≤ bytes → d.quietFlume buf → (d.flume buf).entries = h :: rest → h.bad = false → h.tag = .dptr → h.data.toNat % 32 = 0 →
          0x500000 ≤ h.data.toNat → h.data.toNat + bytes ≤ 0x600000 → Gives (.aqRxHeader p hdr stamp) s fun e =>
            holds (d.setFlume buf ((d.flume buf).afterRead h rest)) e (x 1 (some h.data) none false false) []))) ∧
    (upLink → a.rx = none → hdrGood hdr = true → dest ≠ d.rd AQUA.ADDR_ADDR → dest ≠ 0xFFFF → d.on AQUA.CFG_PROMISC = false →
      (d.on AQUA.CFG_REPEAT_EN = false ∨ hops = 0 → Gives (.aqRxHeader p hdr stamp) s fun e => holds d e (x 0 none none false false) []) ∧
      (d.on AQUA.CFG_REPEAT_EN = true → 0 < hops →
        let out := withHcs (hdr - BitVec.ofNat 48 (2 ^ 32))
        let b := d.aq o
        let ampO := if d.on WEIR.STATUS_SILENT then 0 else min (min 200 (d.rd (AQUA.AMP_AMP o))) (d.rd WEIR.CABLE_CABLE_MAX)
        let clampO := decide (d.rd WEIR.CABLE_CABLE_MAX < min 200 (d.rd (AQUA.AMP_AMP o)))
        let both (e : Dev) (r : AqRx) (b' : AqPort) : Prop := e.aq p = { a with rx := some r } ∧ e.aq o = b' ∧ e = { d with aqua := e.aqua }
        let drops := Gives (.aqRxHeader p hdr stamp) s fun e =>
          holds ((d.inc (AQUA.RPTDROP_COUNT p)).setF AQUA.EVENTS_RPTDROP) e (x 0 none none false false) []
        (d.rd (AQUA.LINK_STATE o) ≠ 4 → drops) ∧
        (d.rd (AQUA.LINK_STATE o) = 4 → d.rd (AQUA.LINK_RATE o) = rate → b.tx = none → b.rpt = none → d.localTurn o = false →
          Gives (.aqRxHeader p hdr stamp) s fun e => both e (x 0 none none true true)
            { b with tx := some ⟨2, 0#32, out, [], 0#32, false, ampO, clampO, stamp.inst + symbolsTime rate (48 / rateBits rate + 24)⟩,
                     burst := b.burst + 1 }) ∧
        (d.rd (AQUA.LINK_STATE o) = 4 → (d.rd (AQUA.LINK_RATE o) ≠ rate ∨ b.tx ≠ none ∨ d.localTurn o = true) → b.rpt = none → Gives (.aqRxHeader p hdr stamp) s fun e =>
          both e (x 0 none none true false) { b with rpt := some ⟨out, none⟩ }) ∧
        (d.rd (AQUA.LINK_STATE o) = 4 → b.rpt ≠ none → drops))) ∧
    (∀ (r : AqRx) (octets : List Byte) (crc : BitVec 32) (y : List Int) (clkoff : Int) (f : BitVec 10), a.rx = some r → octets.length = hdrLen r.hdr →
      let d := s.dev.atFrac f
      let right := decide (crc.toNat = crc32 octets)
      let ends (P : Dev → Prop) : Prop := Gives (.aqRxFrameEnd p octets crc y clkoff f) s P
      let q := lineQuality (rateBits r.rate) y
      let rec_ := d.rd (AQUA.FLUMES_REC_FLUME p)
      (∀ w, r.deliver = 1 → r.early = none → r.buf = some w → r.repeated = false → r.cut = false → d.writable w.toNat octets.length →
        d.takesGroup rec_ 6 → ends fun e =>
          let c := if right then AQUA.RXOK_COUNT p else AQUA.RXERR_COUNT p
          d.wrote e w.toNat (bytesWords octets) ∧
          e.flume rec_ = (d.flume rec_).withGroup (r.record p (if right then 0 else 1) octets.length q.1 q.2 clkoff) ∧
          (∀ m, m ≠ rec_ → e.flume m = d.flume m) ∧ e.rd c = min (d.rd c + 1) (2 ^ c.width - 1) ∧ e.aq p = { a with rx := none } ∧
          (∀ q, q ≠ p.val → e.aq q = d.aq q) ∧ regsBut d e [c.addr] ∧
          e = { d with regs := e.regs, sram := e.sram, flumes := e.flumes, aqua := e.aqua }) ∧
      (r.deliver = 2 → r.repeated = false → r.cut = false → right = true → d.heldCmd (2 + p) = none → ends fun e =>
        e.aq p = { a with rx := none } ∧ (∀ q, q ≠ p.val → e.aq q = d.aq q) ∧
        e.spout = { d.spout with held := d.spout.held ++
          [⟨2 + p, octets.drop 2, 0, [], Word.ofNat ((octets.getD 0 0#8).toNat + (octets.getD 1 0#8).toNat * 256), 0, false⟩] } ∧
        e = { d with aqua := e.aqua, spout := e.spout }) ∧
      (∀ t, r.deliver = 0 → r.repeated = true → r.cut = true → (d.aq o).tx = some t → t.kind = 2 → t.ready = false → ends fun e =>
        let t' : AqTx := { t with octets := octets, crc := if right then crc else ~~~crc, ready := true }
        e.aq p = { a with rx := none } ∧ e.aq o = { d.aq o with tx := some t', line := t'.symbols (d.rd (AQUA.LINK_RATE o)) } ∧ e = { d with aqua := e.aqua }) ∧
      (∀ b, r.deliver = 0 → r.repeated = true → r.cut = false → (d.aq o).rpt = some b → ends fun e =>
        e.aq p = { a with rx := none } ∧ e.aq o = { d.aq o with rpt := some { b with body := some (octets, crc) } } ∧ e = { d with aqua := e.aqua })) ∧
    (∀ (id w2 w3 bufw : Word) (t3 : Tag) (rest : List FEntry) (oct : List Byte),
      let fl := d.rd (AQUA.FLUMES_TX_FLUME p)
      let res := d.rd (AQUA.FLUMES_RES_FLUME p)
      let n := bitsOf w2 4 12
      let words : List TWord := [⟨id, .nat⟩, ⟨bufw, .dptr⟩, ⟨w2, .raw⟩, ⟨w3, t3⟩]
      let reports (outcome : Nat) : Prop := Gives (.aqTxDescriptor p stamp) s fun e =>
        e.flume res = (d.flume res).withGroup (cableReport p id outcome clamped amp 0) ∧ e.flume fl = (d.flume fl).afterPacket 4 rest ∧
        (∀ m, m ≠ res → m ≠ fl → e.flume m = d.flume m) ∧
        e.aq p = { a with burst := 0 } ∧ (∀ q, q ≠ p.val → e.aq q = d.aq q) ∧ e = { d with flumes := e.flumes, aqua := e.aqua }
      d.on (AQUA.PCTRL_EN p) = true → a.tx = none → a.rpt = none → d.heldCmd (2 + p) = none →
      (upLink → stamp.inst < a.nextSync → Gives (.aqTxDescriptor p stamp) s fun e => e = d) ∧ ((upLink → a.nextSync ≤ stamp.inst) →
      ((d.flume fl).pkts = 0 → (d.flume fl).stalled = [] → Gives (.aqTxDescriptor p stamp) s fun e => e = d) ∧
      (d.waits fl words rest → res ≠ fl → d.takesGroup res 3 →
        (d.on WEIR.STATUS_SILENT = true → reports 5) ∧
        (d.on WEIR.STATUS_SILENT = false → ¬ upLink → reports 3) ∧
        (d.on WEIR.STATUS_SILENT = false → upLink → (t3 ≠ .raw ∨ w3.toNat / 16 ≠ 0 ∨ w2.toNat % 4 ≠ 0 ∨ n < 16 ∨ 2048 < n) → reports 1)) ∧
      (d.waits fl words rest → d.on WEIR.STATUS_SILENT = false → upLink → t3 = .raw → w3.toNat / 16 = 0 → w2.toNat % 4 = 0 → 16 ≤ n → n ≤ 2048 →
        bufw.toNat % 4 = 0 → (0x500000 ≤ bufw.toNat ∧ bufw.toNat + 4 * ((n + 3) / 4) ≤ 0x600000) ∨ bufw.toNat + 4 * ((n + 3) / 4) ≤ 0x400000 →
        d.holdsFrame bufw.toNat n oct → Gives (.aqTxDescriptor p stamp) s fun e =>
          e.flume fl = (d.flume fl).afterPacket 4 rest ∧ (∀ m, m ≠ fl → e.flume m = d.flume m) ∧
          let t : AqTx := ⟨0, id, withHcs (BitVec.ofNat 48 (bitsOf w2 16 16 + n * 2 ^ 16 + bitsOf w2 2 2 * 2 ^ 28 + bitsOf w3 0 4 * 2 ^ 32)), oct,
            BitVec.ofNat 32 (crc32 oct), true, amp, clamped, stamp.inst⟩
          e.aq p = { a with tx := some t, burst := 0, line := t.symbols rate } ∧ (∀ q, q ≠ p.val → e.aq q = d.aq q) ∧ (e.on AQUA.EVENTS_CLAMP = true ↔ d.on AQUA.EVENTS_CLAMP = true ∨ clamped = true) ∧
          regsBut d e [AQUA.EVENTS_at] ∧ e = { d with regs := e.regs, flumes := e.flumes, aqua := e.aqua }))) ∧
    (∀ out octets crc, upLink → a.tx = none → a.rpt = some ⟨out, some (octets, crc)⟩ → d.localTurn p = false → a.nextSync ≤ stamp.inst →
      Gives (.aqFrameBoundary p stamp) s fun e =>
        let t : AqTx := ⟨1, 0#32, out, octets, crc, true, amp, clamped, stamp.inst⟩
        d.aqBecomes e p { a with tx := some t, rpt := none, burst := a.burst + 1, line := t.symbols rate } []) ∧
    (stamp.inst < a.nextSync ∨ d.localTurn p = true → Gives (.aqFrameBoundary p stamp) s fun e => e = d) ∧
    (∀ t, a.tx = some t → t.ready = true →
      let gone (e : Dev) : Prop := ∃ st, e.aq p = { a with tx := none, line := idleSymbols rate (st % 2 ^ 15) 8, nextSync := t.nextSync rate }
      (t.kind ≠ 0 → Gives (.aqTxDone p) s fun e =>
        e.rd (AQUA.RPT_COUNT o) = min (d.rd (AQUA.RPT_COUNT o) + 1) (2 ^ (AQUA.RPT_COUNT o).width - 1) ∧ gone e ∧
        (∀ q, q ≠ p.val → e.aq q = d.aq q) ∧ regsBut d e [AQUA.RPT_at o] ∧ e = { d with regs := e.regs, aqua := e.aqua, freeCount := d.freeCount + 1 }) ∧
      (t.kind = 0 → d.takesGroup (d.rd (AQUA.FLUMES_RES_FLUME p)) 3 → Gives (.aqTxDone p) s fun e =>
        let res := d.rd (AQUA.FLUMES_RES_FLUME p)
        e.flume res = (d.flume res).withGroup (cableReport p t.id 0 t.clamped t.amp t.stamp) ∧ (∀ m, m ≠ res → e.flume m = d.flume m) ∧
        e.rd (AQUA.TXOK_COUNT p) = min (d.rd (AQUA.TXOK_COUNT p) + 1) (2 ^ (AQUA.TXOK_COUNT p).width - 1) ∧ gone e ∧
        (∀ q, q ≠ p.val → e.aq q = d.aq q) ∧ regsBut d e [AQUA.TXOK_at p] ∧
        e = { d with regs := e.regs, flumes := e.flumes, aqua := e.aqua, freeCount := d.freeCount + 1 })) ∧
    (∀ t, a.tx = some t → t.ready = false → Gives (.aqTxDone p) s fun e => e = d)

/-! ### Cistern and option area (chapter 12) -/

/-- R281 to R284, R286, R287, R289, R292, R293: the stores of a whole sequence are accepted and the operation begins, or it is refused, the causes
in order BUSY, SUPPLY and those of its kind; SUSPEND is held against a running erase, RESUME runs a suspended one on, CANCEL discards the
sequence, and a step more than 32 ticks late ends it with SEQ.  A fenced Cistern discards every store (R28).  The order of the refusals is the
model's choice (log entry 10), and when an erase's run begins after its START entry is free within R282's limit (log entry 110). -/
def Obligations.CisternCommands : Prop :=
  ∀ s : State, s.dev.blockOpen 14 = true →
    let d := s.dev
    let i := d.seqIdle
    let refused (c : Instr) (code op : Nat) : Prop := Gives c s fun e => e = i.withErr code op
    let op := d.cist.op
    let susp := d.cist.susp
    let auto := d.on CIST.STATUS_AUTO
    let begins (e : Dev) (o : CistOp) : Prop := e.cist.op = some o ∧ e.rd CIST.OPADDR_ADDR = o.addr
    let free := op = none ∧ auto = false
    let stores (c : Instr) : Prop := c ∈ [.optWrite, .lock, .suspend, .resume, .cancel] ∨ (∃ n line, c = .program n line) ∨ ∃ b, c = .erase b
    ((14, 0) ∈ d.repair.fencedOther → ∀ c, stores c → Gives c s fun e => e = d) ∧
    ((14, 0) ∉ d.repair.fencedOther → d.cist.seq = .idle →
      (∀ (n : BitVec 20) (line : BitVec 256), (n.toNat = 722 → line.extractLsb' 224 32 ∉ [0xB0#32, 0xD0#32, 0xF0#32]) →
        let a := 0x08000000 + 32 * n.toNat
        let blk := n.toNat / 2048
        let other := ∀ o, susp = some o → cistBlock o.addr ≠ blk
        let c : Instr := .program n line
        (op ≠ none → refused c 2 1) ∧
        (op = none → auto = true → refused c 6 1) ∧
        (free → n.toNat = 722 ∨ n.toNat = 1325 → refused c 10 1) ∧
        (free → n.toNat ≠ 722 → n.toNat ≠ 1325 →
          (¬ other → refused c 4 1) ∧
          (other → blk ∈ d.cist.incomplete → refused c 5 1) ∧
          (other → blk ∉ d.cist.incomplete → Store.get (shippedLine n.toNat) d.cist.lines n.toNat ≠ none → refused c 3 1) ∧
          (other → blk ∉ d.cist.incomplete → Store.get (shippedLine n.toNat) d.cist.lines n.toNat = none → Gives c s fun e =>
            begins e ⟨1, a, line, 0#12, [], 0, d.now, 0⟩ ∧
            e.cist = { i.cist with op := e.cist.op, buffers := d.cist.buffers.filter fun m => m / 2048 != blk } ∧
            regsBut d e [CIST.OPADDR_at] ∧ e = { d with regs := e.regs, cist := e.cist }))) ∧
      (∀ b : Fin 512, let c : Instr := .erase b
        (op ≠ none ∨ susp ≠ none → refused c 2 2) ∧
        (op = none → susp = none → auto = true → refused c 6 2) ∧
        (free → susp = none → d.cist.sector = 0 → d.cist.journal0.length < 512 → Gives c s fun e =>
          (∃ since, d.now ≤ since ∧ since ≤ d.now + usFloor 12 ∧ begins e ⟨2, 0x08000000 + 0x10000 * b, 0#256, 0#12, [], 0, since, 0⟩) ∧
          e.rd CIST.ERASE_RUN_US = 0 ∧
          e.cist = { i.cist with
            op := e.cist.op, buffers := d.cist.buffers.filter fun m => m / 2048 != b.val,
            journal0 := d.cist.journal0 ++ [⟨d.cist.entrySeq + 1, 1, b, d.tick32⟩], entrySeq := d.cist.entrySeq + 1 } ∧
          regsBut d e [CIST.OPADDR_at, CIST.ERASE_RUN_at] ∧ e = { d with regs := e.regs, cist := e.cist, freeCount := d.freeCount + 1 })) ∧
      (op ≠ none ∨ susp ≠ none → refused .optWrite 2 3 ∧ refused .lock 2 4) ∧
      (op = none → susp = none → auto = true → refused .optWrite 6 3 ∧ refused .lock 6 4) ∧
      (free → susp = none →
        let src := d.rd CIST.OPT_SRC_ADDR
        let placed := src % 64 = 0 ∧ src + 0x8000 ≤ 0x600000 ∧ (src < 0x400000 → src + 0x8000 ≤ 0x400000) ∧ (src < 0x500000 → src + 0x8000 ≤ 0x500000)
        (¬ placed → refused .optWrite 8 3) ∧
        (placed → (∀ k, k < 8192 → d.cleanWord (src + 4 * k) ∧ (d.word (src + 4 * k)).tag.bad = false) →
          (s.cells.lockWord = 0#11 → s.cells.testClosed = false → Gives .optWrite s fun e => ∃ o, begins e o ∧ o.op = 3 ∧
            (∀ k, k < 8192 → k ≠ 2 → k ≠ 3 → k ≠ 0x6A → Store.get (shippedOpt (4 * k)) o.image k = (d.word (src + 4 * k)).data) ∧
            (d.on CIST.STATUS_OPT_COPY = false → e.cist =
              { i.cist with op := some o, optB := { d.cist.optB with valid := false }, optFlips := d.cist.optFlips.filter (fun x => x.1 < 1024 || 2048 ≤ x.1) }) ∧
            (d.on CIST.STATUS_OPT_COPY = true → e.cist =
              { i.cist with op := some o, optA := { d.cist.optA with valid := false }, optFlips := d.cist.optFlips.filter (fun x => 1024 ≤ x.1) }) ∧
            regsBut d e [CIST.OPADDR_at] ∧ e = { d with regs := e.regs, cist := e.cist }) ∧
          (s.cells.locked 9 = true → (d.word (src + 0x1A4)).data &&& 0xFF#32 ≠ d.optWord s.cells 0x1A4 &&& 0xFF#32 → refused .optWrite 7 3)) ∧
        (∀ mask : BitVec 12, (∀ b, b < 11 → mask.getLsbD b = ((d.reg CIST.LOCK_MASK_at).getLsbD b && !s.cells.lockWord.getLsbD b)) →
          mask.getLsbD 11 = ((d.reg CIST.LOCK_MASK_at).getLsbD 31 && !s.cells.testClosed) →
          (mask ≠ 0#12 → Gives .lock s fun e => begins e ⟨4, 0x0A000000, 0#256, mask, [], 0, d.now, 0⟩ ∧
            e.cist = { i.cist with op := e.cist.op } ∧ regsBut d e [CIST.OPADDR_at] ∧ e = { d with regs := e.regs, cist := e.cist }) ∧
          (mask = 0#12 → d.canReport → Gives .lock s fun e => d.opEnds e 4 0 0 ∧ e.cist = i.cist)))) ∧
    (d.cist.seqTick + 32 < d.tick → d.cist.seq ≠ .idle → Gives .sequenceTimeout s fun e =>
      e = { d.withErr 1 d.cist.seq.op with cist := { d.cist with seq := .idle } }) ∧
    (d.tick ≤ d.cist.seqTick + 32 →
      (Gives .sequenceTimeout s fun e => e = d) ∧
      ((14, 0) ∉ d.repair.fencedOther →
      (Gives .cancel s fun e => e = { d with cist := { d.cist with seq := .idle } }) ∧
      (op = none → susp = none → (Gives .suspend s fun e => e = d) ∧ (Gives .resume s fun e => e = d)) ∧
      (∀ o, op = some o →
        (o.op ≤ 2 → Gives .suspend s fun e => e = d.wr CIST.STATUS_SUSP_PEND 1) ∧ (2 < o.op → Gives .suspend s fun e => e = d) ∧
        (susp ≠ none → Gives .resume s fun e => e = d.withErr 2 2)) ∧
      (∀ o, op = none → susp = some o →
        (auto = false → Gives .suspend s fun e => e = d) ∧
        (auto = false → Gives .resume s fun e =>
          e = { d with cist := { d.cist with op := some { o with since := d.now }, susp := none, fwSusp := false } }) ∧
        (auto = true → Gives .suspend s fun e => e = { d with cist := { d.cist with fwSusp := true } }) ∧
        (auto = true → Gives .resume s fun e => e = { d with cist := { d.cist with fwSusp := false } }))))

/-- R282, R283, R285 to R288, R292, R293, R125, R127: a program that passes its verify leaves its line PROGRAMMED, one that fails TORN with VERIFY; an
erase leaves every line ERASED and writes its DONE entry, or fails VERIFY; an option write makes the other copy active; a completed lock cell
reads as set and the Weir reloads; a held SUSPEND stops an erase that has run 500 µs; the end of a supply hold lets an erase run on.  What a
failed erase leaves in the lines it names is free (log entry 3). -/
def Obligations.CisternCompletions : Prop :=
  ∀ s : State,
    let d := s.dev
    let line (e : Dev) (n : Nat) : Option CistLine := Store.get (shippedLine n) e.cist.lines n
    (d.cist.op = none ∨ d.on CIST.STATUS_AUTO = true →
      (∀ pass, Gives (.programDone pass) s fun e => e = d) ∧ (∀ left, Gives (.eraseDone left) s fun e => e = d) ∧
      (Gives .suspendTakesEffect s fun e => e = d) ∧ (Gives .optWriteDone s fun e => e = d) ∧ (∀ b, Gives (.lockCellDone b) s fun e => e = d)) ∧
    (∀ o, d.cist.op = some o → d.on CIST.STATUS_AUTO = false →
      let n := cistLineNo o.addr
      let b := cistBlock o.addr
      (o.op = 1 → d.canReport →
        (Gives (.programDone true) s fun e => line e n = some ⟨o.line, 0#256, false⟩ ∧ (∀ m, m ≠ n → line e m = line d m) ∧ d.opEnds e 1 0 b ∧
          e.cist = { d.cist with op := none, lines := e.cist.lines } ∧ regsBut d e [CIST.EVENTS_at, CIST.STATUS_at] ∧
          e = { d with regs := e.regs, flumes := e.flumes, cist := e.cist }) ∧
        (d.canLog → Gives (.programDone false) s fun e => line e n = some ⟨o.line, 0#256, true⟩ ∧ (∀ m, m ≠ n → line e m = line d m) ∧
          d.opEnds e 1 9 b ∧ d.tells e (mkUnitFault 0x10 14 0 o.addr 0))) ∧
      (o.op = 2 → d.canReport →
        (d.cist.sector = 0 → d.cist.journal0.length < 512 → Gives (.eraseDone []) s fun e =>
          (∀ m, line e m = if m / 2048 = b then none else line d m) ∧ d.opEnds e 2 0 b ∧
          e.cist = { d.cist with
            op := none, lines := e.cist.lines, incomplete := d.cist.incomplete.filter fun x => x != b,
            journal0 := d.cist.journal0 ++ [⟨d.cist.entrySeq + 1, 2, b, d.tick32⟩], entrySeq := d.cist.entrySeq + 1 } ∧
          regsBut d e [CIST.EVENTS_at, CIST.STATUS_at, CIST.ERASE_RUN_at] ∧ e = { d with regs := e.regs, flumes := e.flumes, cist := e.cist }) ∧
        (∀ k : BitVec 11, d.canLog → Gives (.eraseDone [k]) s fun e =>
          (∀ m, m ≠ 2048 * b + k.toNat → line e m = if m / 2048 = b then none else line d m) ∧ line e (2048 * b + k.toNat) ≠ none ∧
          d.opEnds e 2 9 b ∧ d.tells e (mkUnitFault 0x10 14 0 o.addr 0)) ∧
        (d.on CIST.STATUS_SUSP_PEND = false → Gives .suspendTakesEffect s fun e => e = d) ∧
        (d.on CIST.STATUS_SUSP_PEND = true → 500 * 524288 ≤ (d.tick * 1024 + 1023 - o.since) * 15625 → Gives .suspendTakesEffect s fun e =>
          ∃ run, e.cist = { d.cist with op := none, fwSusp := true, susp := some { o with run := run } } ∧
            run = max (o.run + usCeil 500) (o.run + (d.now - o.since)) ∧ e.rd CIST.ERASE_RUN_US = min 16383 (run * 15625 / 524288) ∧
            e.on CIST.STATUS_SUSP_PEND = false ∧ regsBut d e [CIST.STATUS_at, CIST.ERASE_RUN_at] ∧ e = { d with regs := e.regs, cist := e.cist })) ∧
      (o.op = 3 → d.canReport → (∀ x ∈ d.cist.optFlips, x.1 / 1024 ≠ if d.on CIST.STATUS_OPT_COPY then 0 else 1) → Gives .optWriteDone s fun e =>
        let old := if d.on CIST.STATUS_OPT_COPY then d.cist.optB else d.cist.optA
        let new : OptCopy := ⟨o.image, (old.seq + 1) % 2 ^ 32, true⟩
        (e.on CIST.STATUS_OPT_COPY = !d.on CIST.STATUS_OPT_COPY) ∧
        (d.on CIST.STATUS_OPT_COPY = false → e.cist = { d.cist with op := none, optB := new }) ∧
        (d.on CIST.STATUS_OPT_COPY = true → e.cist = { d.cist with op := none, optA := new }) ∧ e.rd CIST.OPT_SEQ_SEQ = new.seq ∧
        (∀ k, k < 8 → e.reg (CHISEL.WRAPKEY_at k) = Store.get (shippedOpt (0x80 + 4 * k)) o.image (0x20 + k)) ∧ d.opEnds e 3 0 0 ∧
        e = { d with regs := e.regs, flumes := e.flumes, cist := e.cist }) ∧
      (∀ b : Fin 12, o.op = 4 → o.mask.getLsbD b = true → d.canReport → (b.val = 9 → ∀ p, p < 2 → (d.rfp p).tx.now = none) → ∃ t, exec (.lockCellDone b) s = .next t ∧ t.pending = s.pending ∧
        (b.val = 11 → t.cells = { s.cells with testClosed := true }) ∧
        (b.val ≠ 11 → t.cells.testClosed = s.cells.testClosed ∧ t.dev.on WEIR.EVENTS_LOCKSET = true ∧
          ∀ j, j < 11 → t.cells.lockWord.getLsbD j = (s.cells.lockWord.getLsbD j || j == b.val)) ∧
        (b.val = 9 → t.dev.reg WEIR.SUPPLY_at = d.optWord t.cells 0x1A4 &&& 0xFF#32) ∧
        (∀ r, r = b.val → r < 8 → t.dev.reg (WEIR.LO_at r) = d.optWord t.cells (0x100 + 16 * r) &&& 0x3FFFFFFF#32 ∧
          t.dev.reg (WEIR.HI_at r) = d.optWord t.cells (0x104 + 16 * r) &&& 0x3FFFFFFF#32) ∧
        let left := o.mask &&& ~~~BitVec.ofNat 12 (2 ^ b.val)
        (left ≠ 0#12 → t.dev.cist = { d.cist with op := some { o with mask := left } }) ∧ (left = 0#12 → d.opEnds t.dev 4 0 0))) ∧
    (d.on CIST.STATUS_AUTO = false ∨ d.on WEIR.STATUS_VMAIN_LOW = true → Gives .supplyHoldEnd s fun e => e = d) ∧
    (d.on CIST.STATUS_AUTO = true → d.on WEIR.STATUS_VMAIN_LOW = false →
      (d.cist.susp = none ∨ d.cist.fwSusp = true → Gives .supplyHoldEnd s fun e => e = d.wr CIST.STATUS_AUTO 0) ∧
      (∀ o, d.cist.susp = some o → d.cist.fwSusp = false → d.cist.op = none → Gives .supplyHoldEnd s fun e =>
        e = { d.wr CIST.STATUS_AUTO 0 with cist := { d.cist with op := some { o with since := d.now }, susp := none, fwSusp := false } }))

/-! ### Memory upkeep, the fault log, self-checks and repair (chapters 12 and 15) -/

/-- R270, R273, R274, R334, R335, R355, R357: a scrub leaves a sound memory as it is and corrects a single-bit error; a row copy enters its row in
the live map; a bank copy switches the bank to its target, the bank left becoming the spare or being fenced; LOG_RETIRE frees the oldest
records; HEARTBEAT toggles while LB.0 feeds it and nothing fails; an injection acts in factory mode only.  Which word of a bank a scrub reads is
the model's choice (log entry 8). -/
def Obligations.MemoryUpkeepAndLog : Prop :=
  ∀ s : State,
    let d := s.dev
    let place (b : Nat) : Nat := 0x10000 * b + 4 * (d.tick % 16384)
    let sound (a : Nat) : Prop := d.bankDead a = true ∨ flipCount (d.word a).flip = 0
    ((2 ≤ d.power ∧ d.power ≤ 4 ∨ d.well.coreOff = true ∨ ∀ b, b < 96 → sound (place b)) → Gives .scrub s fun e => e = d) ∧
    (∀ b, b < 96 → d.freshLog → d.well.coreOff = false → d.bankDead (place b) = false → flipCount (d.word (place b)).flip = 1 →
      d.repair.rowErrs = [] → (∀ c, c < 96 → c ≠ b → sound (place c)) → Gives .scrub s fun e =>
        e.word (place b) = ⟨(d.word (place b)).data, (d.word (place b)).tag, 0#43⟩ ∧ (∀ x, x / 4 ≠ place b / 4 → e.word x = d.word x) ∧
        d.logs e (mkUnitFault 0x01 5 (d.physBank b) (place b) (rowOf (place b))) ∧ regsBut d e logRegs ∧
        e = { d with
          regs := e.regs, sram := e.sram, sluice := e.sluice, well := e.well,
          repair := { d.repair with rowErrs := [⟨d.physBank b, rowOf (place b), place b, d.tick⟩] } }) ∧
    (∀ (bank : Fin 102) (row : BitVec 8),
      let c : Instr := .rowCopyDone bank row
      ((∀ x ∈ d.repair.rowCopies, ¬ (x.bank = bank.val ∧ x.row = row.toNat)) → Gives c s fun e => e = d) ∧
      (∀ k l, k < 2 → d.repair.rowCopies = [⟨bank, row.toNat, k⟩] → d.freshLog → d.bankServed bank = some l →
        (∀ i, i < 64 → sound (0x10000 * l + 0x100 * row.toNat + 4 * i)) → Gives c s fun e =>
          let a := rowRepairAddr bank.val
          e.reg a = setBits (d.reg a) (16 * k) 16 (0x8000 + row.toNat) ∧ e.on REPAIR.EVENTS_DIRTY = true ∧
          d.logs e (mkUnitFault 0x17 5 bank row.toNat k) ∧ regsBut d e (a :: REPAIR.EVENTS_at :: logRegs) ∧
          e = { d with regs := e.regs, sluice := e.sluice, well := e.well, repair := { d.repair with rowCopies := [] } })) ∧
    (d.repair.bankCopy = none → Gives .bankCopyDone s fun e => e = d) ∧
    (∀ c, d.repair.bankCopy = some c → c.logical < 96 → c.target < 102 → d.physBank c.logical < 102 → d.repair.bankQueue = [] →
      (∀ i, i < 16384 → sound (0x10000 * c.logical + 4 * i)) → d.repair.rots = [] → (∀ x ∈ d.repair.tests, x.2 = none) →
      let old := d.physBank c.logical
      let moved (e : Dev) : Prop := e.physBank c.logical = c.target ∧ (∀ l, l ≠ c.logical → e.physBank l = d.physBank l) ∧
        e.repair.bankCopy = none ∧ e.sram = d.sram ∧ e.on REPAIR.STATUS_BUSY = false ∧ e.rd REPAIR.STATUS_KIND = 0 ∧
        e.rd REPAIR.ROTATIONS_COUNT = min (d.rd REPAIR.ROTATIONS_COUNT + 1) (2 ^ REPAIR.ROTATIONS_COUNT.width - 1) ∧ ∀ k, e.slot k = d.slot k
      (c.fenceOld = false → Gives .bankCopyDone s fun e => moved e ∧ e.groupSpare (c.logical / 16) = old ∧ e.sluice = d.sluice) ∧
      (c.fenceOld = true → d.canLog → Gives .bankCopyDone s fun e => moved e ∧ d.fences e 5 old c.target 3 c.agent c.agentNo)) ∧
    (∀ n : BitVec 7, d.blockOpen 3 = true → d.power = 0 → Store.wf (fun _ => none) d.sluice.log = true → Gives (.logRetire n) s fun e =>
      e.sluice.held.length = d.sluice.held.length - n.toNat ∧ (∀ x ∈ e.sluice.held, x ∈ d.sluice.held) ∧
      (∀ x ∈ e.sluice.held, ∀ y ∈ d.sluice.held, y ∉ e.sluice.held → y.2.seq ≤ x.2.seq) ∧
      (e.well.levels.getLsbD 14 = true ↔ e.sluice.held ≠ []) ∧ regsBut d e [WELL.PEND_at] ∧
      e = { d with
        regs := e.regs, well := { d.well with levels := e.well.levels },
        sluice := { d.sluice with log := e.sluice.log, retired := e.sluice.retired } }) ∧
    (Gives .fResetAgesOut s fun e =>
      e = { d with sluice := { d.sluice with fResets := d.sluice.fResets.filter fun t => d.tick ≤ t + max 1 (d.rd SLUICE.CFG_FATAL_WINDOW) * 1966080 } }) ∧
    (d.blockOpen 3 = true →
      (Gives .fatalAck s fun e => e.on SLUICE.STATUS_FATAL = false ∧ (∀ f, f ∈ [SLUICE.STATUS_STOPPED, SLUICE.STATUS_HB_RUN, SLUICE.STATUS_FACTORY] →
        e.rd f = d.rd f) ∧ regsBut d e [SLUICE.STATUS_at] ∧ e = { d with regs := e.regs }) ∧
      (∀ m : Master, (m = .bowl 0 → Gives (.hbFeed m) s fun e => e.rd SLUICE.HB_LAST_TICK = d.tick32 ∧ regsBut d e [SLUICE.HB_LAST_at] ∧
          e = { d with regs := e.regs, sluice := { d.sluice with fed := true } }) ∧
        (m ≠ .bowl 0 → Gives (.hbFeed m) s fun e => e.on SLUICE.EVENTS_HB_FOREIGN = true ∧ regsBut d e [SLUICE.EVENTS_at] ∧ e = { d with regs := e.regs })) ∧
      (∀ v : Word, let a := d.rd SLUICE.INJ_ADDR_ADDR / 4 * 4
        (d.on SLUICE.STATUS_FACTORY = false → Gives (.injCtrlWrite v) s fun e => e = d) ∧
        (d.on SLUICE.STATUS_FACTORY = true → a < 0x600000 → v.toNat % 8 = 1 → Gives (.injCtrlWrite v) s fun e =>
          e.word a = { d.word a with flip := (d.word a).flip ^^^ 1#43 } ∧ (∀ x, x / 4 ≠ a / 4 → e.word x = d.word x) ∧
          e.sluice.injections = d.sluice.injections ++ [⟨1, 5, a⟩] ∧ regsBut d e [SLUICE.INJ_CTRL_at]) ∧
        (d.on SLUICE.STATUS_FACTORY = true → 3 ≤ v.toNat % 8 → v.toNat % 8 ≤ 5 → Gives (.injCtrlWrite v) s fun e =>
          e.sluice = { d.sluice with injections := d.sluice.injections ++ [⟨v.toNat % 8, v.toNat / 8 % 32, v.toNat / 256 % 128⟩] } ∧
          regsBut d e [SLUICE.INJ_CTRL_at] ∧ e = { d with regs := e.regs, sluice := e.sluice }))) ∧
    (let fed := d.sluice.fed = true ∧ ((d.tick - d.tick % 2048 + 2 ^ 32 - d.rd SLUICE.HB_LAST_TICK) % 2 ^ 32 ≤ max 2048 (d.rd SLUICE.HB_CFG_WINDOW))
      let sound := d.on SLUICE.STATUS_FATAL = false ∧ d.on WEIR.STATUS_HEALTHY = true
      let runs := sound ∧ (d.running = true ∧ fed ∨ 1 ≤ d.power ∧ d.power ≤ 3 ∧ d.on SLUICE.HB_CFG_SLEEP = true)
      let due := { d with clep := { d.clep with heartDue := false } }
      (d.clep.heartDue = false → Gives .heartbeatTick s fun e => e = d) ∧
      (d.clep.heartDue = true → runs → Gives .heartbeatTick s fun e => (e.on SLUICE.STATUS_HB_LEVEL = !d.on SLUICE.STATUS_HB_LEVEL) ∧
        e.on SLUICE.STATUS_HB_RUN = true ∧ regsBut d e [SLUICE.STATUS_at] ∧ e = { due with regs := e.regs }) ∧
      (d.clep.heartDue = true → ¬ sound ∨ (d.running = true ∧ d.sluice.fed = false) ∨ d.power = 4 → Gives .heartbeatTick s fun e =>
        e.on SLUICE.STATUS_HB_LEVEL = false ∧ e.on SLUICE.STATUS_HB_RUN = false ∧ (d.on SLUICE.STATUS_HB_RUN = true → e.on SLUICE.EVENTS_HB_STOP = true) ∧
        regsBut d e [SLUICE.STATUS_at, SLUICE.EVENTS_at] ∧ e = { due with regs := e.regs }))

/-- R28, R29, R48, R174, R242, R338, R339, R341, R352: a check of a core unit that passes on retry is recorded CORRECTED; one that fails again fences
the unit and its slot goes to ROTATING, onto the spare; at the rotation's end it goes on there with its state, or is reset where its state cannot
be copied, and the FENCED record is written; an instruction of a slot in ROTATING runs once the rotation has ended (log entry 57); a lane's first self-check failure ends its
frame FAULT and a second within STRIKE hours fences the lane; a Chisel core that fails gives way to the spare; a non-spared unit is fenced and
an essential one latches a FATAL fault. -/
def Obligations.SelfChecks : Prop :=
  ∀ s : State,
    let d := s.dev
    (∀ (bowl : Bool) (u : Fin 9) (check : Fin 3) (retryFails copyFails : Bool),
      let kind := if bowl then 3 else 2
      let c : Instr := .coreCheckFail bowl u check retryFails copyFails
      ((∀ k ∈ d.serving kind, d.rd (assignFld k) ≠ u.val) → Gives c s fun e => e = d) ∧
      (∀ k ∈ d.serving kind, d.rd (assignFld k) = u.val → d.slotState k ≠ 5 → (∀ j ∈ d.serving kind, j ≠ k → d.rd (assignFld j) ≠ u.val) →
        (retryFails = false → d.freshLog → Gives c s fun e => d.logs e (mkUnitFault 0x11 kind u (d.slot k).pc (check + 1)) ∧ regsBut d e logRegs ∧
          e = { d with regs := e.regs, sluice := e.sluice, well := e.well }) ∧
        (retryFails = true → d.sluice.injections = [] → d.rd SYS.AM_STATUS_STATE = 0 → d.rd (spareFld kind) < 9 → d.coresAtRest kind →
          let spare := d.rd (spareFld kind)
          Gives c s fun e => e.unitFenced kind u = true ∧ e.on REPAIR.EVENTS_FENCED = true ∧ e.rd (spareFld kind) = 15 ∧
            d.rotates e ⟨kind, k, spare, some (u, 5, 0), false, false, copyFails⟩ ∧ e.sluice = d.sluice))) ∧
    (∀ (r : CoreRot) (w : Nat), d.repair.rots = [r] → d.repair.coreQueue = [] → r.slot < 12 → r.kind = kindOfSlot r.slot → r.target < 15 →
      d.rd (assignFld r.slot) < 15 → d.slotState r.slot = 5 → Store.get none d.repair.paused r.slot = some ⟨w, []⟩ → w < 8 → d.canLog →
      let e := d.endRots
      let k := r.slot
      (∀ i ins len, dataInsn i = some (k, ins, len) → w ≠ 5 → r.lost = false → exec i s = exec i { s with dev := e }) ∧
      e.rd (assignFld k) = r.target ∧ e.repair.rots = [] ∧ (∀ j, j < 12 → j ≠ k → e.rd (assignFld j) = d.rd (assignFld j) ∧ e.slot j = d.slot j) ∧
      e.sram = d.sram ∧ (r.live = false → e.rd (spareFld r.kind) = d.rd (spareFld r.kind)) ∧
      (r.live = true → e.rd (spareFld r.kind) = d.rd (assignFld k)) ∧
      e.rd REPAIR.ROTATIONS_COUNT = min (d.rd REPAIR.ROTATIONS_COUNT + 1) (2 ^ REPAIR.ROTATIONS_COUNT.width - 1) ∧
      (r.lost = false → e.slot k = { d.slot k with rotations := (d.slot k).rotations + 1 } ∧ e.slotState k = w ∧ e.flumes = d.flumes ∧
        (r.record = none → e.sluice = d.sluice) ∧
        (∀ u a n, r.record = some (u, a, n) → d.tells e ⟨0x12, r.kind, u, r.target, d.stillServing r.kind, 3, a, n, false⟩)) ∧
      (r.lost = true → w = 1 → d.sluice.held.length < 63 → (∀ n, (d.flume n).stalled = []) → e.slot k = Slot.reset ∧
        e.slotState k = (if k = 8 then 1 else 0) ∧
        e.newest.map (fun x => (x.code, x.inst, x.d0, x.agentNo)) = some (0x13, k, (d.slot k).pc, (masterOfSlot k).agentNo))) ∧
    (∀ n : Fin 72, let l := d.lane n
      (l.state.running = false → Gives (.laneSelfCheckFail n) s fun e => e = d) ∧
      (l.state.running = true → l.waiting = false → d.freshLog → d.loneLane n → l.buf = none →
        (Store.get none d.sluice.strikes n = none → Gives (.laneSelfCheckFail n) s fun e =>
          (e.lane n).state = .drain ∧ (e.lane n).drain = some ⟨recordWords n l 0xA 0 0, l.group.port, l.pin, l.buf⟩ ∧
          (∀ m, m ≠ n.val → e.lane m = d.lane m) ∧ d.tells e (mkUnitFault 0x11 1 n 0 4) ∧
          Store.get none e.sluice.strikes n = some d.tick) ∧
        (∀ t, Store.get none d.sluice.strikes n = some t → d.tick ≤ t + max 1 (d.rd REPAIR.CFG_STRIKE) * 3600 * 32768 →
          d.takesGroup (d.rd (BASIN.PCFG_REC_FLUME l.group.port)) 8 → d.noPins → d.rd SYS.AM_STATUS_STATE = 0 →
          Gives (.laneSelfCheckFail n) s fun e => (e.lane n).state = .fenced ∧ e.unitFenced 1 n = true ∧
            ∃ left react, d.tells e ⟨0x12, 1, n, 0xFF, left, react, 5, 0, false⟩))) ∧
    (∀ c : Fin 9,
      (d.unitFenced 4 c = true → Gives (.chiselCoreFailure c) s fun e => e = d) ∧
      (∀ i, i < 8 → d.corePos i = c.val → (∀ j, j < i → d.corePos j ≠ c.val) → d.unitFenced 4 c = false → d.chisel.jobs = [] → d.canLog →
        (d.rd REPAIR.ASSIGN_X_SPARE_C < 9 → Gives (.chiselCoreFailure c) s fun e => e.corePos i = d.rd REPAIR.ASSIGN_X_SPARE_C ∧
          (∀ j, j ≠ i → e.corePos j = d.corePos j) ∧ e.rd REPAIR.ASSIGN_X_SPARE_C = 15 ∧ e.chisel.jobs = [] ∧
          d.fences e 4 c (d.rd REPAIR.ASSIGN_X_SPARE_C) 3 5 0) ∧
        (d.rd REPAIR.ASSIGN_X_SPARE_C = 15 → Gives (.chiselCoreFailure c) s fun e => e.corePos i = 255 ∧
          (∀ j, j ≠ i → e.corePos j = d.corePos j) ∧ d.fences e 4 c 0xFF 5 5 0))) ∧
    (∀ (kind : BitVec 5) (inst : BitVec 7),
      let k := kind.toNat
      let i := inst.toNat
      let c : Instr := .continuousSelfCheckFail kind inst
      (k < 6 ∨ 20 < k ∨ (k ≤ 14 ∧ (unitCount k ≤ i ∨ d.unitFenced k i = true)) → Gives c s fun e => e = d) ∧
      (k = 11 ∨ k = 12 → i < unitCount k → d.unitFenced k i = false → d.canLog → Gives c s fun e => d.fences e k i 0xFF 5 5 0) ∧
      (15 ≤ k → k ≤ 20 → d.canLog → d.on SLUICE.STATUS_FATAL = false → (∀ p, (d.rfp p).tx = ⟨[], none, none⟩ ∧ (d.aq p).tx = none) →
        Gives c s fun e => d.tells e (mkUnitFault 0x20 k 0 k 0x15) ∧ e.on SLUICE.STATUS_FATAL = true ∧ e.rd SLUICE.FATAL_INFO_CODE = 0x20 ∧
          e.rd SLUICE.FATAL_INFO_KIND = k ∧ e.rd SLUICE.FATAL_INFO_INST = 0 ∧ e.on SLUICE.STATUS_HB_LEVEL = false ∧ e.sluice.fPending = true ∧
          (k = 17 → e.on WEIR.STATUS_SILENT = true ∧ e.on WEIR.STATUS_HEALTHY = false)))

/-- R345, R346, R347, R349: a rotation step tests the kind's spare, or the lane least recently tested, unless it is held, which sets SKIPPED; a unit
that passes takes over from the one least recently tested, one that fails is fenced with TEST_FAIL; TEST_NOW takes the step at once, FENCE
fences as a failure would and names the master, RETEST tests a fenced unit and returns it to service when it passes; CMD_STATUS shows each
outcome.  A core kind's step or command waits while a rotation of the kind is under way, and a retest for the loader.  That a retested bank's
words are free is the model's choice (log entry 3). -/
def Obligations.RepairEngine : Prop :=
  ∀ s : State,
    let d := s.dev
    let result (v : Nat) : Dev := d.wr REPAIR.CMD_STATUS_RESULT v
    let held (n : Nat) : Prop := (2 ≤ d.power ∧ d.power ≤ 4) ∨ d.on CORES.PL_STATUS_BUSY = true ∨ n ∈ d.cores.spareHeld ∨
      (∃ r ∈ d.repair.rots, r.kind = n) ∨ (∃ q ∈ d.repair.coreQueue, q.kind = n) ∨ (n ≠ 1 ∧ d.schedSpare n = none) ∨
      (n = 1 ∧ ∀ l, d.nextLane = some l → d.laneTestable l = false)
    let steps (n : Nat) (c : Instr) (P : Dev → Prop) (l : List Nat) : Prop :=
      (held n → Gives c s fun e => e.on REPAIR.EVENTS_SKIPPED = true ∧ e.on REPAIR.STATUS_PAUSED = true ∧ n ∈ e.repair.held ∧ P e ∧
        regsBut d e (REPAIR.EVENTS_at :: REPAIR.STATUS_at :: l) ∧
        e = { d with regs := e.regs, repair := { d.repair with held := e.repair.held } }) ∧
      (∀ u, ¬ held n → (n = 1 → d.nextLane = some u) → (n ≠ 1 → d.schedSpare n = some u) → Gives c s fun e =>
        e.testOf n = some ⟨u, false⟩ ∧ e.on REPAIR.STATUS_BUSY = true ∧ e.rd REPAIR.STATUS_KIND = min n 5 ∧ P e ∧
        (n = 1 → e.lane u = { d.lane u with state := .test } ∧ ∀ m, m ≠ u → e.lane m = d.lane m) ∧ (n ≠ 1 → e.basin = d.basin) ∧
        regsBut d e (REPAIR.STATUS_at :: l) ∧ e = { d with regs := e.regs, basin := e.basin, repair := e.repair })
    (∀ k : Fin 10, let n := k.val + 1
      let c : Instr := .rotationStep k
      (d.rd REPAIR.CFG_PERIOD = 0 ∨ d.testOf n ≠ none → Gives c s fun e => e = d) ∧
      (d.rd REPAIR.CFG_PERIOD ≠ 0 → d.testOf n = none → steps n c (fun _ => True) [])) ∧
    (∀ (k : Fin 10) (pass : Bool) (step : Word), d.testOf (k + 1) = none → Gives (.liveTestDone k pass step) s fun e => e = d) ∧
    (∀ (k : Fin 10) (t : TestRun) (step : Word), d.testOf (k + 1) = some t → let n := k.val + 1
      let kind := min n 5
      let ends (pass : Bool) (P : Dev → Prop) : Prop := Gives (.liveTestDone k pass step) s fun e => d.testShown e kind t.inst pass ∧ P e
      let core := n = 2 ∨ n = 3
      t.inst < 128 →
      (t.retest = false → core →
        (∀ m ∈ d.serving n, (∀ j ∈ d.serving n, d.rd (assignFld j) ≠ t.inst ∧
            (j ≠ m → d.tested n (d.rd (assignFld m)) < d.tested n (d.rd (assignFld j)))) → t.inst < 9 → d.coresAtRest n → d.atBoundary m = true → d.slotState m ≠ 5 →
          d.rd (spareFld n) = t.inst → ends true fun e => d.rotates e ⟨n, m, t.inst, none, true, false, false⟩ ∧ e.sluice = d.sluice) ∧
        (d.canLog → t.inst < 16 → ends false fun e => e.unitFenced n t.inst = true ∧ e.rd (spareFld n) = 15 ∧
          d.tells e (mkUnitFault 0x15 n t.inst step.toNat 0) ∧ e.cores = d.cores ∧ e.sram = d.sram)) ∧
      (t.retest = false → n = 4 → d.chisel.jobs = [] → d.rd REPAIR.ASSIGN_X_SPARE_C = t.inst → t.inst < 9 → (∀ j, j < 8 → d.corePos j < 9 ∧ d.corePos j ≠ t.inst) →
        ∀ i, i < 8 → (∀ j, j < 8 → j ≠ i → d.tested 4 (d.corePos i) < d.tested 4 (d.corePos j)) → ends true fun e =>
          e.corePos i = t.inst ∧ (∀ j, j ≠ i → e.corePos j = d.corePos j) ∧ e.rd REPAIR.ASSIGN_X_SPARE_C = d.corePos i ∧ e.cores = d.cores) ∧
      (t.retest = false → 5 ≤ n → let g := n - 5
        (d.repair.bankCopy = none → d.repair.bankOut = [] → ∀ i, i < 16 → (∀ j, j < 16 → d.physBank (16 * g + j) ≠ t.inst ∧
            (j ≠ i → d.tested 5 (d.physBank (16 * g + i)) < d.tested 5 (d.physBank (16 * g + j)))) → ends true fun e =>
          e.repair.bankCopy = some ⟨16 * g + i, t.inst, false, 0, 0⟩ ∧ e.groupSpare g = 255 ∧ (∀ l, e.physBank l = d.physBank l) ∧
          e.on REPAIR.STATUS_BUSY = true ∧ e.sram = d.sram) ∧
        (d.canLog → t.inst < 102 → ends false fun e => e.unitFenced 5 t.inst = true ∧ e.groupSpare g = 255 ∧
          d.tells e (mkUnitFault 0x15 5 t.inst step.toNat 0) ∧ (∀ l, e.physBank l = d.physBank l) ∧ e.sram = d.sram)) ∧
      (t.retest = true → ends false fun e => e.rd REPAIR.CMD_STATUS_RESULT = 5 ∧ e.sluice = d.sluice ∧ e.cores = d.cores ∧
        (∀ kd i, e.unitFenced kd i = d.unitFenced kd i)) ∧
      (t.retest = true → core → t.inst < unitCount n → d.unitFenced n t.inst = true →
        ((∀ j, j ∈ slotsOf n → d.rd (assignFld j) ≠ 15) → ends true fun e => e.unitFenced n t.inst = false ∧ e.rd (spareFld n) = t.inst ∧
          e.rd REPAIR.CMD_STATUS_RESULT = 0 ∧ e.on REPAIR.EVENTS_RETURNED = true ∧ e.cores = d.cores ∧ e.sluice = d.sluice) ∧
        (∀ j, j ∈ slotsOf n → d.rd (assignFld j) = 15 → d.slotState j ≠ 5 → (∀ m, m ∈ slotsOf n → m < j → d.rd (assignFld m) ≠ 15) → (∀ m, (d.flume m).stalled = []) →
          ends true fun e => e.unitFenced n t.inst = false ∧ e.rd (assignFld j) = t.inst ∧ e.slot j = Slot.reset ∧ e.slotState j = 0 ∧
            e.rd REPAIR.CMD_STATUS_RESULT = 0 ∧ e.on REPAIR.EVENTS_RETURNED = true ∧ e.rd (spareFld n) = d.rd (spareFld n)))) ∧
    (∀ (n : Fin 72) (pass : Bool),
      ((∀ t, d.testOf 1 = some t → t.inst ≠ n.val) → Gives (.laneTestEnd n pass) s fun e => e = d) ∧
      (d.testOf 1 = some ⟨n, false⟩ → d.noPins → d.canLog → Gives (.laneTestEnd n pass) s fun e => d.testShown e 1 n pass ∧ e.testOf 1 = none ∧
        (∀ m, m ≠ n.val → e.lane m = d.lane m) ∧
        (pass = true → (e.lane n).state = .idle ∧ e.sluice = d.sluice) ∧
        (pass = false → (e.lane n).state = .fenced ∧ e.unitFenced 1 n = true ∧ d.tells e (mkUnitFault 0x15 1 n 0 0)))) ∧
    (d.blockOpen 4 = true → ∀ (kind : BitVec 5) (inst : BitVec 7), let k := kind.toNat
      let i := inst.toNat
      let sched := if k = 5 then 5 + i / 17 else k
      (k = 0 ∨ 6 ≤ k ∨ (k = 5 ∧ 102 ≤ i) → Gives (.testNow kind inst) s fun e => e = result 3) ∧
      (1 ≤ k → k ≤ 5 → (k = 5 → i < 102) →
        (d.testOf sched ≠ none ∨ (k = 5 ∧ d.repair.bankCopy ≠ none) ∨ (∃ r ∈ d.repair.rots, r.kind = k) →
          Gives (.testNow kind inst) s fun e => e = result 1) ∧
        (d.testOf sched = none → (k = 5 → d.repair.bankCopy = none) → (∀ r ∈ d.repair.rots, r.kind ≠ k) →
          steps sched (.testNow kind inst) (fun e => e.rd REPAIR.CMD_STATUS_RESULT = 0) [REPAIR.CMD_STATUS_at])) ∧
      (∀ m : Master,
        (15 ≤ k → k ≤ 20 → Gives (.fence m kind inst) s fun e => e = result 2) ∧
        (k < 15 ∨ 20 < k → unitCount k ≤ i → Gives (.fence m kind inst) s fun e => e = result 3) ∧
        (k < 14 → i < unitCount k → d.unitFenced k i = true → Gives (.fence m kind inst) s fun e => e = result 0) ∧
        (k = 2 ∨ k = 3 → i < unitCount k → d.unitFenced k i = false → d.sluice.injections = [] → d.rd SYS.AM_STATUS_STATE = 0 → d.coresAtRest k →
          ∀ j ∈ d.serving k, d.rd (assignFld j) = i → (∀ h ∈ d.serving k, h ≠ j → d.rd (assignFld h) ≠ i) → d.slotState j ≠ 5 →
          d.rd (spareFld k) < 9 → Gives (.fence m kind inst) s fun e => e.unitFenced k i = true ∧ e.rd (spareFld k) = 15 ∧
            d.rotates e ⟨k, j, d.rd (spareFld k), some (i, m.agent, m.agentNo), false, m.agent != 5, false⟩ ∧ e.rd REPAIR.CMD_STATUS_RESULT = 6) ∧
        (k = 2 ∨ k = 3 → i < unitCount k → d.unitFenced k i = false → d.canLog → d.rd SYS.AM_STATUS_STATE = 0 → d.coresAtRest k →
          (∀ j, j ∈ d.serving k → d.rd (assignFld j) ≠ i) → d.rd (spareFld k) = i → Gives (.fence m kind inst) s fun e =>
            d.fences e k i 0xFF 4 m.agent m.agentNo ∧ e.rd (spareFld k) = 15 ∧ e.rd REPAIR.CMD_STATUS_RESULT = 0 ∧ e.cores = d.cores)) ∧
      (k = 0 ∨ 6 ≤ k ∨ unitCount k ≤ i → Gives (.retest kind inst) s fun e => e = result 3) ∧
      (1 ≤ k → k ≤ 5 → i < unitCount k →
        (d.unitFenced k i = false → Gives (.retest kind inst) s fun e => e = result 4) ∧
        (d.unitFenced k i = true → d.testOf sched ≠ none → Gives (.retest kind inst) s fun e => e = result 1) ∧
        (d.unitFenced k i = true → d.testOf sched = none → (k = 2 ∨ k = 3) → d.on CORES.PL_STATUS_BUSY = true → Gives (.retest kind inst) s fun e =>
          e = { result 6 with repair := { d.repair with retests := d.repair.retests ++ [(k, i)] } }) ∧
        (d.unitFenced k i = true → d.testOf sched = none → (k = 2 ∨ k = 3 → d.on CORES.PL_STATUS_BUSY = false) → Gives (.retest kind inst) s fun e =>
          e.testOf sched = some ⟨i, true⟩ ∧
          e.rd REPAIR.CMD_STATUS_RESULT = 6 ∧ e.on REPAIR.STATUS_BUSY = true ∧ e.rd REPAIR.STATUS_KIND = k ∧
          regsBut d e [REPAIR.CMD_STATUS_at, REPAIR.STATUS_at] ∧ e = { d with regs := e.regs, repair := e.repair })))

/-- R352, R353, R354: a FATAL fault is latched with its record and the F reset follows, RESET_CAUSE reading 6, the reset counted, SRAM kept; a pin or
Spout reset that comes first withdraws the F reset, which is then not counted, and the latch stays; the essential unit that failed failing its
start-up self-check again stops the device, RESET_CAUSE as it was. -/
def Obligations.FatalFaults : Prop :=
  ∀ (s : State) (kind : BitVec 5) (check : BitVec 8),
    let d := s.dev
    let k := kind.toNat
    let latched (e : Dev) : Prop := e.on SLUICE.STATUS_FATAL = true ∧ e.on SLUICE.STATUS_HB_LEVEL = false ∧ e.sluice.fPending = false ∧
      (d.on SLUICE.STATUS_FATAL = false → e.rd SLUICE.FATAL_INFO_CODE = 0x20 ∧ e.rd SLUICE.FATAL_INFO_KIND = k ∧ e.rd SLUICE.FATAL_INFO_INST = 0)
    let restarted (e : Dev) (why : Nat) : Prop := latched e ∧ e.rd WELL.RESET_CAUSE_WHY = why ∧ e.on SLUICE.STATUS_STOPPED = false ∧ e.power = 0 ∧
      e.flumes = [] ∧ (∀ j, j < 12 → e.slot j = Slot.reset ∧ e.slotState j = if e.rd (assignFld j) = 15 then 6 else 7) ∧ e.sram = d.sram
    (d.on SLUICE.STATUS_STOPPED = true → ∀ cut, Gives (.fatalFault kind check cut) s fun e => e = d) ∧
    (d.on SLUICE.STATUS_STOPPED = false → d.sluice.fPending = false → check ≠ 0x14#8 → k < 15 ∨ 20 < k → ∀ cut,
      Gives (.fatalFault kind check cut) s fun e => e = d) ∧
    (d.on SLUICE.STATUS_STOPPED = false → d.sluice.fPending = false → check ≠ 0x14#8 → 15 ≤ k → k ≤ 20 → d.canLog → d.well.mainOff = false →
      (d.fCounted.length < max 1 (d.rd SLUICE.CFG_FATAL_MAX) → ∃ t, exec (.fatalFault kind check none) s = .next t ∧ t.pending = s.pending ∧
        restarted t.dev 6 ∧ t.dev.sluice.fResets = d.fCounted ++ [d.tick]) ∧
      (max 1 (d.rd SLUICE.CFG_FATAL_MAX) ≤ d.fCounted.length → ∃ t, exec (.fatalFault kind check none) s = .next t ∧ t.pending = s.pending ∧
        latched t.dev ∧ t.dev.on SLUICE.STATUS_STOPPED = true ∧ t.dev.sluice.fResets = d.sluice.fResets ∧
        t.dev.rd WELL.RESET_CAUSE_WHY = d.rd WELL.RESET_CAUSE_WHY) ∧
      (∃ t, exec (.fatalFault kind check (some .pin)) s = .next t ∧ t.pending = s.pending ∧ restarted t.dev 4 ∧ t.dev.sluice.fResets = d.sluice.fResets) ∧
      (∃ t, exec (.fatalFault kind check (some .spout)) s = .next t ∧ t.pending = s.pending ∧ restarted t.dev 5 ∧ t.dev.sluice.fResets = d.sluice.fResets) ∧
      (∃ t, exec (.fatalFault kind check (some .brownOut)) s = .next t ∧ t.pending = s.pending ∧ latched t.dev ∧ t.dev.well.coreOff = true ∧
        t.dev.sluice.fResets = d.sluice.fResets ∧ t.dev.sram = [])) ∧
    (d.on SLUICE.STATUS_STOPPED = false → d.sluice.fPending = false → check = 0x14#8 → d.on SLUICE.STATUS_FATAL = true →
      d.rd SLUICE.FATAL_INFO_KIND = k → d.rd CORES.BOOT_STATE = 0 → d.well.mainOff = false → ∀ cut,
      ∃ t, exec (.fatalFault kind check cut) s = .next t ∧ t.pending = s.pending ∧ latched t.dev ∧ t.dev.on SLUICE.STATUS_STOPPED = true ∧
        t.dev.sluice.fResets = d.sluice.fResets ∧ t.dev.rd WELL.RESET_CAUSE_WHY = d.rd WELL.RESET_CAUSE_WHY)

/-! ### Wellspring (chapter 13) -/

/-- R296 to R304, R306: MODE takes a target, or holds it during a transition; at Q a request is declined or entry begins with the RF off; entry
ends in the state requested, wakes early or replays a lost edge, and powers down HIBERNATE and SHELF; a wake from DOZE or NAP resumes the slots
after their WAIT, one from HIBERNATE or SHELF boots; Ripple accepts calls by address, pattern or activity and, with the GPWAKE pins, fires its
wake source. -/
def Obligations.SleepAndWake : Prop :=
  ∀ s : State,
    let d := s.dev
    let gives (c : Instr) (P : Dev → Prop) : Prop := Gives c s P
    let still (c : Instr) : Prop := Gives c s fun e => e = d
    let target := d.rd WELL.MODE_TARGET
    (d.blockOpen 1 = true → ∀ v : Word,
      let t := v.toNat % 8
      (d.power ≠ 5 → d.power ≠ 6 → gives (.modeWrite v) fun e => e.rd WELL.MODE_TARGET = t ∧ e.on WELL.MODE_HELD_V = d.on WELL.MODE_HELD_V ∧
        e.power = (if d.power = 7 ∧ (t = 0 ∨ 5 ≤ t) then 0 else d.power) ∧ regsBut d e [WELL.MODE_at, WELL.STATUS_at] ∧ e = { d with regs := e.regs }) ∧
      (d.power = 5 ∨ d.power = 6 → gives (.modeWrite v) fun e => e.rd WELL.MODE_TARGET = target ∧ e.rd WELL.MODE_HELD = t ∧
        e.on WELL.MODE_HELD_V = true ∧ (d.on WELL.MODE_HELD_V = true → e.on WELL.EVENTS_SUPERSEDED = true) ∧
        regsBut d e [WELL.MODE_at, WELL.EVENTS_at] ∧ e = { d with regs := e.regs })) ∧
    (let parked := d.repair.rots = [] ∧ ∀ k, k < 12 → k ≠ 8 → d.slotState k = 3 ∨ d.slotState k = 4 ∨ d.slotState k = 6
      let pending := d.rd WELL.PEND_SOURCES &&& d.rd WELL.WAKE_EN_SOURCES
      (d.power ≠ 7 ∨ ¬ parked → still .entryAccept) ∧
      (d.power = 7 → parked → pending ≠ 0 → d.slotState 8 ≠ 5 → gives .entryAccept fun e => d.declined e) ∧
      (d.power = 7 → parked → pending = 0 → d.rfQuiet → 1 ≤ target → target ≤ 4 → d.cist.op = none → d.cist.susp = none → d.qsp.frames = [] →
        (∀ p, d.rd (AQUA.LINK_STATE p) = 0) → gives .entryAccept fun e => e.power = 5 ∧
          e.well = { d.well with fired := d.well.levels &&& BitVec.ofNat 16 d.levelSources, leaving := target } ∧ regsBut d e [WELL.STATUS_at] ∧ e.cores = d.cores ∧ e.sram = d.sram ∧
          e.flumes = d.flumes ∧ e.lathe = d.lathe ∧ e.cist = d.cist)) ∧
    (let lim := d.rd WELL.CFG_ENTRY_LIMIT;
      (d.power ≠ 7 ∨ lim = 0 ∨ d.tick < d.well.waitFrom + lim → still .entryLimitExpiry) ∧
      (d.power = 7 → lim ≠ 0 → d.well.waitFrom + lim ≤ d.tick → d.slotState 8 ≠ 5 → gives .entryLimitExpiry fun e => d.declined e)) ∧
    (∀ w : BitVec 16,
      let c : Instr := .entryComplete w
      let st := d.well.leaving
      let entered (e : Dev) : Prop := (d.on WELL.MODE_HELD_V = true → e.rd WELL.MODE_TARGET = d.rd WELL.MODE_HELD) ∧
        (d.on WELL.MODE_HELD_V = false → e.rd WELL.MODE_TARGET = target) ∧ e.on WELL.MODE_HELD_V = false ∧ e.sram = d.sram
      let held := (∃ p, p < 2 ∧ (d.rfp p).tx.now ≠ none) ∨ (∃ n, n ∈ laneNos ∧ (d.lane n).state = .drain) ∨ d.repair.bankCopy ≠ none ∨ d.repair.rots ≠ [] ∨
        (2 ≤ st ∧ d.cist.op ≠ none)
      (d.power ≠ 5 ∨ held → still c) ∧
      (d.power = 5 → 1 ≤ st → st ≤ 4 → d.well.levels = 0#16 → ¬ held →
        (d.well.fired = 0#16 → gives c fun e => e.power = st ∧ entered e ∧ (st ≤ 2 → e.cores = d.cores ∧ e.flumes = d.flumes) ∧
          (3 ≤ st → e.cores = Cores.reset ∧ e.flumes = [] ∧ e.lathe = Lathe.reset) ∧
          (st = 2 ∨ st = 3 → ∀ b, b < 96 → Store.get none e.well.signatures b = if d.retained b then some (d.signature b) else none)) ∧
        (∀ src, d.well.fired = BitVec.ofNat 16 (2 ^ src) → d.wakeable src st →
          let edge := d.levelSources.testBit src = false
          (w.getLsbD src = false → gives c fun e => d.waking e (2 ^ src) false true ∧ entered e) ∧
          (edge → w.getLsbD src = true → d.on WELL.CFG_REPLAY = true → gives c fun e => d.waking e (2 ^ src) true false ∧ entered e) ∧
          (w.getLsbD src = true → ¬ edge ∨ d.on WELL.CFG_REPLAY = false → gives c fun e => e.power = st ∧ entered e)))) ∧
    (∀ (ups : List (BitVec 21 × BitVec 43)) (code : List (BitVec 22 × BitVec 55)),
      let c : Instr := .wake ⟨ups, code⟩
      let from_ := d.rd WELL.WAKE_CAUSE_FROM
      let off := ∀ p, p < 2 → d.on (RF.SYN_CTRL_EN p) = false
      (d.power ≠ 6 → still c) ∧
      (d.power = 6 → from_ = 1 → off → gives c fun e => e.power = 0 ∧ e.sluice.feedFrom = d.tick ∧ e.sram = d.sram ∧ e.flumes = d.flumes ∧
        (∀ k, k < 12 → e.slotState k = (if d.slotState k = 3 then 1 else d.slotState k) ∧ (e.slot k).regs = (d.slot k).regs)) ∧
      (d.power = 6 → from_ = 2 → off → ups = [] → d.lathe.due = [] → d.on WELL.STATUS_VMAIN_LOW = false →
        (∀ b x, Store.get none d.well.signatures b = some x → d.retained b = true ∧ d.signature b = x) → gives c fun e =>
          e.power = 0 ∧ e.sluice.feedFrom = d.tick ∧ e.well.signatures = [] ∧ e.flumes = d.flumes ∧
          (∀ a, e.word a = if d.retained (bankOf (4 * (a / 4))) then d.word a else SramWord.blank) ∧
          (∀ k, k < 12 → e.slotState k = (if d.slotState k = 3 then 1 else d.slotState k) ∧ (e.slot k).regs = (d.slot k).regs)) ∧
      (d.power = 6 → from_ = 4 → d.on SLUICE.STATUS_STOPPED = false → d.on WELL.STATUS_VMAIN_LOW = false → gives c fun e =>
        e.started 8 ∧ e.sram = [] ∧ e.sluice.fed = false) ∧
      (d.power = 6 → from_ = 3 → ups = [] → d.well.signatures = [] → d.on SLUICE.STATUS_STOPPED = false → d.on WELL.STATUS_VMAIN_LOW = false → gives c fun e =>
        e.started 7 ∧ (∀ a, e.word a = if d.retained (bankOf (4 * (a / 4))) then d.word a else SramWord.blank) ∧ e.sluice.fed = false)) ∧
    (∀ r : Fin 2,
      let on := d.on (rippleEnFld r) = true ∧ d.fencedAqRip 11 r = false
      let accepts (c : Instr) (path : Nat) : Prop :=
        let took (e : Dev) : Prop := e.rd (RIPPLE.STATUS_PATH r) = path ∧
          e.rd (RIPPLE.CALLS_ACCEPTED r) = min (d.rd (RIPPLE.CALLS_ACCEPTED r) + 1) (2 ^ (RIPPLE.CALLS_ACCEPTED r).width - 1) ∧
          e.on (if r = 0 then RIPPLE.EVENTS_ACCEPT_A else RIPPLE.EVENTS_ACCEPT_B) = true ∧ e.well.stampDue.getLsbD r = true ∧ e.cores = d.cores ∧ e.sram = d.sram
        (d.power = 0 → gives c fun e => took e ∧ e.power = 0 ∧ e.rd WELL.PEND_SOURCES = d.rd WELL.PEND_SOURCES ||| 2 ^ (4 + r.val) ∧
          regsBut d e [RIPPLE.STATUS_at r, RIPPLE.CALLS_at r, RIPPLE.EVENTS_at, WELL.PEND_at]) ∧
        (1 ≤ d.power → d.power ≤ 3 → d.wakeable (4 + r) d.power → d.well.mainOff = false → d.well.levels = 0#16 → gives c fun e =>
          took e ∧ d.waking e (2 ^ (4 + r.val)) false false)
      (∀ (hz : BitVec 30) (rate zeros : Nat) (line more : List Bool) (addr : BitVec 24) (crc : BitVec 8),
        let c : Instr := .rippleCall r hz ⟨rate, line⟩
        let mid := 100000 * max 4100 (min 9600 (d.rd (RIPPLE.CFG_FREQ r)))
        let nominal := if d.on (RIPPLE.CFG_RATE r) then 8000 else 1000
        let receives := on ∧ d.power ≠ 4 ∧ mid ≤ hz.toNat + 1000000 ∧ hz.toNat ≤ mid + 1000000 ∧ 95 * nominal ≤ 100 * rate ∧ 100 * rate ≤ 105 * nominal
        let good := crc8 addr.toNat = crc.toNat
        let one := d.on (RIPPLE.CFG_A0_EN r) = true ∧ addr.toNat = d.rd (RIPPLE.ADDR0_ADDR r)
        let two := d.on (RIPPLE.CFG_A1_EN r) = true ∧ addr.toNat = d.rd (RIPPLE.ADDR1_ADDR r)
        let three := d.on (RIPPLE.CFG_BC_EN r) = true ∧ addr = 0xFFFFFF#24
        (¬ receives → still c) ∧
        (receives → chipBits line = List.replicate zeros false ++ bitsHigh 8 0xD3 ++ bitsHigh 24 addr.toNat ++ bitsHigh 8 crc.toNat ++ more →
          (zeros < 8 → still c) ∧
          (8 ≤ zeros → ¬ good → gives c fun e => e.rd (RIPPLE.CALLS_CRCFAIL r) =
            min (d.rd (RIPPLE.CALLS_CRCFAIL r) + 1) (2 ^ (RIPPLE.CALLS_CRCFAIL r).width - 1) ∧ regsBut d e [RIPPLE.CALLS_at r] ∧ e = { d with regs := e.regs }) ∧
          (8 ≤ zeros → good → (one → accepts c 1) ∧ (¬ one → two → accepts c 2) ∧ (¬ one → ¬ two → three → accepts c 3) ∧
            (¬ one → ¬ two → ¬ three → still c))) ∧
        (receives → 9 ≤ zeros → chipBits line = List.replicate zeros false ++ bitsHigh 31 0x5A3C96E1 ++ more →
          (d.on (RIPPLE.CFG_PAT_EN r) = true → accepts c 4) ∧ (d.on (RIPPLE.CFG_PAT_EN r) = false → still c))) ∧
      (∀ (peaks : List Int) (call : Bool),
        let c : Instr := .rippleActivity ⟨r, peaks, call⟩
        let n := max 1 (d.rd (RIPPLE.FB_ACT_MS r))
        let active := n ≤ peaks.length ∧ ∀ x ∈ peaks.take n, max (-82) (min (-40) (d.rdS (RIPPLE.FB_ACT_THR r))) < x
        (on → d.on (RIPPLE.CFG_ACT_EN r) = true → active → call = false → accepts c 5) ∧
        (¬ on ∨ d.on (RIPPLE.CFG_ACT_EN r) = false ∨ d.power = 4 ∨ ¬ active ∨ call = true → still c))) ∧
    (∀ (pin : Fin 24) (level : Bool),
      let c : Instr := .gpwakePin pin level
      let pins : BitVec 24 := if level then d.pins ||| BitVec.ofNat 24 (2 ^ pin.val) else d.pins &&& ~~~BitVec.ofNat 24 (2 ^ pin.val)
      (pin.val ≠ d.rd WELL.GPWAKE_PIN0 → pin.val ≠ d.rd WELL.GPWAKE_PIN1 → gives c fun e => e = { d with pins := pins }) ∧
      (d.rd WELL.GPWAKE_PIN0 = pin.val → d.rd WELL.GPWAKE_PIN1 ≠ pin.val → (d.reg GPIO.OE_at).getLsbD pin = false → d.pins.getLsbD pin ≠ level →
        d.power = 0 → gives c fun e => e.pins = pins ∧ regsBut d e [WELL.PEND_at] ∧
          (let hit := level = d.on WELL.GPWAKE_POL0;
            (hit → e.rd WELL.PEND_SOURCES = d.rd WELL.PEND_SOURCES ||| 2 ^ 8) ∧ (¬ hit → e.rd WELL.PEND_SOURCES = d.rd WELL.PEND_SOURCES) ∧
            (d.on WELL.GPWAKE_LVL0 = true → (e.well.levels.getLsbD 8 = true ↔ hit)) ∧ (d.on WELL.GPWAKE_LVL0 = false → e.well = d.well))))

/-- R288, R308, R310 to R314: a warning raises VMAIN_LOW, refuses clearances and holds the Cistern; a brown-out turns the core domain off and its SRAM
contents are lost, and the end of the V_START hold starts it; W, C and P start it at once, P keeping SRAM and the TICK; a RESET_N pulse under
200 ns does nothing; a unit reset gives the unit's registers their reset values and no other register.  What a supply measures and what a
pulse of 200 ns to 1 µs does are free (log entry 3). -/
def Obligations.SuppliesAndResets : Prop :=
  ∀ s : State,
    let d := s.dev
    let still (c : Instr) : Prop := Gives c s fun e => e = d
    let runs (c : Instr) (P : Dev → Prop) : Prop := ∃ t, exec c s = .next t ∧ t.pending = s.pending ∧ P t.dev
    (d.on WELL.STATUS_VMAIN_LOW = true → still .vmainWarn) ∧
    (d.on WELL.STATUS_VMAIN_LOW = false → d.rfQuiet → d.cist.op = none → Gives .vmainWarn s fun e =>
      e.on WELL.EVENTS_WARN = true ∧ e.on WELL.STATUS_VMAIN_LOW = true ∧ e.on WEIR.STATUS_VMAIN_LOW = true ∧ e.on WEIR.STATUS_SUPPLY_OK_A = false ∧
      e.on WEIR.STATUS_SUPPLY_OK_B = false ∧ e.well.levels.getLsbD 15 = false ∧ (¬ (2 ≤ d.power ∧ d.power ≤ 4) → e.on CIST.STATUS_AUTO = true) ∧
      (2 ≤ d.power ∧ d.power ≤ 4 → e.reg CIST.STATUS_at = d.reg CIST.STATUS_at) ∧
      regsBut d e [WELL.EVENTS_at, WELL.STATUS_at, WELL.SUPPLY_at, WEIR.STATUS_at, CIST.STATUS_at, CIST.EVENTS_at] ∧
      e = { d with regs := e.regs, well := { d.well with levels := e.well.levels }, freeCount := d.freeCount + 1 }) ∧
    (d.on WELL.STATUS_VMAIN_LOW = false → still .vmainRecovery) ∧
    (d.on WELL.STATUS_VMAIN_LOW = true → (d.power = 0 → Gives .vmainRecovery s fun e => e.on WELL.STATUS_VMAIN_LOW = false ∧
        e.on WEIR.STATUS_VMAIN_LOW = false ∧ e.well.levels.getLsbD 15 = true ∧ regsBut d e [WELL.STATUS_at, WEIR.STATUS_at, WELL.PEND_at] ∧
        e = { d with regs := e.regs, well := { d.well with levels := e.well.levels } }) ∧
      (d.power = 3 ∨ d.power = 4 → d.wakeable 15 d.power → d.well.mainOff = false → d.well.levels = 0#16 → Gives .vmainRecovery s fun e =>
        d.waking e (2 ^ 15) false false ∧ e.on WELL.STATUS_VMAIN_LOW = false)) ∧
    (d.power = 3 ∨ d.power = 4 ∨ d.well.coreOff = true → d.on WELL.STATUS_VMAIN_LOW = true → Gives .brownOut s fun e =>
      e = { d with well := { d.well with mainOff := true } }) ∧
    (d.power ≠ 3 → d.power ≠ 4 → d.well.coreOff = false → runs .brownOut fun e => e.well.coreOff = true ∧ e.well.startWhy = 3 ∧ e.sram = [] ∧
      e.flumes = [] ∧ e.cores = Cores.reset ∧ e.tick = d.tick ∧ e.on WELL.STATUS_VMAIN_LOW = true ∧ e.mastersUp = false) ∧
    (∀ tm : Bool,
      (d.well.mainOff = false → Gives (.vStartHoldEnd tm) s fun e => e = { d with well := { d.well with testmode := tm } }) ∧
      (d.well.mainOff = true → d.well.coreOff = true → d.on SLUICE.STATUS_STOPPED = false → d.well.startWhy < 8 → d.flumes = [] → d.cores = Cores.reset →
        Gives (.vStartHoldEnd tm) s fun e => e.started d.well.startWhy ∧ e.well.testmode = tm ∧ e.well.mainOff = false) ∧
      (∀ src, d.well.mainOff = true → d.well.coreOff = false → d.well.held = BitVec.ofNat 16 (2 ^ src) → d.well.levels = 0#16 →
        d.power = 3 ∨ d.power = 4 → d.wakeable src d.power → Gives (.vStartHoldEnd tm) s fun e => d.waking e (2 ^ src) false false ∧ e.well.held = 0#16) ∧
      (d.well.mainOff = false → runs (.vwellLow tm) fun e => e.started 2 ∧ e.sram = [] ∧ e.tick = 0 ∧ e.on WELL.RESET_CAUSE_TIME_LOST = true ∧ e.well.testmode = tm) ∧
      (d.well.mainOff = false → runs (.vwellPowerOn tm) fun e => e.started 1 ∧ e.sram = [] ∧ e.tick = 0 ∧ e.on WELL.RESET_CAUSE_TIME_LOST = true ∧ e.well.testmode = tm) ∧
      (∀ ns : Nat, (ns < 200 ∨ d.well.coreOff = true → still (.resetNPulse ns tm)) ∧
        (1000 ≤ ns → d.well.coreOff = false → d.well.mainOff = false → d.power = 0 → runs (.resetNPulse ns tm) fun e =>
          e.started 4 ∧ e.on SLUICE.STATUS_STOPPED = false ∧ e.sram = d.sram ∧ e.tick = d.tick ∧ e.well.testmode = tm ∧
          (∀ i, i < 3 → e.reg (WELL.RETAIN_at i) = d.reg (WELL.RETAIN_at i)) ∧ e.reg BASIN.CTRL_at = resetWord BASIN.CTRL_at) ∧
        (200 ≤ ns → ns < 1000 → d.well.coreOff = false → d.well.mainOff = false → d.power = 0 → runs (.resetNPulse ns tm) fun e =>
          e = { d with freeCount := d.freeCount + 1 } ∨ e.started 4 ∧ e.sram = d.sram ∧ e.tick = d.tick))) ∧
    (Gives .vbakLow s fun e => e.on WELL.EVENTS_BAKLOW = true ∧ e.on WELL.STATUS_VBAK_LOW = true ∧ regsBut d e [WELL.EVENTS_at, WELL.STATUS_at] ∧
      e = { d with regs := e.regs }) ∧
    (Gives .vbakRecovery s fun e => e.on WELL.STATUS_VBAK_LOW = false ∧ regsBut d e [WELL.STATUS_at] ∧ e = { d with regs := e.regs }) ∧
    (∀ bak : Bool, (d.on WELL.STATUS_SRC = bak → still (.sourceSwitch bak)) ∧
      (d.on WELL.STATUS_SRC ≠ bak → Gives (.sourceSwitch bak) s fun e => e.on WELL.STATUS_SRC = bak ∧ e.on WELL.EVENTS_SRCSWITCH = true ∧
        regsBut d e [WELL.EVENTS_at, WELL.STATUS_at] ∧ e = { d with regs := e.regs })) ∧
    (∀ u : Fin 19,
      let lost (a : Nat) : Word := (d.reg a &&& keepBits [6] a) ||| (resetWord a &&& ~~~keepBits [6] a)
      let back (e : Dev) (l : List Nat) : Prop := ∀ a, a ∉ l → e.reg a =
        if unitOf a = u.val ∧ isMapReg a = false ∧ isStatusReg a = false then lost a else d.reg a
      let opt (e : Dev) (a off : Nat) : Prop := e.reg a = d.optWord s.cells off &&& fieldMask a
      let resets (P : Dev → Prop) : Prop := Gives (.unitReset u) s P
      (u.val ∉ [6, 7, 8, 10, 11, 12, 13, 14, 15, 16, 17] → resets fun e => back e [] ∧ e = { d with regs := e.regs }) ∧
      (u.val = 12 → (∀ n, n < 64 → (d.flume n).stalled = []) → resets fun e => back e [] ∧ e = { d with regs := e.regs, flumes := [] }) ∧
      (u.val = 10 → resets fun e => back e [] ∧ e = { d with regs := e.regs, lathe := Lathe.reset }) ∧
      (u.val = 13 → resets fun e => back e [AQUA.LINK_at 0, AQUA.LINK_at 1] ∧
        (∀ p, p < 2 → e.rd (AQUA.LINK_STATE p) = if d.fencedAqRip 10 p then 5 else 0) ∧ e = { d with regs := e.regs, aqua := [] }) ∧
      (u.val = 15 → resets fun e => back e [] ∧ e = { d with regs := e.regs, spout := Spout.reset }) ∧
      (u.val = 16 → resets fun e => back e [] ∧ e = { d with regs := e.regs, qsp := Qsp.reset }) ∧
      (u.val = 17 → resets fun e => back e ((List.range 12).map CORES.STATUS_at) ∧
        (∀ k, k < 12 → e.slotState k = d.slotState k ∧ e.on (CORES.STATUS_KICKED k) = false ∧ e.on (CORES.STATUS_BRKHIT k) = false ∧
          e.slot k = { d.slot k with rotations := 0 }) ∧ e = { d with regs := e.regs, cores := { d.cores with slots := e.cores.slots } }) ∧
      (∀ p, p < 2 → u.val = 6 + p → d.rfQuiet → resets fun e => back e [RF.PACAL_at p] ∧ opt e (RF.PACAL_at p) (0x18 + 4 * p) ∧ e.rfp p = Rf.idle ∧
        (∀ q, q ≠ p → e.rfp q = d.rfp q) ∧ e.cores = d.cores ∧ e.sram = d.sram ∧ e.flumes = d.flumes ∧ e.weir = d.weir) ∧
      (u.val = 8 → (∀ n, n < 72 → (d.lane n).state ≠ .search) → d.lathe.spans = [] → resets fun e => back e [BASIN.GAINCAL_at 0, BASIN.GAINCAL_at 1] ∧
        opt e (BASIN.GAINCAL_at 0) 0x10 ∧ opt e (BASIN.GAINCAL_at 1) 0x14 ∧
        (∀ n, n < 72 → e.lane n = if d.unitFenced 1 n then { Lane.blank with state := .fenced } else Lane.blank) ∧
        e = { d with regs := e.regs, basin := e.basin }) ∧
      (u.val = 11 → d.chisel.jobs = [] → (∀ q, q < 4 → d.on (CHISEL.QCFG_EN q) = false) → resets fun e => back e [] ∧ e.chisel.lease = none ∧
        e.chisel.jobs = [] ∧ e = { d with regs := e.regs, chisel := e.chisel }) ∧
      (u.val = 14 → d.cist.op = none → d.cist.susp = none → resets fun e => back e [CIST.STATUS_at, CIST.EVENTS_at] ∧
        e.on CIST.STATUS_AUTO = d.on WELL.STATUS_VMAIN_LOW ∧ e.on CIST.STATUS_SUSP_PEND = false ∧ e.cist.op = none ∧ e.cist.seq = .idle ∧
        e.cist.lines = d.cist.lines ∧ e = { d with regs := e.regs, cist := e.cist }))

/-! ### Clepsydra (chapter 14) -/

/-- R23, R24, R317, R318, R320 to R325: a crystal edge advances TICK by one, by two in an inserted period and not at all in a swallowed one, and
everything that counts TICK follows; a FINE edge steps the FINE timers while a port is active; a copy of TICK that differs is outvoted, and
three that all differ take their median with a FATAL fault.  The unit step after PERIOD sets COUNT to 0, one after 0xFFFF_FFFF sets PASSED; a
match sets MATCH, counts, moves CMP by INTERVAL and stops or wakes as configured; a CMP written at or behind COUNT sets BEHIND and under CATCHUP
counts as a match; ARM sets CMP relative to COUNT; a deadline armed by a master expires with a DEADLINE record that names it, a disarm in time
leaves no record, and Lathe's monitors ignore both with OWNED. -/
def Obligations.TickTimersAndDeadlines : Prop :=
  (∀ s : State,
      let d := s.dev
      let acc := d.clep.acc + d.trim.natAbs
      let corrected := 32000000 ≤ acc
      let adv := if corrected then (if 0 ≤ d.trim then 2 else 0) else 1
      let edges (c : Instr) : Prop := Gives c s fun e => d.edged e adv ∧ e.clep.acc = if corrected then acc - 32000000 else acc
      (d.edgeQuiet → edges .tickEdge) ∧
      (d.edgeQuiet → corrected → edges .trimCorrection) ∧
      (¬ corrected → Gives .trimCorrection s fun e => e = d) ∧
      (d.sluice.fPending = false → d.spout.held = [] →
        (d.anyActive = false → Gives .fineEdge s fun e => e = d) ∧
        (d.anyActive = true → d.clep.timers = [] → Gives .fineEdge s fun e => e.tick = d.tick ∧ e.sram = d.sram ∧ e.cores = d.cores ∧ e.flumes = d.flumes ∧
          ∀ n, n < 16 →
            (d.on (TIM.CFG_SRC n) = false → e.rd (TIM.COUNT_COUNT n) = d.rd (TIM.COUNT_COUNT n) ∧ e.timerDue n = ⟨0, false⟩) ∧
            (d.on (TIM.CFG_SRC n) = true → d.rd (TIM.COUNT_COUNT n) < d.rd (TIM.PERIOD_PERIOD n) → d.stepped e n (d.rd (TIM.COUNT_COUNT n) + 1)))) ∧
      (∀ a b c : BitVec 48,
        let all (e : Dev) (v : BitVec 48) : Prop := e.clep = { d.clep with tickA := v, tickB := v, tickC := v }
        let out (v : BitVec 48) (copy : Nat) : Prop := d.freshLog → Gives (.tickVote a b c) s fun e => all e v ∧ e.on CLEP.EVENTS_VOTE = true ∧
          d.logs e (mkUnitFault 0x18 20 copy (v.toNat % 2 ^ 32) 0) ∧ regsBut d e (CLEP.EVENTS_at :: logRegs) ∧
          e = { d with regs := e.regs, clep := e.clep, sluice := e.sluice, well := e.well }
        (a = b → b = c → Gives (.tickVote a b c) s fun e => e = d) ∧
        (a = b → b ≠ c → out a 2) ∧ (a = c → a ≠ b → out a 1) ∧ (b = c → a ≠ b → out b 0) ∧
        (a ≠ b → a ≠ c → b ≠ c → d.canLog → (∀ p, (d.rfp p).tx = ⟨[], none, none⟩) → Gives (.tickVote a b c) s fun e =>
          (∃ v, all e v ∧ (v = a ∨ v = b ∨ v = c) ∧ min (min a.toNat b.toNat) c.toNat < v.toNat ∧ v.toNat < max (max a.toNat b.toNat) c.toNat) ∧
          d.tells e (mkUnitFault 0x20 20 0 20 0x10) ∧ e.on SLUICE.STATUS_FATAL = true ∧ e.sluice.fPending = true))) ∧
  (∀ s : State,
      let d := s.dev
      (∀ n : Fin 16,
        let t := d.timerDue n
        let count := d.rd (TIM.COUNT_COUNT n)
        let period := d.rd (TIM.PERIOD_PERIOD n)
        let only (e : Dev) (l : List Nat) : Prop := regsBut d e l ∧ e = { d with regs := e.regs, clep := { d.clep with timers := e.clep.timers } }
        (t.owed = 0 ∨ t.matchDue = true ∨ (count ≠ period ∧ count ≠ 0xFFFFFFFF) → Gives (.timerWrap n) s fun e => e = d) ∧
        (t = ⟨1, false⟩ → count = period ∨ count = 0xFFFFFFFF → Gives (.timerWrap n) s fun e => d.stepped e n 0 ∧
          (e.on (TIM.STATUS_PASSED n) = (d.on (TIM.STATUS_PASSED n) || count != period)) ∧ only e [TIM.COUNT_at n, TIM.STATUS_at n]) ∧
        (t.matchDue = false → Gives (.timerMatch n) s fun e => e = d) ∧
        (t = ⟨0, true⟩ → d.power = 0 → Gives (.timerMatch n) s fun e => d.matched e n (d.rd (TIM.CMP_CMP n)) ∧ e.timerDue n = ⟨0, false⟩ ∧
          only e [TIM.STATUS_at n, TIM.CMP_at n, TIM.CFG_at n, WELL.PEND_at]) ∧
        (d.blockOpen 2 = true → t = ⟨0, false⟩ →
          (∀ v : Word,
            let dist := (v.toNat + 2 ^ 32 - count) % 2 ^ 32
            (1 ≤ dist → dist < 2 ^ 31 → Gives (.cmpWrite n v) s fun e => e.rd (TIM.CMP_CMP n) = v.toNat ∧ only e [TIM.CMP_at n]) ∧
            (dist = 0 ∨ 2 ^ 31 ≤ dist → d.on (TIM.CFG_CATCHUP n) = false → Gives (.cmpWrite n v) s fun e => e.rd (TIM.CMP_CMP n) = v.toNat ∧
              e.on (TIM.STATUS_BEHIND n) = true ∧ only e [TIM.CMP_at n, TIM.STATUS_at n]) ∧
            (dist = 0 ∨ 2 ^ 31 ≤ dist → d.on (TIM.CFG_CATCHUP n) = true → d.power = 0 → Gives (.cmpWrite n v) s fun e => d.matched e n v.toNat ∧
              e.on (TIM.STATUS_BEHIND n) = true ∧ only e [TIM.STATUS_at n, TIM.CMP_at n, TIM.CFG_at n, WELL.PEND_at])) ∧
          (∀ delta : Word, Gives (.timerArm n delta) s fun e =>
            e.rd (TIM.CMP_CMP n) = (count + max 1 delta.toNat) % (period + 1) ∧ only e [TIM.CMP_at n])) ∧
        (d.blockOpen 2 = true → t = ⟨0, true⟩ → d.power = 0 → ∀ v : Word, v.toNat = count → d.on (TIM.CFG_CATCHUP n) = false → Gives (.cmpWrite n v) s fun e =>
          e.rd (TIM.CMP_CMP n) = v.toNat ∧ e.on (TIM.STATUS_MATCH n) = true ∧ e.on (TIM.STATUS_BEHIND n) = true ∧
          e.rd (TIM.STATUS_MATCHES n) = (d.rd (TIM.STATUS_MATCHES n) + 1) % 256)) ∧
      (∀ m : Fin 64,
        let v := d.mon m
        let others (e : Dev) : Prop := ∀ x, x ≠ m.val → e.mon x = d.mon x
        (d.blockOpen 2 = true → v.due = false →
          (∀ (who : Master) (dl : Word),
            (d.latheMon m = true → Gives (.dmonArm who m dl) s fun e => e = d.setF CLEP.EVENTS_OWNED) ∧
            (d.latheMon m = false → Gives (.dmonArm who m dl) s fun e => (e.mon m).armed = true ∧ (e.mon m).expired = false ∧ (e.mon m).due = false ∧
              (e.mon m).agent = who.agent ∧ (e.mon m).agentNo = who.agentNo ∧
              ((e.mon m).atNext = true ↔ (dl.toNat + 2 ^ 32 - d.tick32) % 2 ^ 32 = 0 ∨ 2 ^ 31 ≤ (dl.toNat + 2 ^ 32 - d.tick32) % 2 ^ 32) ∧
              e.rd (CLEP.DMON_DEADLINE m) = dl.toNat ∧ others e ∧ regsBut d e [CLEP.DMON_at m] ∧
              e = { d with regs := e.regs, clep := { d.clep with dmon := e.clep.dmon } })) ∧
          (let c : Instr := .dmonDisarm (decide (32 ≤ m.val)) (BitVec.ofNat 32 (2 ^ (m.val % 32)));
            (d.latheMon m = true → Gives c s fun e => e = d.setF CLEP.EVENTS_OWNED) ∧
            (d.latheMon m = false → v.armed = true → Gives c s fun e => (e.mon m).armed = false ∧ (e.mon m).atNext = false ∧ others e ∧
              e = { d with clep := { d.clep with dmon := e.clep.dmon } }) ∧
            (d.latheMon m = false → v.armed = false → v.expired = false → Gives c s fun e => e = d))) ∧
        (v.due = false → Gives (.deadlineExpiry m) s fun e => e = d) ∧
        (v.due = true → d.canLog → Gives (.deadlineExpiry m) s fun e => (e.mon m).armed = false ∧ (e.mon m).expired = true ∧ (e.mon m).due = false ∧ others e ∧
          d.tells e { mkFault 0x07 20 m (d.rd (CLEP.DMON_DEADLINE m)) v.handle.toNat with agent := v.agent, agentNo := v.agentNo } ∧
          e.rd CLEP.DMON_MISSES_COUNT = min (d.rd CLEP.DMON_MISSES_COUNT + 1) (2 ^ CLEP.DMON_MISSES_COUNT.width - 1) ∧ e.on CLEP.EVENTS_MISS = true ∧
          (e.rd WELL.PEND_SOURCES).testBit 2 = true)))

/-- R319, R326 to R331: the calendar carries like a clock at a second boundary and fires an alarm whose enabled fields match; writes are taken whole or
refused with REJECT; a read of SUBSEC or TICK_LO captures its snapshot; a measurement proposes TRIM − round(32 × error) from mains edges or
network marks, fails with NOREF, RANGE or ABORTED, and changes TRIM only by APPROVE or AUTO. -/
def Obligations.CalendarAndTrim : Prop :=
  ∀ s : State,
    let d := s.dev
    let open2 := d.blockOpen 2 = true
    let time (e : Dev) (h m x : Nat) : Prop := e.rd CAL.TIME_HOUR = h ∧ e.rd CAL.TIME_MIN = m ∧ e.rd CAL.TIME_SEC = x
    let date (e : Dev) (y m x w : Nat) : Prop := e.rd CAL.DATE_YEAR = y ∧ e.rd CAL.DATE_MONTH = m ∧ e.rd CAL.DATE_DAY = x ∧ e.rd CAL.WEEKDAY_DAY = w
    let hh := d.rd CAL.TIME_HOUR
    let mm := d.rd CAL.TIME_MIN
    let ss := d.rd CAL.TIME_SEC
    let yy := d.rd CAL.DATE_YEAR
    let mo := d.rd CAL.DATE_MONTH
    let dd := d.rd CAL.DATE_DAY
    let wd := d.rd CAL.WEEKDAY_DAY
    let wd' := if wd < 6 then wd + 1 else 0
    let silent := d.on CAL.ALARM_SEC_EN = false ∧ d.on CAL.ALARM_MIN_EN = false ∧ d.on CAL.ALARM_HOUR_EN = false ∧ d.on CAL.ALARM_DAY_EN = false
    let boundary (P : Dev → Prop) : Prop := Gives .secondBoundary s fun e => P e ∧ e.clep = { d.clep with secondDue := false } ∧
      regsBut d e [CAL.TIME_at, CAL.DATE_at, CAL.WEEKDAY_at, CAL.STATUS_at] ∧ e = { d with regs := e.regs, clep := e.clep }
    (d.clep.secondDue = false → Gives .secondBoundary s fun e => e = d) ∧
    (d.clep.secondDue = true → silent →
      (ss < 59 → boundary fun e => time e hh mm (ss + 1) ∧ date e yy mo dd wd) ∧
      (59 ≤ ss → mm < 59 → boundary fun e => time e hh (mm + 1) 0 ∧ date e yy mo dd wd) ∧
      (59 ≤ ss → 59 ≤ mm → hh < 23 → boundary fun e => time e (hh + 1) 0 0 ∧ date e yy mo dd wd) ∧
      (59 ≤ ss → 59 ≤ mm → 23 ≤ hh →
        (dd < daysIn yy mo → boundary fun e => time e 0 0 0 ∧ date e yy mo (dd + 1) wd') ∧
        (daysIn yy mo ≤ dd → mo < 12 → boundary fun e => time e 0 0 0 ∧ date e yy (mo + 1) 1 wd') ∧
        (daysIn yy mo ≤ dd → 12 ≤ mo → yy < 9999 → boundary fun e => time e 0 0 0 ∧ date e (yy + 1) 1 1 wd') ∧
        (daysIn yy mo ≤ dd → 12 ≤ mo → 9999 ≤ yy → boundary fun e => time e 0 0 0 ∧ date e 0 1 1 wd' ∧ e.on CAL.STATUS_WRAP = true))) ∧
    (d.clep.secondDue = true → ss < 59 → d.power = 0 → d.on CAL.ALARM_SEC_EN = true → d.on CAL.ALARM_MIN_EN = false → d.on CAL.ALARM_HOUR_EN = false →
      d.on CAL.ALARM_DAY_EN = false → Gives .secondBoundary s fun e => time e hh mm (ss + 1) ∧
        (d.rd CAL.ALARM_SEC = ss + 1 → e.on CAL.STATUS_ALARM = true ∧ (e.rd WELL.PEND_SOURCES).testBit 1 = true) ∧
        (d.rd CAL.ALARM_SEC ≠ ss + 1 → e.on CAL.STATUS_ALARM = d.on CAL.STATUS_ALARM ∧ e.rd WELL.PEND_SOURCES = d.rd WELL.PEND_SOURCES)) ∧
    (open2 → d.clep.secondDue = false → ∀ v : Word,
      let rejects (c : Instr) : Prop := Gives c s fun e => e = d.setF CAL.STATUS_REJECT
      (let h := v.toNat / 2 ^ 16 % 32
        let m := v.toNat / 256 % 64
        let x := v.toNat % 64
        let ok := h ≤ 23 ∧ m ≤ 59 ∧ x ≤ 59
        (ok → Gives (.timeWrite v) s fun e => time e h m x ∧ e.rd CAL.SUBSEC_SUBSEC = 0 ∧ regsBut d e [CAL.TIME_at, CAL.SUBSEC_at] ∧ e = { d with regs := e.regs }) ∧
        (¬ ok → rejects (.timeWrite v))) ∧
      (let y := v.toNat / 2 ^ 16 % 16384
        let m := v.toNat / 256 % 16
        let x := v.toNat % 32
        let ok := y ≤ 9999 ∧ 1 ≤ m ∧ m ≤ 12 ∧ 1 ≤ x ∧ x ≤ daysIn y m
        (ok → Gives (.dateWrite v) s fun e => date e y m x wd ∧ regsBut d e [CAL.DATE_at] ∧ e = { d with regs := e.regs }) ∧
        (¬ ok → rejects (.dateWrite v))) ∧
      (v.toNat % 8 ≤ 6 → Gives (.weekdayWrite v) s fun e => e.rd CAL.WEEKDAY_DAY = v.toNat % 8 ∧ regsBut d e [CAL.WEEKDAY_at] ∧ e = { d with regs := e.regs }) ∧
      (v.toNat % 8 = 7 → rejects (.weekdayWrite v)) ∧
      (Gives .subsecRead s fun e => e.readOut = ⟨d.reg CAL.SUBSEC_at, .raw⟩ ∧ e.reg CAL.TIME_SNAP_at = d.reg CAL.TIME_at ∧
        e.reg CAL.DATE_SNAP_at = d.reg CAL.DATE_at ∧ regsBut d e [CAL.TIME_SNAP_at, CAL.DATE_SNAP_at] ∧ e = { d with regs := e.regs, readOut := e.readOut })) ∧
    (open2 → Gives .tickLoRead s fun e => e.readOut = ⟨BitVec.ofNat 32 d.tick, .raw⟩ ∧ e.rd CLEP.TICK_HI_SNAP_HI = d.tick / 2 ^ 32 ∧
      e.rd CLEP.TICK_HI_SNAP_FRAC = d.frac ∧ regsBut d e [CLEP.TICK_HI_SNAP_at] ∧ e = { d with regs := e.regs, readOut := e.readOut }) ∧
    (open2 → Gives .measGo s fun e => (∃ m, e.clep.meas = some m ∧ m.net = d.on CLEP.MEAS_CTRL_SRC ∧ m.hz = (if d.on CLEP.MEAS_CTRL_HZ60 then 60 else 50) ∧
        m.window = max 16 (d.rd CLEP.MEAS_CTRL_WINDOW) ∧ m.started = false) ∧ e.rd CLEP.MEAS_STATUS_STATE = 1 ∧ e.on CLEP.MEAS_STATUS_APPLIED = false ∧
      regsBut d e [CLEP.MEAS_STATUS_at] ∧ e = { d with regs := e.regs, clep := e.clep }) ∧
    (d.clep.meas = none → Gives .noref s fun e => e = d) ∧
    (∀ m, d.clep.meas = some m →
      let rounds (span x : Nat) : Int := d.trim - roundDiv (32000000 * ((span : Int) - x)) x
      let closes (c : Instr) (span x : Nat) : Prop :=
        (-16384 ≤ rounds span x → rounds span x ≤ 16384 → Gives c s fun e => d.measDone e (rounds span x)) ∧
        (rounds span x < -16384 ∨ 16384 < rounds span x → Gives c s fun e => d.measFailed e 2)
      (m.net = true → Gives .noref s fun e => e = d) ∧
      (m.net = false → 2 * 2 ^ 25 ≤ (d.tick * 1024 + 1023 - m.last) * m.hz → Gives .noref s fun e => d.measFailed e 1) ∧
      (open2 → ∀ v, Gives (.trimWrite v) s fun e => e.rd CLEP.TRIM_VALUE = v.toNat % 65536 ∧ d.measFailed e 3) ∧
      (∀ f : BitVec 10, let now := (d.atFrac f).now
        let kept (e : Dev) (m' : Meas) : Prop := e = { d.atFrac f with clep := { (d.atFrac f).clep with meas := some m' } }
        (m.net = true → Gives (.mainsEdge f) s fun e => e = d.atFrac f) ∧
        (m.net = false → m.started = false → Gives (.mainsEdge f) s fun e => kept e { m with started := true, first := now, last := now, edges := 0 }) ∧
        (m.net = false → m.started = true → (now - m.last) * m.hz * 10 < 4 * 2 ^ 25 → Gives (.mainsEdge f) s fun e => e = d.atFrac f) ∧
        (m.net = false → m.started = true → 4 * 2 ^ 25 ≤ (now - m.last) * m.hz * 10 → m.edges + 1 ≠ m.window * m.hz → Gives (.mainsEdge f) s fun e =>
          kept e { m with last := now, edges := m.edges + 1 }) ∧
        (m.net = false → m.started = true → 4 * 2 ^ 25 ≤ (now - m.last) * m.hz * 10 → m.edges + 1 = m.window * m.hz →
          closes (.mainsEdge f) (now - m.first) (m.window * 32768 * 1024))) ∧
      (open2 → m.net = true → ∀ v : Word, let net := (d.reg CLEP.NET_TX_at).toNat
        let dn := (net + 2 ^ 32 - m.net0) % 2 ^ 32
        let dl := signed 32 (v.toNat + 2 ^ 32 - m.loc0)
        (m.started = false → Gives (.netMark v) s fun e => e.reg CLEP.LOC_RX_at = v ∧ e.clep.meas = some { m with started := true, net0 := net, loc0 := v.toNat } ∧
          regsBut d e [CLEP.LOC_RX_at]) ∧
        (m.started = true → 2 ^ 31 ≤ dn ∨ dl ≤ 0 → Gives (.netMark v) s fun e => d.measFailed e 2) ∧
        (m.started = true → dn < 2 ^ 31 → 0 < dl → dn < m.window * 32768 → Gives (.netMark v) s fun e => e.clep = d.clep ∧ e.reg CLEP.LOC_RX_at = v ∧ regsBut d e [CLEP.LOC_RX_at]) ∧
        (m.started = true → dn < 2 ^ 31 → 0 < dl → m.window * 32768 ≤ dn → 0 < dn → let x : Int := d.trim - roundDiv (32000000 * (dl * 1024 - (dn * 1024 : Nat))) (dn * 1024);
          -16384 ≤ x → x ≤ 16384 → Gives (.netMark v) s fun e => e.rd CLEP.MEAS_STATUS_STATE = 2 ∧ e.rd CLEP.PROPOSAL_VALUE = twos 16 x ∧ e.clep.meas = none))) ∧
    (open2 → (d.rd CLEP.MEAS_STATUS_STATE = 2 → Gives .approve s fun e => e.rd CLEP.TRIM_VALUE = d.rd CLEP.PROPOSAL_VALUE ∧ regsBut d e [CLEP.TRIM_at] ∧
        e = { d with regs := e.regs }) ∧
      (d.rd CLEP.MEAS_STATUS_STATE ≠ 2 → Gives .approve s fun e => e = d) ∧
      (d.clep.meas = none → ∀ v, Gives (.trimWrite v) s fun e => e.rd CLEP.TRIM_VALUE = v.toNat % 65536 ∧ regsBut d e [CLEP.TRIM_at] ∧ e = { d with regs := e.regs }))

/-! ### Spout and the serial ports (chapter 16) -/

/-- R360 to R369, R374, R375: the engine takes the first waiting packet and turns away one with a bad length, CRC or opcode; each hard opcode it has
taken has its effect and one reply, which the UART and the QSP slave hold until it is sent, an Aqueduct port sends from its buffer and the air
takes as one group; a soft command is forwarded, refused at once, answered by firmware or timed out. -/
def Obligations.SpoutEngine : Prop :=
  ∀ s : State,
    let d := s.dev
    let gives (c : Instr) (P : Dev → Prop) : Prop := Gives c s P
    let d0 := d.counted
    let waiting := d.spout.held.filter fun h => h.phase == 0
    let byte (n : Nat) : Byte := BitVec.ofNat 8 n
    (d.engineUp = false ∨ d.taken ≠ none ∨ waiting = [] → gives .engineTake fun e => e = d) ∧
    (∀ h, d.engineUp = true → d.taken = none → waiting.head? = some h →
      let whole := 4 ≤ h.octets.length ∧ h.len ≤ 1024 ∧ 6 + h.len ≤ h.octets.length
      let crc := leAt h.octets (4 + h.len) 2 = crc16 (h.octets.take (4 + h.len))
      (¬ whole → gives .engineTake fun e => e = (d.inc SPOUT.RX_ERR_COUNT).answerCmd h 3 []) ∧
      (whole → ¬ crc → gives .engineTake fun e => e = (d.inc SPOUT.RX_ERR_COUNT).answerCmd h 1 []) ∧
      (whole → crc → h.opcode < 0x40 → hardListed h.opcode = false → gives .engineTake fun e => e = d.answerCmd h 2 []) ∧
      (whole → crc → h.opcode < 0x40 → hardListed h.opcode = true → lengthGood h.opcode h.params = false → gives .engineTake fun e =>
        e = (d.inc SPOUT.RX_ERR_COUNT).answerCmd h 3 []) ∧
      (whole → crc → 0x40 ≤ h.opcode ∨ (hardListed h.opcode = true ∧ lengthGood h.opcode h.params = true) → gives .engineTake fun e =>
        e.spout.held = d.spout.held.map (fun x => if x.src == h.src then { x with phase := 1 } else x) ∧ e = { d with spout := { d.spout with held := e.spout.held } })) ∧
    (d.taken = none → ∀ c ∈ [Instr.ping, .info, .read, .readFix, .readTag, .write, .writeFix, .modify, .fill, .cistProg, .cistErase, .spoutOptWrite, .optLock,
      .power, .resetCore, .factory, .echo, .softForward], gives c fun e => e = d) ∧
    (∀ (h : HeldCmd) (x : Dev) (st : Nat) (data : List Byte), st ≠ 1 → st ≠ 6 → h.thenReset = false →
      let reply := replyOctets h.opcode h.seq st data
      let sent := x.heldBecomes h { h with phase := 3, reply := reply }
      let buf := x.rd (SPOUT.AQBUF_ADDR (h.src - 2))
      let fl := x.rd (AQUA.FLUMES_TX_FLUME (h.src - 2))
      let out := x.rd SPOUT.OTA_OUT_FLUME
      let padded := reply ++ List.replicate (16 - reply.length) 0#8
      (h.src ≤ 1 → x.answerCmd h st data = sent) ∧
      (h.src = 2 ∨ h.src = 3 → buf ≠ 0 → x.takesGroup fl 4 → let e := x.answerCmd h st data
        e.spout = sent.spout ∧ e.sram = (x.sramWrites (buf - buf % 4) (bytesWords padded)).sram ∧
        e.flume fl = (x.flume fl).withGroup [⟨Word.ofNat (0xFFFF0000 + h.seq), .nat⟩, ⟨Word.ofNat buf, .dptr⟩,
          ⟨Word.ofNat (h.back.toNat % 65536 * 65536 + padded.length * 16 + 4), .raw⟩, ⟨Word.ofNat (x.rd SPOUT.AQ_HOPS), .raw⟩]) ∧
      (h.src = 4 → x.takesGroup out (1 + (bytesWords reply).length) → let e := x.answerCmd h st data
        e.spout.held = x.spout.held.filter (fun y => y.src != 4) ∧ e.flume out = (x.flume out).withGroup (⟨h.back, .nat⟩ :: bytesWords reply) ∧ e.sram = x.sram)) ∧
    (∀ h, let a := leAt h.params 0 4
      let n := leAt h.params 4 2
      let k := (h.params.length - 6) / 4
      let m := engineMaster h.src
      let ok (e x : Dev) (st : Nat) (data : List Byte) : Prop := e = x.answerCmd h st data
      (d.engaged h 0x00 → gives .ping fun e => ok e d0 0 (octetsOf (d0.reg SYS.ID_at) ++ [1#8, 0#8, byte (transportOf h.src), byte (d0.rd CORES.BOOT_STATE)])) ∧
      (d.engaged h 0x01 → gives .info fun e => let r := (Dev.engineReads s.cells d0 m
          [0x0A000000, 0x0A000004, WELL.RESET_CAUSE_at, SLUICE.STATUS_at, WELL.STATUS_at, REPAIR.SPARES_at]);
        ok e r.2 0 (r.1.flatMap fun w => octetsOf w.data)) ∧
      (d.engaged h 0x3F → gives .echo fun e => ok e d0 0 h.params) ∧
      (d.engaged h 0x02 → d.cleanRun a n → gives .read fun e =>
        ok e d0 (if (List.range n).any fun i => (d.word (a + 4 * i)).tag == .poison then 8 else 0) (d.runData a n)) ∧
      (d.engaged h 0x02 → n = 1 → a % 4 ≠ 0 → gives .read fun e => ok e (d0.busFault m a 0) 8 [0#8, 0#8, 0#8, 0#8]) ∧
      (d.engaged h 0x03 → d.cleanRun a 1 → gives .readFix fun e =>
        ok e d0 (if (d.word a).tag = .poison ∧ 0 < n then 8 else 0) ((List.replicate n (octetsOf (d.word a).data)).flatten)) ∧
      (d.engaged h 0x04 → d.cleanRun a n → gives .readTag fun e =>
        ok e d0 0 ((List.range n).flatMap fun i => octetsOf (d.word (a + 4 * i)).data ++ [byte (d.word (a + 4 * i)).tag.code])) ∧
      (d.engaged h 0x05 → a % 4 = 0 → a + 4 * k ≤ 0x600000 → (∀ i, i < k → d.bankDead (a + 4 * i) = false) → leAt h.params 4 1 < 16 → gives .write fun e =>
        ∃ x, d0.wrote x a (writeWords h.params (Tag.ofCode (leAt h.params 4 1))) ∧ x = { d0 with sram := x.sram } ∧ ok e x 0 []) ∧
      (d.engaged h 0x06 → a % 4 = 0 → a < 0x600000 → d.bankDead a = false → leAt h.params 4 1 < 16 → ∀ w, (writeWords h.params (Tag.ofCode (leAt h.params 4 1))).getLast? = some w →
        gives .writeFix fun e => ∃ x, d0.wrote x a [w] ∧ x = { d0 with sram := x.sram } ∧ ok e x 0 []) ∧
      (d.engaged h 0x08 → a % 4 = 0 → a + 4 * n ≤ 0x600000 → (∀ i, i < n → d.bankDead (a + 4 * i) = false) → leAt h.params 10 1 < 16 → gives .fill fun e =>
        ∃ x, d0.wrote x a (List.replicate n ⟨Word.ofNat (leAt h.params 6 4), Tag.ofCode (leAt h.params 10 1)⟩) ∧ x = { d0 with sram := x.sram } ∧ ok e x 0 []) ∧
      (d.engaged h 0x07 → d.cleanRun a 1 → let old := (d.word a).data
        let new := (old &&& Word.ofNat (leAt h.params 4 4)) ||| Word.ofNat (leAt h.params 8 4)
        ((d.word a).tag = .poison → gives .modify fun e => ok e d0 8 (octetsOf old ++ octetsOf new)) ∧
        ((d.word a).tag ≠ .poison → gives .modify fun e => ∃ x, d0.wrote x a [⟨new, (d.word a).tag⟩] ∧ x = { d0 with sram := x.sram } ∧
          ok e x 0 (octetsOf old ++ octetsOf new))) ∧
      (d.engaged h 0x20 → gives .power fun e => let x := d0.modeWrite (Word.ofNat (leAt h.params 0 1));
        ok e x 0 (octetsOf (x.regRead s.cells WELL.STATUS_at).1)) ∧
      (d.engaged h 0x30 → (h.params = [0xA5#8, 0x5A#8] → gives .resetCore fun e => e = d0.answerCmd { h with thenReset := true } 0 []) ∧
        (h.params ≠ [0xA5#8, 0x5A#8] → gives .resetCore fun e => ok e d0 5 [])) ∧
      (d.engaged h 0x3E → let grant := h.params = [0x7E#8, 0xE7#8] ∧ d.well.testmode = true ∧ s.cells.testClosed = false
        (grant → gives .factory fun e => ok e (d0.setF SLUICE.STATUS_FACTORY) 0 []) ∧ (¬ grant → gives .factory fun e => ok e d0 5 [])) ∧
      (let b := leAt h.params 0 2
        let busy (c : Instr) : Prop := gives c fun e => ∃ x, x.rd CIST.ERR_CODE = 2 ∧ x.cist.op = d.cist.op ∧ x.cist.seq = .idle ∧ x.sram = d.sram ∧ ok e x 4 [2#8]
        let begins (c : Instr) (op addr : Nat) : Prop := gives c fun e => ∃ x o, x.cist.op = some o ∧ o.op = op ∧ o.addr = addr ∧ x.cist.seq = .idle ∧
          x.sram = d.sram ∧ ok e x 0 [0#8]
        let free := d.cistFenced = false ∧ d.cist.op = none ∧ d.cist.susp = none ∧ d.on CIST.STATUS_AUTO = false ∧ d.tick ≤ d.cist.seqTick + 32
        let held := d.cistFenced = false ∧ d.cist.op ≠ none ∧ d.tick ≤ d.cist.seqTick + 32
        let line := (a - 0x08000000) / 32
        (d.engaged h 0x11 → b < 512 → (held → busy .cistErase) ∧
          (free → d.cist.sector = 0 → d.cist.journal0.length < 512 → begins .cistErase 2 (0x08000000 + 0x10000 * b))) ∧
        (d.engaged h 0x12 → (held → busy .spoutOptWrite) ∧
          (free → a % 64 = 0 → 0x500000 ≤ a → a + 0x8000 ≤ 0x600000 → s.cells.lockWord = 0#11 → s.cells.testClosed = false →
            (∀ i, i < 8192 → d.cleanWord (a + 4 * i) ∧ (d.word (a + 4 * i)).tag.bad = false) → begins .spoutOptWrite 3 0x0A000000)) ∧
        (d.engaged h 0x13 → (held → busy .optLock) ∧
          (free → s.cells.lockWord = 0#11 → a % 0x800 ≠ 0 → begins .optLock 4 0x0A000000)) ∧
        (d.engaged h 0x10 → (held → busy .cistProg) ∧
          (free → 0x08000000 ≤ a → a + 32 ≤ 0x0A000000 → a % 32 = 0 → line ≠ 722 → line ≠ 1325 → line / 2048 ∉ d.cist.incomplete →
            Store.get (shippedLine line) d.cist.lines line = none → gives .cistProg fun e =>
              (∃ o, e.cist.op = some o ∧ o.op = 1 ∧ o.addr = a ∧ ∀ i, i < 8 → o.line.extractLsb' (32 * i) 32 = Word.ofNat (leAt h.params (4 + 4 * i) 4)) ∧
              e.spout.held = d.spout.held.map (fun x => if x.src == h.src then { x with phase := 5, softAt := d.now } else x) ∧ e.sram = d.sram)) ∧
        (d.engineUp = true → d.taken = some h → h.phase = 5 → h.opcode = 0x10 →
          (∀ l, d.cist.op = none → Store.get (shippedLine line) d.cist.lines line = some l → a = 0x08000000 + 32 * line → line < 0x100000 →
            gives .cistProg fun e => ok e d 0 [byte (if l.torn then d.rd CIST.ERR_CODE else 0)]) ∧
          (d.cist.op ≠ none → h.softAt + 3355 ≤ d.tick * 1024 → gives .cistProg fun e => ok e d 6 [byte (d.rd CIST.ERR_CODE)])))) ∧
    (∀ h, d.engineUp = true → d.taken = some h → 0x40 ≤ h.opcode →
      let fl := d.rd SPOUT.CFG_SOFT_FLUME
      let none_ := d.rd CORES.BOOT_STATE ≠ 1 ∨ d.on SLUICE.STATUS_STOPPED = true ∨ d.on SPOUT.CFG_SOFT_EN = false ∨ d.flumeOn fl = false
      let pending := ∃ x ∈ d.spout.held, x.phase = 2
      let ws := [(⟨Word.ofNat (transportOf h.src * 2 ^ 28 + (if h.src = 3 then 2 ^ 27 else 0) + h.seq * 2 ^ 16 + h.opcode * 2 ^ 8), .nat⟩ : TWord),
        ⟨Word.ofNat h.len, .nat⟩] ++ bytesWords h.params
      (none_ → gives .softForward fun e => e = d.answerCmd h 7 []) ∧
      (¬ none_ → pending ∨ d.flumeFree fl < ws.length → gives .softForward fun e => e = d.answerCmd h 4 []) ∧
      (¬ none_ → ¬ pending → d.takesGroup fl ws.length → gives .softForward fun e => e.flume fl = (d.flume fl).withGroup ws ∧
        (∀ m, m ≠ fl → e.flume m = d.flume m) ∧ e.rd SPOUT.RX_OK_COUNT = min (d.rd SPOUT.RX_OK_COUNT + 1) (2 ^ SPOUT.RX_OK_COUNT.width - 1) ∧
        e.spout.held = d.spout.held.map (fun x => if x.src == h.src then { x with phase := 2, softAt := d.tick } else x))) ∧
    (let fl := d.rd SPOUT.CFG_SOFT_REPLY
      let idle := d.spout.held.filter fun x => x.phase == 2
      (d.engineUp = false ∨ d.flumeOn fl = false ∨ (d.flume fl).pkts = 0 → gives .softAnswer fun e => e = d) ∧
      (∀ (w0 w1 : Word) (ws : List TWord) (rest : List FEntry), d.engineUp = true → d.on SLUICE.STATUS_STOPPED = false →
        d.waits fl (⟨w0, .nat⟩ :: ⟨w1, .nat⟩ :: ws) rest → (∀ w ∈ ws, w.tag = .bytes) →
        let n := 2 + ws.length
        let data := (ws.flatMap fun w => octetsOf w.data).take w1.toNat
        (∀ h, idle.head? = some h → (w0.toNat / 2 ^ 16 % 256 = h.seq ∧ w0.toNat / 2 ^ 8 % 256 = h.opcode) → w1.toNat ≤ 1024 → w1.toNat ≤ 4 * ws.length →
          gives .softAnswer fun e => e = (d.consumed fl n rest).answerCmd h (w0.toNat % 256) data) ∧
        (idle = [] ∨ (∃ h, idle.head? = some h ∧ (w0.toNat / 2 ^ 16 % 256 ≠ h.seq ∨ w0.toNat / 2 ^ 8 % 256 ≠ h.opcode ∨ 1024 < w1.toNat ∨ 4 * ws.length < w1.toNat)) →
          gives .softAnswer fun e => e = (d.consumed fl n rest).setF SPOUT.EVENTS_SOFTSTRAY)) ∧
      (idle = [] → gives .softTimeout fun e => e = d) ∧
      (∀ h, idle.head? = some h → d.engineUp = true →
        (d.tick < h.softAt + max 1 (d.rd SPOUT.SOFT_TMO_TICKS) → gives .softTimeout fun e => e = d) ∧
        (h.softAt + max 1 (d.rd SPOUT.SOFT_TMO_TICKS) ≤ d.tick → gives .softTimeout fun e => e = d.answerCmd h 6 [])))

/-- R302, R367, R369 to R373, R375 to R377: an octet on SPOUT_RX fires its wake source, whether or not the UART takes it; a whole packet is held by a free transport and dropped by one that holds a command; a gap, a framing error or
an oversize header ends a partial UART packet; the QSP slave buffers, submits and flushes CMD_FIFO, gives the reply word by word and counts a
transaction cut short; a QSP master runs one indirect frame at a time, refusing what R376 refuses, and its read data stand in SRAM as BYTES;
the direct map answers from its prefetch lines.  The octets that an external memory gives a map load without them are free (log entry 6). -/
def Obligations.SerialPorts : Prop :=
  ∀ s : State,
    let d := s.dev
    let gives (c : Instr) (P : Dev → Prop) : Prop := Gives c s P
    let still (c : Instr) : Prop := Gives c s fun e => e = d
    let runs (c : Instr) (P : Dev → Prop) : Prop := ∃ t, exec c s = .next t ∧ t.pending = s.pending ∧ P t.dev
    let dropped (e : Dev) : Prop := e = (d.inc SPOUT.DROPS_COUNT).setF SPOUT.EVENTS_DROP
    let holds (e x : Dev) (h : HeldCmd) : Prop := e = { x with spout := { x.spout with held := x.spout.held ++ [h] } }
    let spout (e : Dev) (v : Spout) : Prop := e = { d with spout := v }
    let edge := d.wr WELL.PEND_SOURCES (d.rd WELL.PEND_SOURCES ||| 2 ^ 10)
    let edged (c : Instr) : Prop := gives c fun e => e = edge
    let heard (x : Dev) : Dev := { x with spout := { x.spout with uartIgnore := false } }
    let up := d.on SPOUT.CFG_UART_EN = true ∧ d.power = 0 ∧ d.well.coreOff = false ∧ d.unitFenced 12 0 = false
    still (.packetComplete (.uart [])) ∧ (gives (.uartGap false) fun e => e = heard d) ∧
    (d.on SPOUT.CFG_UART_EN = false → d.power = 0 → d.well.coreOff = false →
      (∀ o, o ≠ [] → edged (.packetComplete (.uart o))) ∧ edged .uartFramingError ∧ (∀ a b c, edged (.uartOversizeHeader a b c)) ∧
      gives (.uartGap true) fun e => e = heard edge) ∧
    (1 ≤ d.power → d.power ≤ 2 → d.wakeable 10 d.power → d.well.levels = 0#16 → d.well.coreOff = false → ∀ o, o ≠ [] →
      gives (.packetComplete (.uart o)) fun e => d.waking e (2 ^ 10) false false ∧ e.spout = d.spout) ∧
    (up →
      (∀ o : List Byte, d.spout.uartIgnore = false → 6 ≤ o.length → leAt o 2 2 ≤ 1024 → o.length = 6 + leAt o 2 2 →
        ((∀ x ∈ d.spout.held, x.src ≠ 0) → gives (.packetComplete (.uart o)) fun e => holds e edge ⟨0, o, 0, [], 0#32, 0, false⟩) ∧
        ((∃ x ∈ d.spout.held, x.src = 0) → gives (.packetComplete (.uart o)) fun e => e = (edge.inc SPOUT.DROPS_COUNT).setF SPOUT.EVENTS_DROP)) ∧
      (∀ o : List Byte, o ≠ [] → d.spout.uartIgnore = true ∨ o.length < 6 ∨ 1024 < leAt o 2 2 ∨ o.length ≠ 6 + leAt o 2 2 → edged (.packetComplete (.uart o))) ∧
      (gives .uartFramingError fun e => e = (edge.setF SPOUT.EVENTS_FRAMING).inc SPOUT.RX_ERR_COUNT) ∧
      (d.spout.uartIgnore = false → gives (.uartGap true) fun e => e = ((heard edge).setF SPOUT.EVENTS_FRAMING).inc SPOUT.RX_ERR_COUNT) ∧
      (d.spout.uartIgnore = true → gives (.uartGap true) fun e => e = heard edge) ∧
      (∀ (op seq : Byte) (len : BitVec 16), let c : Instr := .uartOversizeHeader op seq len
        (d.spout.uartIgnore = true ∨ len.toNat ≤ 1024 → edged c) ∧
        (d.spout.uartIgnore = false → 1024 < len.toNat →
          ((∃ x ∈ d.spout.held, x.src = 0) → gives c fun e => e.spout = { d.spout with uartIgnore := true } ∧ e.on SPOUT.EVENTS_DROP = true) ∧
          ((∀ x ∈ d.spout.held, x.src ≠ 0) → gives c fun e => e.spout.uartIgnore = true ∧ e.spout.held = d.spout.held ++
            [⟨0, [op, seq] ++ octetsLow 2 len.toNat, 3, replyOctets op.toNat seq.toNat 3 [], 0#32, 0, false⟩])))) ∧
    (let n := d.rd SPOUT.OTA_IN_FLUME;
      (d.engineUp = false ∨ d.on SPOUT.OTA_EN = false ∨ (∃ x ∈ d.spout.held, x.src = 4) ∨ d.flumeOn n = false ∨ (d.flume n).pkts = 0 →
        still (.packetComplete .ota)) ∧
      (∀ (cookie : Word) (ws : List TWord) (rest : List FEntry), d.engineUp = true → d.on SPOUT.OTA_EN = true → (∀ x ∈ d.spout.held, x.src ≠ 4) →
        d.waits n (⟨cookie, .nat⟩ :: ws) rest →
        ((∀ w ∈ ws, w.tag = .bytes) → gives (.packetComplete .ota) fun e =>
          holds e (d.consumed n (1 + ws.length) rest) ⟨4, ws.flatMap fun w => octetsOf w.data, 0, [], cookie, 0, false⟩) ∧
        ((∃ w ∈ ws, w.tag = .poison) → gives (.packetComplete .ota) fun e => e.on SPOUT.EVENTS_DROP = true ∧ e.spout = d.spout ∧
          e.flumes = (d.consumed n (1 + ws.length) rest).flumes))) ∧
    ((∀ x ∈ d.spout.held, x.src = 0 → x.phase ≠ 3) → still .uartReplySent) ∧
    (∀ h, d.heldCmd 0 = some h → h.phase = 3 →
      (h.thenReset = false → gives .uartReplySent fun e => e = d.released 0) ∧
      (h.thenReset = true → d.power = 0 → d.well.mainOff = false → runs .uartReplySent fun e => e.started 5 ∧ e.spout = Spout.reset ∧ e.sram = d.sram)) ∧
    (d.on QSP.CFG_S_EN = false → (∀ w, still (.cmdFifoWrite w)) ∧ still .sctrlGo ∧ still .sctrlAck ∧ still .sctrlFlush ∧
      gives .replyFifoRead fun e => e = { d with readOut := ⟨0#32, .raw⟩ }) ∧
    (d.slaveOpen →
      ((∀ x ∈ d.spout.held, x.src ≠ 1) →
        (∀ w : Word, gives (.cmdFifoWrite w) fun e => spout e { d.spout with cmdFifo := (d.spout.cmdFifo ++ (octetsOf w).reverse).take 1032 }) ∧
        (gives .sctrlGo fun e => spout e { d.spout with cmdFifo := [], replyPos := 0, held := d.spout.held ++ [⟨1, d.spout.cmdFifo, 0, [], 0#32, 0, false⟩] }) ∧
        still .sctrlAck ∧ (gives .replyFifoRead fun e => e.readOut = ⟨0#32, .raw⟩ ∧ e.spout = d.spout)) ∧
      (gives .sctrlFlush fun e => spout e { d.spout with cmdFifo := [] }) ∧
      (∀ h, d.heldCmd 1 = some h →
        (∀ w, gives (.cmdFifoWrite w) fun e => e.spout.busyWr = min 255 (d.spout.busyWr + 1) ∧ e.spout.cmdFifo = d.spout.cmdFifo ∧ e.spout.held = d.spout.held ∧ e.on QSP.EVENTS_SLAVE_ERR = true ∧
          regsBut d e [QSP.EVENTS_at]) ∧ still .sctrlGo ∧
        (h.phase ≠ 3 → still .sctrlAck) ∧
        (h.phase = 3 → h.thenReset = false → (gives .sctrlAck fun e => e = d.released 1) ∧
          gives .replyFifoRead fun e => spout { e with readOut := d.readOut } { d.spout with replyPos := d.spout.replyPos + 4 } ∧ e.readOut.tag = .raw ∧
            ∀ i, i < 4 → e.readOut.data.extractLsb' (24 - 8 * i) 8 = h.reply.getD (d.spout.replyPos + i) 0#8) ∧
        (h.phase = 3 → h.thenReset = true → d.power = 0 → d.well.mainOff = false →
          (runs .sctrlAck fun e => e.started 5 ∧ e.spout = Spout.reset) ∧
          (h.reply.length ≤ d.spout.replyPos + 4 → runs .replyFifoRead fun e => e.started 5 ∧ e.spout = Spout.reset))) ∧
      (∀ cut : Fin 4, gives (.selectRise cut) fun e => e.well.levels.getLsbD 11 = false ∧ e.spout.held = d.spout.held ∧ e.spout.cmdFifo = d.spout.cmdFifo ∧
        (cut = 0 → e.spout = d.spout) ∧
        (cut ≠ 0 → e.spout.shorts = min 255 (d.spout.shorts + if cut = 1 then 1 else 0) ∧ e.on QSP.EVENTS_SLAVE_ERR = true ∧
          e.spout.partials = min 255 (d.spout.partials + if cut = 1 then 0 else 1)))) ∧
    (d.slaveServes = false → ∀ cut, gives (.selectRise cut) fun e => e.well.levels.getLsbD 11 = false ∧ e.spout = d.spout) ∧
    (d.blockOpen 16 = true →
      (∀ n : Fin 2,
        let buf := d.rd (QSP.BUF_ADDR n)
        let len := min 4096 (d.rd (QSP.LEN_OCTETS n))
        let words := (len + 3) / 4
        let placed := buf % 4 = 0 ∧ (buf + 4 * words ≤ 0x400000 ∨ (0x500000 ≤ buf ∧ buf + 4 * words ≤ 0x600000))
        let on := d.on (QSP.CTRL_EN n) = true ∧ d.unitFenced 13 n = false
        let starts (f : QspFrame) : Prop := gives (.qspGo n) fun e => e = { d with qsp := { d.qsp with frames := Store.put none d.qsp.frames n (some f) } }
        (¬ on → still (.qspGo n)) ∧
        (on → d.qspFrame n ≠ none → gives (.qspGo n) fun e => e.rd (QSP.STATUS_RESULT n) = 3 ∧ e.qsp = d.qsp) ∧
        (on → d.qspFrame n = none → ¬ (n = 0 ∧ d.on QSP.MAP_EN = true) →
          (len ≠ 0 → ¬ placed → gives (.qspGo n) fun e => d.frameEnds e n 1 0) ∧
          (d.on (QSP.PHASE_DIR n) = false → len = 0 ∨ placed → starts ⟨false, len, buf, [], d.frameWire n [], false⟩) ∧
          (d.on (QSP.PHASE_DIR n) = true → len ≠ 0 → placed → ∀ o, d.holdsFrame buf len o → starts ⟨true, len, buf, o, d.frameWire n o, false⟩) ∧
          (d.on (QSP.PHASE_DIR n) = true → len ≠ 0 → placed → d.cleanRun buf words →
            ((∃ i, i < words ∧ (d.word (buf + 4 * i)).tag ≠ .bytes ∧ (d.word (buf + 4 * i)).tag.bad = false) → gives (.qspGo n) fun e => d.frameEnds e n 1 0) ∧
            ((∀ i, i < words → (d.word (buf + 4 * i)).tag = .bytes ∨ (d.word (buf + 4 * i)).tag.bad = true) →
              (∃ i, i < words ∧ (d.word (buf + 4 * i)).tag.bad = true) → gives (.qspGo n) fun e => d.frameEnds e n 2 0))) ∧
        (on → n = 0 → d.on QSP.MAP_EN = true → d.qspFrame n = none → gives (.qspGo n) fun e => d.frameEnds e n 4 0) ∧
        (d.qspFrame n = none → still (.qspAbort n)) ∧
        (∀ f, d.qspFrame n = some f → gives (.qspAbort n) fun e =>
          e = { d with qsp := { d.qsp with frames := Store.put none d.qsp.frames n (some { f with aborting := true }) } })) ∧
      (∀ (m : Master) (a : BitVec 24) (data : List Byte),
        let off := a.toNat
        let line := off - off % 32
        let at_ (l : List Byte) : TWord := ⟨wordOfOctets ((l.drop (off % 32)).take 4), .raw⟩
        let c : Instr := .mapLoad ⟨m, a⟩ data
        (off % 4 ≠ 0 → d.canLog → gives c fun e => e.readOut = ⟨0#32, .poison⟩ ∧
          d.faulted { e with readOut := d.readOut } ⟨0x06, 21, m.inst, 0x0C000000 + off, 0, 0, m.agent, m.agentNo, false⟩) ∧
        (off % 4 = 0 → d.on QSP.MAP_EN = true → d.unitFenced 13 0 = false →
          (∀ l, (d.qsp.lines.filter fun x => x.1 == line).head? = some l → gives c fun e => e = { d with readOut := at_ l.2 }) ∧
          (d.qsp.lines.filter (fun x => x.1 == line) = [] → d.on QSP.MAP_PREFETCH = false → data.length = 32 → gives c fun e =>
            e = { d with readOut := at_ data, qsp := { d.qsp with lines := ((line, data) :: d.qsp.lines).take 2, cont := d.on QSP.MAP_CONT } }) ∧
          (d.qsp.lines.filter (fun x => x.1 == line) = [] → d.on QSP.MAP_PREFETCH = true → data.length = 64 → gives c fun e =>
            e = { d with readOut := at_ (data.take 32),
                         qsp := { d.qsp with lines := [((line + 32) % 2 ^ 24, data.drop 32), (line, data.take 32)], cont := d.on QSP.MAP_CONT } }))) ∧
      (gives .mapEnClear fun e => e.on QSP.MAP_EN = false ∧ regsBut d e [QSP.MAP_at] ∧ (d.on QSP.MAP_EN = true → e.qsp = { d.qsp with cont := false }) ∧
        (d.on QSP.MAP_EN = false → e.qsp = d.qsp) ∧ e = { d with regs := e.regs, qsp := e.qsp })) ∧
    (∀ (n : Fin 2) (count : BitVec 13) (data : List Byte),
      let c : Instr := .qspFrameDone n count data
      (d.qspFrame n = none → still c) ∧
      (∀ f, d.qspFrame n = some f → f.len ≤ 4096 →
        let len := if f.aborting then min count.toNat f.len else f.len
        (f.isWrite = true → gives c fun e => d.frameEnds e n (if f.aborting then 5 else 0) len ∧ e.sram = d.sram) ∧
        (f.isWrite = false → data.length = len → d.writable f.buf len → gives c fun e => d.frameEnds e n (if f.aborting then 5 else 0) len ∧
          d.wrote e f.buf (bytesWords data))))

/-- R383 to R388, R390 to R394: Amelaog refuses a header at the first check of R385 that fails, opens reception into the target slot with its
blocks erased and the header programmed, takes each chunk by the first row of R387 that applies, and closes with COMPLETE or BODYMAC; it
refuses an activation by R391, converts the slots of a set from the highest number down and its lanes one by one, begins the trial, and ends it
by confirmation or by fallback.  That a header is refused with BUSY in every state but IDLE, that a set's notice names a free TYPE and an accepted
header's notice a free code, and what stands in the workspace, are the model's (log entry 3). -/
def Obligations.Amelaog : Prop :=
  ∀ s : State,
    let d := s.dev
    let gives (c : Instr) (P : Dev → Prop) : Prop := Gives c s P
    let still (c : Instr) : Prop := Gives c s fun e => e = d
    let hdr : Hdr := d.am.hdr
    let t := hdr.type
    let mac (o : List Nat) : List Nat := d.mac16 hdr.key o
    let set := d.amSet
    let lines (l : List Nat) (m : Nat → BitVec 256) (e : Dev) : Prop := d.cistFenced = false → (∀ u ∈ set, d.newSlot u < 2) → ∀ u ∈ set,
      ∀ x ∈ l, d.cistLine (cistLineNo (regionEnd u (d.newSlot u) - x)) = none →
        e.cistLine (cistLineNo (regionEnd u (d.newSlot u) - x)) = some ⟨m u, 0#256, false⟩
    (d.blockOpen 0 = true →
      (∀ a : Word, let c : Instr := .amHeader a
        let n := a.toNat
        let typ := d.peekType n
        let refused (code : Nat) : Prop := gives c fun e => d.hdrRefused e typ code
        (d.amState ≠ 0 → gives c fun e => d.amTells e 1 typ 0x01 0 ∧ e.on SYS.AM_EVENTS_REFUSED = true ∧ e.amState = d.amState ∧ e.am = d.am ∧
          e.cist = d.cist ∧ e.sram = d.sram) ∧
        (d.amState = 0 → ¬ d.amReady → refused 0x02) ∧
        (d.amState = 0 → d.amReady → ¬ (n % 4 = 0 ∧ n + 256 ≤ 0x600000) → refused 0x03) ∧
        (d.amState = 0 → d.amReady → n + 256 ≤ 0x600000 → d.cleanRun n 64 →
          let h : Hdr := (List.range 64).map fun i => (d.word (n + 4 * i)).data
          let bad := ∃ i, i < 64 ∧ (d.word (n + 4 * i)).tag.bad = true
          let step := d.rd SYS.ID_STEP
          let target := bitsOf (h.w 2) 0 16 = 0x7740 ∧ bitsOf (h.w 2) 16 8 ≤ step ∧ step ≤ bitsOf (h.w 2) 24 8
          let upTo (k : Nat) : Prop := ¬ bad ∧ (4 < k → h.w 0 = 0x49505548#32) ∧ (5 < k → bitsOf (h.w 1) 0 8 = 1) ∧
            (6 < k → 1 ≤ h.type ∧ h.type ≤ 6) ∧ (7 < k → target) ∧ (8 < k → h.badLayout = false) ∧ (9 < k → (d.keyEntry h.key).valid = true)
          (bad → refused 0x03) ∧ (upTo 4 → h.w 0 ≠ 0x49505548#32 → refused 0x04) ∧ (upTo 5 → bitsOf (h.w 1) 0 8 ≠ 1 → refused 0x05) ∧
          (upTo 6 → ¬ (1 ≤ h.type ∧ h.type ≤ 6) → refused 0x06) ∧ (upTo 7 → ¬ target → refused 0x07) ∧
          (upTo 8 → h.badLayout = true → refused 0x08) ∧ (upTo 9 → (d.keyEntry h.key).valid = false → refused 0x09) ∧
          (upTo 10 → gives c fun e => e.amState = 1 ∧ e.am = { d.am with hdr := h, jobTick := d.tick } ∧ regsBut d e [SYS.AM_STATUS_at] ∧
            e = { d with regs := e.regs, am := e.am }))) ∧
      (∀ a : Word, let c : Instr := .amChunk a
        let n := a.toNat
        let answers (typ code index : Nat) : Prop := gives c fun e => d.amTells e 2 typ code index ∧ e.am = d.am ∧ e.cist = d.cist ∧ e.sram = d.sram ∧
          (d.canNote → regsBut d e [SYS.AM_RESULT_at, SYS.AM_EVENTS_at])
        (d.amState ≠ 3 → answers 0 0x11 0) ∧
        (d.amState = 3 → d.am.chunk ≠ none → answers t 0x01 0) ∧
        (d.amState = 3 → d.am.chunk = none →
          (¬ (n % 4 = 0 ∧ n + 32 ≤ 0x600000) → answers t 0x12 0) ∧
          (n + 32 ≤ 0x600000 → d.cleanRun n 8 →
            let i := (d.word (n + 16)).data.toNat
            let len := if i < hdr.chunks then min 512 (hdr.length - 512 * i) else 0
            let bad := ∃ j, j < 8 + (len + 3) / 4 ∧ (d.word (n + 4 * j)).tag.bad = true
            let octets (from_ m : Nat) : List Nat :=
              (List.range m).flatMap fun j => (octetsOf (d.word (n + from_ + 4 * j)).data).map BitVec.toNat
            (¬ n + 32 + len ≤ 0x600000 → answers t 0x12 (i % 1024)) ∧
            (n + 32 + len ≤ 0x600000 → d.cleanRun (n + 32) ((len + 3) / 4) →
              (bad → answers t 0x12 (i % 1024)) ∧
              (¬ bad → hdr.chunks ≤ i → answers t 0x13 (i % 1024)) ∧
              (¬ bad → i < hdr.chunks → (∃ m, Store.get none d.am.stored i = some m) → answers t 0x14 (i % 1024)) ∧
              (¬ bad → i < hdr.chunks → Store.get none d.am.stored i = none → ((d.word (n + 20)).data, (d.word (n + 24)).data) ≠ hdr.build →
                answers t 0x15 (i % 1024)) ∧
              (¬ bad → i < hdr.chunks → Store.get none d.am.stored i = none → ((d.word (n + 20)).data, (d.word (n + 24)).data) = hdr.build →
                gives c fun e => e = { d with am := { d.am with jobTick := d.tick,
                                                                chunk := some ⟨i, octets 0 4, (octets 16 (4 + (len + 3) / 4)).take (16 + len)⟩ } }))))) ∧
      (∀ types : BitVec 6, let c : Instr := .activate types
        let l := imageTypes.filter fun u => types.getLsbD (u - 1)
        let slot (u : Nat) : Nat := (d.waitingSlot u).getD 0
        let refused (code : Nat) : Prop := gives c fun e => d.amTellsSet e code ∧ e.on SYS.AM_EVENTS_REFUSED = true ∧ e.amState = d.amState ∧ e.am = d.am ∧
          e.cist = { d.cist with buffers := e.cist.buffers } ∧ e.cores.spareHeld = d.cores.spareHeld ∧ ∀ u, 1 ≤ u → u ≤ 6 → e.inforce u = d.inforce u
        let compatible := d.setCompatible l = true ∧ orderSet (d.typeDep l) 6 l ≠ none
        (types = 0#6 → still c) ∧
        (types ≠ 0#6 → d.cleanImages l →
          (d.amState ≠ 0 → refused 0x24) ∧
          (d.amState = 0 → (∃ u ∈ l, d.waitingSlot u = none) → refused 0x21) ∧
          (d.amState = 0 → (∀ u ∈ l, d.waitingSlot u ≠ none) →
            (¬ compatible → refused 0x22) ∧
            (compatible → (∃ k ∈ setKinds l, d.rd (spareFld k) = 15) → refused 0x23) ∧
            (compatible → (∀ k ∈ setKinds l, d.rd (spareFld k) ≠ 15) →
              ((∀ u ∈ l, u = 1 ∨ u = 2 ∨ u = 4) → (∀ k ∈ setKinds l, d.serving k ≠ []) → gives c fun e =>
                e.amState = 4 ∧ (∀ u ∈ l, e.newSlot u = slot u ∧ e.oldSlot u = d.inforce u) ∧ e.am.order = d.groupOrder l ∧ e.am.since = d.tick ∧
                e.am.undo = [((d.groupOrder l).headD 0, [])] ∧ e.rd SYS.AM_STATUS_SET = types.toNat ∧ e.cores = { d.cores with spareHeld := setKinds l } ∧
                regsBut d e [SYS.AM_STATUS_at]) ∧
              (∀ u, u = 5 ∨ u = 6 → l = [u] → gives c fun e => let secs := (d.imageHdr u (slot u) 15).toNat
                e.amState = 5 ∧ e.inforce u = slot u ∧ e.reg (SYS.AM_VER_at (u - 1)) = d.imageVersion u (slot u) ∧
                e.reg (SYS.AM_IF_at (u - 1)) = d.imageProvides u (slot u) ∧ e.rd SYS.AM_STATUS_SET = types.toNat ∧
                e.reg SYS.AM_TRIAL_END_at = Word.ofNat (d.tick + 32768 * if secs = 0 then 600 else secs) ∧
                regsBut d e [SYS.AM_STATUS_at, SYS.AM_SLOTS_at, SYS.AM_VER_at (u - 1), SYS.AM_IF_at (u - 1), SYS.AM_TRIAL_END_at]))))) ∧
      (∀ v : Word, let c : Instr := .healthConfirm v
        (d.amState = 5 ∧ v = 0x4F4B2121#32 → gives c fun e => d.amDone e 0x25 ∧ (∀ u, 1 ≤ u → u ≤ 6 → e.inforce u = d.inforce u) ∧
          lines [64] (fun u => markLine [2#32,
            Word.ofNat (([0, 1, 2].map fun k => if d.imageConfirmed u k then d.imageSeq u k else 0).foldl max 0 + 1)]) e) ∧
        (¬ (d.amState = 5 ∧ v = 0x4F4B2121#32) → gives c fun e => e = d.setF SYS.AM_EVENTS_STRAYCONF)) ∧
      (d.amState = 4 ∨ d.amState = 5 → gives .revert fun e => d.fellBack e 1) ∧
      (d.amState ≠ 4 → d.amState ≠ 5 → still .revert)) ∧
    (d.blockOpen 0 = false → (∀ a, still (.amHeader a)) ∧ (∀ a, still (.amChunk a)) ∧ (∀ m, still (.activate m)) ∧ (∀ v, still (.healthConfirm v)) ∧
      still .revert) ∧
    (let ended := d.amState = 5 ∧ ticksFrom (d.reg SYS.AM_TRIAL_END_at).toNat d.tick32 < 2 ^ 31;
      (ended → gives .trialExpiry fun e => d.fellBack e 0) ∧ (¬ ended → still .trialExpiry)) ∧
    (d.amState = 1 →
      let dup := ∃ k, k < 2 ∧ d.imageValid t k = true ∧ d.imageRevoked t k = false ∧ (d.imageHdr t k 18, d.imageHdr t k 19) = hdr.build
      let old := d.inforce t ≠ 3 ∧ (hdr.w 3).toNat ≤ (d.imageVersion t (d.inforce t)).toNat
      let right := mac (hdr.octets.take 240) = hdr.octets.drop 240
      let refused (code : Nat) : Prop := gives .receptionOpen fun e => d.hdrRefused e t code
      (¬ right → refused 0x0A) ∧ (right → dup → refused 0x0B) ∧ (right → ¬ dup → old → refused 0x0C) ∧
      (right → ¬ dup → ¬ old → d.hdrCompatible hdr = false → refused 0x0D) ∧
      (right → ¬ dup → ¬ old → d.hdrCompatible hdr = true → gives .receptionOpen fun e =>
        e.amState = 2 ∧ e.on SYS.AM_STATUS_CIST_OWN = true ∧ e.rd SYS.AM_STATUS_TYPE = t % 8 ∧
        e.am = { d.am with slot := d.targetSlot t, stored := [], chunk := none } ∧ regsBut d e [SYS.AM_STATUS_at] ∧
        e = { d with regs := e.regs, am := e.am })) ∧
    (d.amState ≠ 1 → ¬ (d.amState = 2 ∧ d.cistFree = true) → still .receptionOpen) ∧
    (d.amState = 2 → d.cistFree = true → 1 ≤ t → t ≤ 6 → d.am.slot < 2 → gives .receptionOpen fun e =>
      let a := regionAt t d.am.slot
      (∃ code, code < 64 ∧ d.amTells e 1 t code 0) ∧ e.amState = 3 ∧ e.on SYS.AM_STATUS_CIST_OWN = false ∧ e.rd SYS.AM_PROGRESS_STORED = 0 ∧
      e.rd SYS.AM_PROGRESS_MISSING = 0 ∧ e.am = d.am ∧
      (∀ i, i < 8 → e.cistLine (cistLineNo (a + 32 * i)) = some ⟨lineOf ((hdr.drop (8 * i)).take 8), 0#256, false⟩) ∧
      (∀ n, cistLineNo a + 8 ≤ n → n < cistLineNo (regionEnd t d.am.slot) → e.cistLine n = none) ∧
      (∀ n, n < cistLineNo a ∨ cistLineNo (regionEnd t d.am.slot) ≤ n → e.cistLine n = d.cistLine n) ∧
      (d.rd SYS.AM_WORK_ADDR % 4 = 0 → d.rd SYS.AM_WORK_ADDR + 8256 ≤ 0x600000 →
        ∀ x, x < d.rd SYS.AM_WORK_ADDR ∨ d.rd SYS.AM_WORK_ADDR + 8256 ≤ x → x % 4 = 0 → e.word x = d.word x)) ∧
    ((d.am.chunk = none ∨ d.amState ≠ 3 ∨ d.cistFree = false) → ∀ bad, still (.chunkStored bad)) ∧
    (∀ x : AmChunk, d.am.chunk = some x → d.amState = 3 → d.cistFree = true →
      let o := x.body.drop 16
      let n := (o.length + 31) / 32
      let a := regionAt t d.am.slot + 256 + 512 * x.index
      let stored := Store.put none d.am.stored x.index (some x.mac)
      let left := (List.range hdr.chunks).filter fun i => (Store.get none stored i).isNone
      let macs := (List.range hdr.chunks).flatMap fun i => (Store.get none stored i).getD []
      (mac x.body ≠ x.mac → ∀ bad, gives (.chunkStored bad) fun e => d.amTells e 2 t 0x16 (x.index % 1024) ∧ e.am = { d.am with chunk := none } ∧
        e.cist = d.cist ∧ e.sram = d.sram) ∧
      (mac x.body = x.mac → n ≤ 16 → x.index < 1024 →
        (∀ b : Fin 16, b < n → d.canLog → gives (.chunkStored (some b)) fun e => d.amCloses e t 0x17 x.index ∧ e.on CIST.EVENTS_ERR = true) ∧
        (left ≠ [] → gives (.chunkStored none) fun e =>
          d.amTells e 2 t 0x10 x.index ∧ e.amState = 3 ∧ e.am = { d.am with chunk := none, stored := stored } ∧
          e.rd SYS.AM_PROGRESS_STORED = min (d.rd SYS.AM_PROGRESS_STORED + 1) 1023 ∧ e.rd SYS.AM_PROGRESS_MISSING = left.headD 0 % 1024 ∧
          (∀ k, 32 * (k + 1) ≤ o.length → d.cistLine (cistLineNo (a + 32 * k)) = none →
            e.cistLine (cistLineNo (a + 32 * k)) = some ⟨lineOf ((List.range 8).map fun i =>
              wordOfOctets ((((o.drop (32 * k)).drop (4 * i)).take 4).map fun v => BitVec.ofNat 8 v)), 0#256, false⟩)) ∧
        (left = [] → 1 ≤ hdr.chunks →
          (mac macs ≠ (hdr.octets.drop 224).take 16 → gives (.chunkStored none) fun e =>
            e.rd SYS.AM_RESULT_CODE = 0x19 ∧ e.amState = 0 ∧ e.am = Am.reset ∧ e.on SYS.AM_EVENTS_REFUSED = true) ∧
          (mac macs = (hdr.octets.drop 224).take 16 → gives (.chunkStored none) fun e =>
            e.rd SYS.AM_RESULT_CODE = 0x18 ∧ e.amState = 0 ∧ e.am = Am.reset ∧ e.on SYS.AM_EVENTS_DONE = true ∧
            (d.cistLine (cistLineNo (regionEnd t d.am.slot - 96)) = none → a + 32 * n ≤ regionEnd t d.am.slot - 96 →
              ∃ crc, e.cistLine (cistLineNo (regionEnd t d.am.slot - 96)) =
                some ⟨markLine [1#32, crc, Word.ofNat hdr.length], 0#256, false⟩))))) ∧
    (∀ lost : Bool, let c : Instr := .chiselResultTimeout lost
      let late := lost = true ∨ d.am.jobTick + 32768 ≤ d.tick
      (¬ late ∨ (d.amState ≠ 1 ∧ d.am.chunk = none) → still c) ∧
      (late → d.amState = 1 → gives c fun e => d.hdrRefused e t 0x0E) ∧
      (late → d.amState ≠ 1 → ∀ x, d.am.chunk = some x → gives c fun e =>
        d.amTells e 2 t 0x0E (x.index % 1024) ∧ e.am = { d.am with chunk := none } ∧ e.amState = d.amState ∧ e.cist = d.cist)) ∧
    (∀ (g x : Nat) (l : List Nat) (r : List (Nat × List Nat)), d.amState = 4 → g = 1 ∨ g = 2 → d.am.order.head? = some g → d.am.undo = (g, l) :: r →
      x ∈ d.serving (g + 1) → x ∉ l → (∀ y ∈ d.serving (g + 1), x < y → y ∈ l) →
      let kp := d.newSlot g
      let readable := d.imageReadable g kp = true ∧ (g = 2 → d.imageReadable 4 (d.newSlot 4) = true)
      let spare := d.rd (spareFld (g + 1))
      let quiescent := d.slotState x = 0 ∨ d.slotState x = 2 ∨ d.slotState x = 3 ∨ d.slotState x = 4
      let last := ∀ y ∈ d.serving (g + 1), y ≠ x → y ∈ l
      let waited := d.am.since + max 1 (d.rd SYS.AM_CFG_QUIET) ≤ d.tick
      (¬ quiescent ∨ spare = 15 ∨ d.on CORES.PL_STATUS_BUSY = true ∨ d.running = false → still .slotConversion) ∧
      (quiescent ∨ ¬ waited → still .quietExpiry) ∧
      (¬ quiescent → waited → gives .quietExpiry fun e => d.fellBack e 2) ∧
      (quiescent → spare ≠ 15 → d.on CORES.PL_STATUS_BUSY = false → d.running = true →
        (¬ readable → gives .slotConversion fun e => d.fellBack e 4) ∧
        (readable → gives .slotConversion fun e =>
          let resume := if g ∈ set then d.imageResume g kp else d.imageResume 4 (d.newSlot 4)
          e.rd (assignFld x) = spare ∧ e.rd (spareFld (g + 1)) = d.rd (assignFld x) ∧ (∀ y, y < 12 → y ≠ x → e.rd (assignFld y) = d.rd (assignFld y)) ∧
          (e.slot x).pc = resume % progSize x ∧ (e.slot x).regs = (d.slot x).regs ∧ (e.slot x).depth = 0 ∧ (e.slot x).rcount = 0#32 ∧
          (e.slot x).rep = none ∧ (e.slot x).pend = none ∧ (e.slot x).rotations = (d.slot x).rotations + 1 ∧
          (e.slot x).flags.getLsbD flagINTRAP = false ∧ (e.slot x).flags.getLsbD flagINREP = false ∧
          e.slotState x = (if d.slotState x = 2 ∨ d.slotState x = 3 then 1 else d.slotState x) ∧
          (∀ y, y ≠ x → e.slot y = d.slot y) ∧ e.sram = d.sram ∧
          (¬ last → e.amState = 4 ∧ e.am.undo = (g, x :: l) :: r ∧ e.am.order = d.am.order ∧ e.am.since = d.tick ∧
            (g = 1 → ∀ i, i < 0x4000 → e.progWord (d.spareKey 0) i = BitVec.ofNat 14 (d.imageNum 1 kp (2 * i) 2 % 4096))) ∧
          (last → d.am.order = [g] → d.rd (assignFld x) ≠ 15 → kp < 4 → d.newSlot 4 < 4 →
            e.amState = 5 ∧ e.inforce g = kp ∧ (g = 2 → e.inforce 4 = d.newSlot 4) ∧ e.reg (CORES.IMGVER_at (g - 1)) = d.imageVersion g kp ∧
            e.reg (CORES.IFVER_at (g - 1)) = d.imageProvides g kp)))) ∧
    (∀ (g x : Nat) (l : List Nat) (r : List (Nat × List Nat)), d.amState = 6 → g = 1 ∨ g = 2 → d.am.undo = (g, x :: l) :: r → l ≠ [] → x ∉ l →
      x ∈ slotsOf (g + 1) →
      let spare := d.rd (spareFld (g + 1))
      let quiescent := d.slotState x = 0 ∨ d.slotState x = 2 ∨ d.slotState x = 3 ∨ d.slotState x = 4
      let back (e : Dev) : Prop := e.amState = 6 ∧ e.am.undo = (g, l) :: r ∧ e.am.since = d.tick ∧ ∀ y, y ≠ x → e.slot y = d.slot y
      (d.on CORES.PL_STATUS_BUSY = false → d.running = true →
        (spare = 15 → gives .slotConversion fun e => back e ∧ (e.slot x).pc = 0 ∧ e.slotState x = 1 ∧ e.rd (assignFld x) = d.rd (assignFld x)) ∧
        (spare ≠ 15 → quiescent → gives .slotConversion fun e => back e ∧ e.rd (assignFld x) = spare ∧ e.rd (spareFld (g + 1)) = d.rd (assignFld x) ∧
          (e.slot x).regs = (d.slot x).regs)) ∧
      (spare ≠ 15 → ¬ quiescent → d.am.since + max 1 (d.rd SYS.AM_CFG_QUIET) ≤ d.tick → gives .quietExpiry fun e => back e ∧
        e.rd (assignFld x) = spare ∧ e.slot x = Slot.reset ∧ e.slotState x = 1)) ∧
    (∀ n : Fin 72,
      let turn := (d.amState = 4 ∧ d.am.order.head? = some 3) ∨ (d.amState = 6 ∧ d.am.undo.head?.map Prod.fst = some 3)
      let others := ∃ m, m < 72 ∧ m ≠ n.val ∧ (d.lane m).state ≠ .fenced ∧ (d.lane m).converted = false
      (¬ (turn ∧ (d.lane n).converted = false ∧ d.laneTestable n = true) → still (.laneConversion n)) ∧
      (turn → (d.lane n).converted = false → d.laneTestable n = true → d.am.undo.head?.map Prod.fst = some 3 →
        (others → gives (.laneConversion n) fun e => e.lane n = { d.lane n with converted := true } ∧ (∀ m, m ≠ n.val → e.lane m = d.lane m) ∧
          e = { d with basin := e.basin }) ∧
        (¬ others → d.amState = 4 → d.am.order = [3] → d.newSlot 3 < 4 → gives (.laneConversion n) fun e => e.amState = 5 ∧ e.inforce 3 = d.newSlot 3) ∧
        (¬ others → d.amState = 6 → d.am.undo = [(3, [])] → d.oldSlot 3 < 4 → gives (.laneConversion n) fun e => d.amDone e 0x26 ∧ e.inforce 3 = d.oldSlot 3)))
end

