-- ==== Sys2Proof/Laws/State.lean ====
section
/-! SUPPORT. What an update of one part of the device leaves alone, one lemma per field and update, all true by definition.
The proofs stand in parentheses so that `simp` rewrites with them as equations, and the kernel never unfolds a chain of updates. -/

namespace Sys2Proof.Machine

/-! ### Register writes change registers only -/

@[simp] theorem Dev.setReg_sram (d : Dev) (a : Nat) (w : Word) : (d.setReg a w).sram = d.sram := (rfl)
@[simp] theorem Dev.setReg_flumes (d : Dev) (a : Nat) (w : Word) : (d.setReg a w).flumes = d.flumes := (rfl)
@[simp] theorem Dev.setReg_clep (d : Dev) (a : Nat) (w : Word) : (d.setReg a w).clep = d.clep := (rfl)
@[simp] theorem Dev.setReg_sluice (d : Dev) (a : Nat) (w : Word) : (d.setReg a w).sluice = d.sluice := (rfl)
@[simp] theorem Dev.setReg_well (d : Dev) (a : Nat) (w : Word) : (d.setReg a w).well = d.well := (rfl)
@[simp] theorem Dev.setReg_basin (d : Dev) (a : Nat) (w : Word) : (d.setReg a w).basin = d.basin := (rfl)
@[simp] theorem Dev.setReg_lathe (d : Dev) (a : Nat) (w : Word) : (d.setReg a w).lathe = d.lathe := (rfl)
@[simp] theorem Dev.setReg_rf (d : Dev) (a : Nat) (w : Word) : (d.setReg a w).rf = d.rf := (rfl)
@[simp] theorem Dev.setReg_weir (d : Dev) (a : Nat) (w : Word) : (d.setReg a w).weir = d.weir := (rfl)
@[simp] theorem Dev.setReg_junction (d : Dev) (a : Nat) (w : Word) : (d.setReg a w).junction = d.junction := (rfl)
@[simp] theorem Dev.setReg_chisel (d : Dev) (a : Nat) (w : Word) : (d.setReg a w).chisel = d.chisel := (rfl)
@[simp] theorem Dev.setReg_repair (d : Dev) (a : Nat) (w : Word) : (d.setReg a w).repair = d.repair := (rfl)
@[simp] theorem Dev.setReg_cores (d : Dev) (a : Nat) (w : Word) : (d.setReg a w).cores = d.cores := (rfl)
@[simp] theorem Dev.setReg_spout (d : Dev) (a : Nat) (w : Word) : (d.setReg a w).spout = d.spout := (rfl)
@[simp] theorem Dev.setReg_qsp (d : Dev) (a : Nat) (w : Word) : (d.setReg a w).qsp = d.qsp := (rfl)
@[simp] theorem Dev.setReg_aqua (d : Dev) (a : Nat) (w : Word) : (d.setReg a w).aqua = d.aqua := (rfl)
@[simp] theorem Dev.setReg_cist (d : Dev) (a : Nat) (w : Word) : (d.setReg a w).cist = d.cist := (rfl)
@[simp] theorem Dev.setReg_am (d : Dev) (a : Nat) (w : Word) : (d.setReg a w).am = d.am := (rfl)
@[simp] theorem Dev.setReg_pins (d : Dev) (a : Nat) (w : Word) : (d.setReg a w).pins = d.pins := (rfl)
@[simp] theorem Dev.setReg_readOut (d : Dev) (a : Nat) (w : Word) : (d.setReg a w).readOut = d.readOut := (rfl)
@[simp] theorem Dev.setReg_freeCount (d : Dev) (a : Nat) (w : Word) : (d.setReg a w).freeCount = d.freeCount := (rfl)

@[simp] theorem Dev.wr_sram (d : Dev) (f : Fld) (v : Nat) : (d.wr f v).sram = d.sram := (rfl)
@[simp] theorem Dev.wr_flumes (d : Dev) (f : Fld) (v : Nat) : (d.wr f v).flumes = d.flumes := (rfl)
@[simp] theorem Dev.wr_clep (d : Dev) (f : Fld) (v : Nat) : (d.wr f v).clep = d.clep := (rfl)
@[simp] theorem Dev.wr_sluice (d : Dev) (f : Fld) (v : Nat) : (d.wr f v).sluice = d.sluice := (rfl)
@[simp] theorem Dev.wr_well (d : Dev) (f : Fld) (v : Nat) : (d.wr f v).well = d.well := (rfl)
@[simp] theorem Dev.wr_basin (d : Dev) (f : Fld) (v : Nat) : (d.wr f v).basin = d.basin := (rfl)
@[simp] theorem Dev.wr_lathe (d : Dev) (f : Fld) (v : Nat) : (d.wr f v).lathe = d.lathe := (rfl)
@[simp] theorem Dev.wr_rf (d : Dev) (f : Fld) (v : Nat) : (d.wr f v).rf = d.rf := (rfl)
@[simp] theorem Dev.wr_weir (d : Dev) (f : Fld) (v : Nat) : (d.wr f v).weir = d.weir := (rfl)
@[simp] theorem Dev.wr_junction (d : Dev) (f : Fld) (v : Nat) : (d.wr f v).junction = d.junction := (rfl)
@[simp] theorem Dev.wr_chisel (d : Dev) (f : Fld) (v : Nat) : (d.wr f v).chisel = d.chisel := (rfl)
@[simp] theorem Dev.wr_repair (d : Dev) (f : Fld) (v : Nat) : (d.wr f v).repair = d.repair := (rfl)
@[simp] theorem Dev.wr_cores (d : Dev) (f : Fld) (v : Nat) : (d.wr f v).cores = d.cores := (rfl)
@[simp] theorem Dev.wr_spout (d : Dev) (f : Fld) (v : Nat) : (d.wr f v).spout = d.spout := (rfl)
@[simp] theorem Dev.wr_qsp (d : Dev) (f : Fld) (v : Nat) : (d.wr f v).qsp = d.qsp := (rfl)
@[simp] theorem Dev.wr_aqua (d : Dev) (f : Fld) (v : Nat) : (d.wr f v).aqua = d.aqua := (rfl)
@[simp] theorem Dev.wr_cist (d : Dev) (f : Fld) (v : Nat) : (d.wr f v).cist = d.cist := (rfl)
@[simp] theorem Dev.wr_am (d : Dev) (f : Fld) (v : Nat) : (d.wr f v).am = d.am := (rfl)
@[simp] theorem Dev.wr_pins (d : Dev) (f : Fld) (v : Nat) : (d.wr f v).pins = d.pins := (rfl)
@[simp] theorem Dev.wr_readOut (d : Dev) (f : Fld) (v : Nat) : (d.wr f v).readOut = d.readOut := (rfl)
@[simp] theorem Dev.wr_freeCount (d : Dev) (f : Fld) (v : Nat) : (d.wr f v).freeCount = d.freeCount := (rfl)

@[simp] theorem Dev.setF_sram (d : Dev) (f : Fld) : (d.setF f).sram = d.sram := (rfl)
@[simp] theorem Dev.setF_flumes (d : Dev) (f : Fld) : (d.setF f).flumes = d.flumes := (rfl)
@[simp] theorem Dev.setF_clep (d : Dev) (f : Fld) : (d.setF f).clep = d.clep := (rfl)
@[simp] theorem Dev.setF_sluice (d : Dev) (f : Fld) : (d.setF f).sluice = d.sluice := (rfl)
@[simp] theorem Dev.setF_well (d : Dev) (f : Fld) : (d.setF f).well = d.well := (rfl)
@[simp] theorem Dev.setF_basin (d : Dev) (f : Fld) : (d.setF f).basin = d.basin := (rfl)
@[simp] theorem Dev.setF_lathe (d : Dev) (f : Fld) : (d.setF f).lathe = d.lathe := (rfl)
@[simp] theorem Dev.setF_rf (d : Dev) (f : Fld) : (d.setF f).rf = d.rf := (rfl)
@[simp] theorem Dev.setF_weir (d : Dev) (f : Fld) : (d.setF f).weir = d.weir := (rfl)
@[simp] theorem Dev.setF_junction (d : Dev) (f : Fld) : (d.setF f).junction = d.junction := (rfl)
@[simp] theorem Dev.setF_chisel (d : Dev) (f : Fld) : (d.setF f).chisel = d.chisel := (rfl)
@[simp] theorem Dev.setF_repair (d : Dev) (f : Fld) : (d.setF f).repair = d.repair := (rfl)
@[simp] theorem Dev.setF_cores (d : Dev) (f : Fld) : (d.setF f).cores = d.cores := (rfl)
@[simp] theorem Dev.setF_spout (d : Dev) (f : Fld) : (d.setF f).spout = d.spout := (rfl)
@[simp] theorem Dev.setF_qsp (d : Dev) (f : Fld) : (d.setF f).qsp = d.qsp := (rfl)
@[simp] theorem Dev.setF_aqua (d : Dev) (f : Fld) : (d.setF f).aqua = d.aqua := (rfl)
@[simp] theorem Dev.setF_cist (d : Dev) (f : Fld) : (d.setF f).cist = d.cist := (rfl)
@[simp] theorem Dev.setF_am (d : Dev) (f : Fld) : (d.setF f).am = d.am := (rfl)
@[simp] theorem Dev.setF_pins (d : Dev) (f : Fld) : (d.setF f).pins = d.pins := (rfl)
@[simp] theorem Dev.setF_readOut (d : Dev) (f : Fld) : (d.setF f).readOut = d.readOut := (rfl)
@[simp] theorem Dev.setF_freeCount (d : Dev) (f : Fld) : (d.setF f).freeCount = d.freeCount := (rfl)

@[simp] theorem Dev.wrB_sram (d : Dev) (f : Fld) (b : Bool) : (d.wrB f b).sram = d.sram := (rfl)
@[simp] theorem Dev.wrB_flumes (d : Dev) (f : Fld) (b : Bool) : (d.wrB f b).flumes = d.flumes := (rfl)
@[simp] theorem Dev.wrB_clep (d : Dev) (f : Fld) (b : Bool) : (d.wrB f b).clep = d.clep := (rfl)
@[simp] theorem Dev.wrB_sluice (d : Dev) (f : Fld) (b : Bool) : (d.wrB f b).sluice = d.sluice := (rfl)
@[simp] theorem Dev.wrB_well (d : Dev) (f : Fld) (b : Bool) : (d.wrB f b).well = d.well := (rfl)
@[simp] theorem Dev.wrB_basin (d : Dev) (f : Fld) (b : Bool) : (d.wrB f b).basin = d.basin := (rfl)
@[simp] theorem Dev.wrB_lathe (d : Dev) (f : Fld) (b : Bool) : (d.wrB f b).lathe = d.lathe := (rfl)
@[simp] theorem Dev.wrB_rf (d : Dev) (f : Fld) (b : Bool) : (d.wrB f b).rf = d.rf := (rfl)
@[simp] theorem Dev.wrB_weir (d : Dev) (f : Fld) (b : Bool) : (d.wrB f b).weir = d.weir := (rfl)
@[simp] theorem Dev.wrB_junction (d : Dev) (f : Fld) (b : Bool) : (d.wrB f b).junction = d.junction := (rfl)
@[simp] theorem Dev.wrB_chisel (d : Dev) (f : Fld) (b : Bool) : (d.wrB f b).chisel = d.chisel := (rfl)
@[simp] theorem Dev.wrB_repair (d : Dev) (f : Fld) (b : Bool) : (d.wrB f b).repair = d.repair := (rfl)
@[simp] theorem Dev.wrB_cores (d : Dev) (f : Fld) (b : Bool) : (d.wrB f b).cores = d.cores := (rfl)
@[simp] theorem Dev.wrB_spout (d : Dev) (f : Fld) (b : Bool) : (d.wrB f b).spout = d.spout := (rfl)
@[simp] theorem Dev.wrB_qsp (d : Dev) (f : Fld) (b : Bool) : (d.wrB f b).qsp = d.qsp := (rfl)
@[simp] theorem Dev.wrB_aqua (d : Dev) (f : Fld) (b : Bool) : (d.wrB f b).aqua = d.aqua := (rfl)
@[simp] theorem Dev.wrB_cist (d : Dev) (f : Fld) (b : Bool) : (d.wrB f b).cist = d.cist := (rfl)
@[simp] theorem Dev.wrB_am (d : Dev) (f : Fld) (b : Bool) : (d.wrB f b).am = d.am := (rfl)
@[simp] theorem Dev.wrB_pins (d : Dev) (f : Fld) (b : Bool) : (d.wrB f b).pins = d.pins := (rfl)
@[simp] theorem Dev.wrB_readOut (d : Dev) (f : Fld) (b : Bool) : (d.wrB f b).readOut = d.readOut := (rfl)
@[simp] theorem Dev.wrB_freeCount (d : Dev) (f : Fld) (b : Bool) : (d.wrB f b).freeCount = d.freeCount := (rfl)

@[simp] theorem Dev.add_sram (d : Dev) (f : Fld) (k : Nat) : (d.add f k).sram = d.sram := (rfl)
@[simp] theorem Dev.add_flumes (d : Dev) (f : Fld) (k : Nat) : (d.add f k).flumes = d.flumes := (rfl)
@[simp] theorem Dev.add_clep (d : Dev) (f : Fld) (k : Nat) : (d.add f k).clep = d.clep := (rfl)
@[simp] theorem Dev.add_sluice (d : Dev) (f : Fld) (k : Nat) : (d.add f k).sluice = d.sluice := (rfl)
@[simp] theorem Dev.add_well (d : Dev) (f : Fld) (k : Nat) : (d.add f k).well = d.well := (rfl)
@[simp] theorem Dev.add_basin (d : Dev) (f : Fld) (k : Nat) : (d.add f k).basin = d.basin := (rfl)
@[simp] theorem Dev.add_lathe (d : Dev) (f : Fld) (k : Nat) : (d.add f k).lathe = d.lathe := (rfl)
@[simp] theorem Dev.add_rf (d : Dev) (f : Fld) (k : Nat) : (d.add f k).rf = d.rf := (rfl)
@[simp] theorem Dev.add_weir (d : Dev) (f : Fld) (k : Nat) : (d.add f k).weir = d.weir := (rfl)
@[simp] theorem Dev.add_junction (d : Dev) (f : Fld) (k : Nat) : (d.add f k).junction = d.junction := (rfl)
@[simp] theorem Dev.add_chisel (d : Dev) (f : Fld) (k : Nat) : (d.add f k).chisel = d.chisel := (rfl)
@[simp] theorem Dev.add_repair (d : Dev) (f : Fld) (k : Nat) : (d.add f k).repair = d.repair := (rfl)
@[simp] theorem Dev.add_cores (d : Dev) (f : Fld) (k : Nat) : (d.add f k).cores = d.cores := (rfl)
@[simp] theorem Dev.add_spout (d : Dev) (f : Fld) (k : Nat) : (d.add f k).spout = d.spout := (rfl)
@[simp] theorem Dev.add_qsp (d : Dev) (f : Fld) (k : Nat) : (d.add f k).qsp = d.qsp := (rfl)
@[simp] theorem Dev.add_aqua (d : Dev) (f : Fld) (k : Nat) : (d.add f k).aqua = d.aqua := (rfl)
@[simp] theorem Dev.add_cist (d : Dev) (f : Fld) (k : Nat) : (d.add f k).cist = d.cist := (rfl)
@[simp] theorem Dev.add_am (d : Dev) (f : Fld) (k : Nat) : (d.add f k).am = d.am := (rfl)
@[simp] theorem Dev.add_pins (d : Dev) (f : Fld) (k : Nat) : (d.add f k).pins = d.pins := (rfl)
@[simp] theorem Dev.add_readOut (d : Dev) (f : Fld) (k : Nat) : (d.add f k).readOut = d.readOut := (rfl)
@[simp] theorem Dev.add_freeCount (d : Dev) (f : Fld) (k : Nat) : (d.add f k).freeCount = d.freeCount := (rfl)

@[simp] theorem Dev.inc_sram (d : Dev) (f : Fld) : (d.inc f).sram = d.sram := (rfl)
@[simp] theorem Dev.inc_flumes (d : Dev) (f : Fld) : (d.inc f).flumes = d.flumes := (rfl)
@[simp] theorem Dev.inc_clep (d : Dev) (f : Fld) : (d.inc f).clep = d.clep := (rfl)
@[simp] theorem Dev.inc_sluice (d : Dev) (f : Fld) : (d.inc f).sluice = d.sluice := (rfl)
@[simp] theorem Dev.inc_well (d : Dev) (f : Fld) : (d.inc f).well = d.well := (rfl)
@[simp] theorem Dev.inc_basin (d : Dev) (f : Fld) : (d.inc f).basin = d.basin := (rfl)
@[simp] theorem Dev.inc_lathe (d : Dev) (f : Fld) : (d.inc f).lathe = d.lathe := (rfl)
@[simp] theorem Dev.inc_rf (d : Dev) (f : Fld) : (d.inc f).rf = d.rf := (rfl)
@[simp] theorem Dev.inc_weir (d : Dev) (f : Fld) : (d.inc f).weir = d.weir := (rfl)
@[simp] theorem Dev.inc_junction (d : Dev) (f : Fld) : (d.inc f).junction = d.junction := (rfl)
@[simp] theorem Dev.inc_chisel (d : Dev) (f : Fld) : (d.inc f).chisel = d.chisel := (rfl)
@[simp] theorem Dev.inc_repair (d : Dev) (f : Fld) : (d.inc f).repair = d.repair := (rfl)
@[simp] theorem Dev.inc_cores (d : Dev) (f : Fld) : (d.inc f).cores = d.cores := (rfl)
@[simp] theorem Dev.inc_spout (d : Dev) (f : Fld) : (d.inc f).spout = d.spout := (rfl)
@[simp] theorem Dev.inc_qsp (d : Dev) (f : Fld) : (d.inc f).qsp = d.qsp := (rfl)
@[simp] theorem Dev.inc_aqua (d : Dev) (f : Fld) : (d.inc f).aqua = d.aqua := (rfl)
@[simp] theorem Dev.inc_cist (d : Dev) (f : Fld) : (d.inc f).cist = d.cist := (rfl)
@[simp] theorem Dev.inc_am (d : Dev) (f : Fld) : (d.inc f).am = d.am := (rfl)
@[simp] theorem Dev.inc_pins (d : Dev) (f : Fld) : (d.inc f).pins = d.pins := (rfl)
@[simp] theorem Dev.inc_readOut (d : Dev) (f : Fld) : (d.inc f).readOut = d.readOut := (rfl)
@[simp] theorem Dev.inc_freeCount (d : Dev) (f : Fld) : (d.inc f).freeCount = d.freeCount := (rfl)

/-! ### Core slots, lanes and SRAM words -/

@[simp] theorem Dev.setSlot_regs (d : Dev) (s : Nat) (v : Slot) : (d.setSlot s v).regs = d.regs := (rfl)
@[simp] theorem Dev.setSlot_sram (d : Dev) (s : Nat) (v : Slot) : (d.setSlot s v).sram = d.sram := (rfl)
@[simp] theorem Dev.setSlot_flumes (d : Dev) (s : Nat) (v : Slot) : (d.setSlot s v).flumes = d.flumes := (rfl)
@[simp] theorem Dev.setSlot_clep (d : Dev) (s : Nat) (v : Slot) : (d.setSlot s v).clep = d.clep := (rfl)
@[simp] theorem Dev.setSlot_sluice (d : Dev) (s : Nat) (v : Slot) : (d.setSlot s v).sluice = d.sluice := (rfl)
@[simp] theorem Dev.setSlot_well (d : Dev) (s : Nat) (v : Slot) : (d.setSlot s v).well = d.well := (rfl)
@[simp] theorem Dev.setSlot_basin (d : Dev) (s : Nat) (v : Slot) : (d.setSlot s v).basin = d.basin := (rfl)
@[simp] theorem Dev.setSlot_lathe (d : Dev) (s : Nat) (v : Slot) : (d.setSlot s v).lathe = d.lathe := (rfl)
@[simp] theorem Dev.setSlot_rf (d : Dev) (s : Nat) (v : Slot) : (d.setSlot s v).rf = d.rf := (rfl)
@[simp] theorem Dev.setSlot_weir (d : Dev) (s : Nat) (v : Slot) : (d.setSlot s v).weir = d.weir := (rfl)
@[simp] theorem Dev.setSlot_junction (d : Dev) (s : Nat) (v : Slot) : (d.setSlot s v).junction = d.junction := (rfl)
@[simp] theorem Dev.setSlot_chisel (d : Dev) (s : Nat) (v : Slot) : (d.setSlot s v).chisel = d.chisel := (rfl)
@[simp] theorem Dev.setSlot_repair (d : Dev) (s : Nat) (v : Slot) : (d.setSlot s v).repair = d.repair := (rfl)
@[simp] theorem Dev.setSlot_spout (d : Dev) (s : Nat) (v : Slot) : (d.setSlot s v).spout = d.spout := (rfl)
@[simp] theorem Dev.setSlot_qsp (d : Dev) (s : Nat) (v : Slot) : (d.setSlot s v).qsp = d.qsp := (rfl)
@[simp] theorem Dev.setSlot_aqua (d : Dev) (s : Nat) (v : Slot) : (d.setSlot s v).aqua = d.aqua := (rfl)
@[simp] theorem Dev.setSlot_cist (d : Dev) (s : Nat) (v : Slot) : (d.setSlot s v).cist = d.cist := (rfl)
@[simp] theorem Dev.setSlot_am (d : Dev) (s : Nat) (v : Slot) : (d.setSlot s v).am = d.am := (rfl)
@[simp] theorem Dev.setSlot_pins (d : Dev) (s : Nat) (v : Slot) : (d.setSlot s v).pins = d.pins := (rfl)
@[simp] theorem Dev.setSlot_readOut (d : Dev) (s : Nat) (v : Slot) : (d.setSlot s v).readOut = d.readOut := (rfl)
@[simp] theorem Dev.setSlot_freeCount (d : Dev) (s : Nat) (v : Slot) : (d.setSlot s v).freeCount = d.freeCount := (rfl)

@[simp] theorem Dev.modSlot_regs (d : Dev) (s : Nat) (f : Slot → Slot) : (d.modSlot s f).regs = d.regs := (rfl)
@[simp] theorem Dev.modSlot_sram (d : Dev) (s : Nat) (f : Slot → Slot) : (d.modSlot s f).sram = d.sram := (rfl)
@[simp] theorem Dev.modSlot_flumes (d : Dev) (s : Nat) (f : Slot → Slot) : (d.modSlot s f).flumes = d.flumes := (rfl)
@[simp] theorem Dev.modSlot_clep (d : Dev) (s : Nat) (f : Slot → Slot) : (d.modSlot s f).clep = d.clep := (rfl)
@[simp] theorem Dev.modSlot_sluice (d : Dev) (s : Nat) (f : Slot → Slot) : (d.modSlot s f).sluice = d.sluice := (rfl)
@[simp] theorem Dev.modSlot_well (d : Dev) (s : Nat) (f : Slot → Slot) : (d.modSlot s f).well = d.well := (rfl)
@[simp] theorem Dev.modSlot_basin (d : Dev) (s : Nat) (f : Slot → Slot) : (d.modSlot s f).basin = d.basin := (rfl)
@[simp] theorem Dev.modSlot_lathe (d : Dev) (s : Nat) (f : Slot → Slot) : (d.modSlot s f).lathe = d.lathe := (rfl)
@[simp] theorem Dev.modSlot_rf (d : Dev) (s : Nat) (f : Slot → Slot) : (d.modSlot s f).rf = d.rf := (rfl)
@[simp] theorem Dev.modSlot_weir (d : Dev) (s : Nat) (f : Slot → Slot) : (d.modSlot s f).weir = d.weir := (rfl)
@[simp] theorem Dev.modSlot_junction (d : Dev) (s : Nat) (f : Slot → Slot) : (d.modSlot s f).junction = d.junction := (rfl)
@[simp] theorem Dev.modSlot_chisel (d : Dev) (s : Nat) (f : Slot → Slot) : (d.modSlot s f).chisel = d.chisel := (rfl)
@[simp] theorem Dev.modSlot_repair (d : Dev) (s : Nat) (f : Slot → Slot) : (d.modSlot s f).repair = d.repair := (rfl)
@[simp] theorem Dev.modSlot_spout (d : Dev) (s : Nat) (f : Slot → Slot) : (d.modSlot s f).spout = d.spout := (rfl)
@[simp] theorem Dev.modSlot_qsp (d : Dev) (s : Nat) (f : Slot → Slot) : (d.modSlot s f).qsp = d.qsp := (rfl)
@[simp] theorem Dev.modSlot_aqua (d : Dev) (s : Nat) (f : Slot → Slot) : (d.modSlot s f).aqua = d.aqua := (rfl)
@[simp] theorem Dev.modSlot_cist (d : Dev) (s : Nat) (f : Slot → Slot) : (d.modSlot s f).cist = d.cist := (rfl)
@[simp] theorem Dev.modSlot_am (d : Dev) (s : Nat) (f : Slot → Slot) : (d.modSlot s f).am = d.am := (rfl)
@[simp] theorem Dev.modSlot_pins (d : Dev) (s : Nat) (f : Slot → Slot) : (d.modSlot s f).pins = d.pins := (rfl)
@[simp] theorem Dev.modSlot_readOut (d : Dev) (s : Nat) (f : Slot → Slot) : (d.modSlot s f).readOut = d.readOut := (rfl)
@[simp] theorem Dev.modSlot_freeCount (d : Dev) (s : Nat) (f : Slot → Slot) : (d.modSlot s f).freeCount = d.freeCount := (rfl)

@[simp] theorem Dev.setLane_regs (d : Dev) (n : Nat) (v : Lane) : (d.setLane n v).regs = d.regs := (rfl)
@[simp] theorem Dev.setLane_sram (d : Dev) (n : Nat) (v : Lane) : (d.setLane n v).sram = d.sram := (rfl)
@[simp] theorem Dev.setLane_flumes (d : Dev) (n : Nat) (v : Lane) : (d.setLane n v).flumes = d.flumes := (rfl)
@[simp] theorem Dev.setLane_clep (d : Dev) (n : Nat) (v : Lane) : (d.setLane n v).clep = d.clep := (rfl)
@[simp] theorem Dev.setLane_sluice (d : Dev) (n : Nat) (v : Lane) : (d.setLane n v).sluice = d.sluice := (rfl)
@[simp] theorem Dev.setLane_well (d : Dev) (n : Nat) (v : Lane) : (d.setLane n v).well = d.well := (rfl)
@[simp] theorem Dev.setLane_lathe (d : Dev) (n : Nat) (v : Lane) : (d.setLane n v).lathe = d.lathe := (rfl)
@[simp] theorem Dev.setLane_rf (d : Dev) (n : Nat) (v : Lane) : (d.setLane n v).rf = d.rf := (rfl)
@[simp] theorem Dev.setLane_weir (d : Dev) (n : Nat) (v : Lane) : (d.setLane n v).weir = d.weir := (rfl)
@[simp] theorem Dev.setLane_junction (d : Dev) (n : Nat) (v : Lane) : (d.setLane n v).junction = d.junction := (rfl)
@[simp] theorem Dev.setLane_chisel (d : Dev) (n : Nat) (v : Lane) : (d.setLane n v).chisel = d.chisel := (rfl)
@[simp] theorem Dev.setLane_repair (d : Dev) (n : Nat) (v : Lane) : (d.setLane n v).repair = d.repair := (rfl)
@[simp] theorem Dev.setLane_cores (d : Dev) (n : Nat) (v : Lane) : (d.setLane n v).cores = d.cores := (rfl)
@[simp] theorem Dev.setLane_spout (d : Dev) (n : Nat) (v : Lane) : (d.setLane n v).spout = d.spout := (rfl)
@[simp] theorem Dev.setLane_qsp (d : Dev) (n : Nat) (v : Lane) : (d.setLane n v).qsp = d.qsp := (rfl)
@[simp] theorem Dev.setLane_aqua (d : Dev) (n : Nat) (v : Lane) : (d.setLane n v).aqua = d.aqua := (rfl)
@[simp] theorem Dev.setLane_cist (d : Dev) (n : Nat) (v : Lane) : (d.setLane n v).cist = d.cist := (rfl)
@[simp] theorem Dev.setLane_am (d : Dev) (n : Nat) (v : Lane) : (d.setLane n v).am = d.am := (rfl)
@[simp] theorem Dev.setLane_pins (d : Dev) (n : Nat) (v : Lane) : (d.setLane n v).pins = d.pins := (rfl)
@[simp] theorem Dev.setLane_readOut (d : Dev) (n : Nat) (v : Lane) : (d.setLane n v).readOut = d.readOut := (rfl)
@[simp] theorem Dev.setLane_freeCount (d : Dev) (n : Nat) (v : Lane) : (d.setLane n v).freeCount = d.freeCount := (rfl)

@[simp] theorem Dev.modLane_regs (d : Dev) (n : Nat) (f : Lane → Lane) : (d.modLane n f).regs = d.regs := (rfl)
@[simp] theorem Dev.modLane_sram (d : Dev) (n : Nat) (f : Lane → Lane) : (d.modLane n f).sram = d.sram := (rfl)
@[simp] theorem Dev.modLane_flumes (d : Dev) (n : Nat) (f : Lane → Lane) : (d.modLane n f).flumes = d.flumes := (rfl)
@[simp] theorem Dev.modLane_clep (d : Dev) (n : Nat) (f : Lane → Lane) : (d.modLane n f).clep = d.clep := (rfl)
@[simp] theorem Dev.modLane_sluice (d : Dev) (n : Nat) (f : Lane → Lane) : (d.modLane n f).sluice = d.sluice := (rfl)
@[simp] theorem Dev.modLane_well (d : Dev) (n : Nat) (f : Lane → Lane) : (d.modLane n f).well = d.well := (rfl)
@[simp] theorem Dev.modLane_lathe (d : Dev) (n : Nat) (f : Lane → Lane) : (d.modLane n f).lathe = d.lathe := (rfl)
@[simp] theorem Dev.modLane_rf (d : Dev) (n : Nat) (f : Lane → Lane) : (d.modLane n f).rf = d.rf := (rfl)
@[simp] theorem Dev.modLane_weir (d : Dev) (n : Nat) (f : Lane → Lane) : (d.modLane n f).weir = d.weir := (rfl)
@[simp] theorem Dev.modLane_junction (d : Dev) (n : Nat) (f : Lane → Lane) : (d.modLane n f).junction = d.junction := (rfl)
@[simp] theorem Dev.modLane_chisel (d : Dev) (n : Nat) (f : Lane → Lane) : (d.modLane n f).chisel = d.chisel := (rfl)
@[simp] theorem Dev.modLane_repair (d : Dev) (n : Nat) (f : Lane → Lane) : (d.modLane n f).repair = d.repair := (rfl)
@[simp] theorem Dev.modLane_cores (d : Dev) (n : Nat) (f : Lane → Lane) : (d.modLane n f).cores = d.cores := (rfl)
@[simp] theorem Dev.modLane_spout (d : Dev) (n : Nat) (f : Lane → Lane) : (d.modLane n f).spout = d.spout := (rfl)
@[simp] theorem Dev.modLane_qsp (d : Dev) (n : Nat) (f : Lane → Lane) : (d.modLane n f).qsp = d.qsp := (rfl)
@[simp] theorem Dev.modLane_aqua (d : Dev) (n : Nat) (f : Lane → Lane) : (d.modLane n f).aqua = d.aqua := (rfl)
@[simp] theorem Dev.modLane_cist (d : Dev) (n : Nat) (f : Lane → Lane) : (d.modLane n f).cist = d.cist := (rfl)
@[simp] theorem Dev.modLane_am (d : Dev) (n : Nat) (f : Lane → Lane) : (d.modLane n f).am = d.am := (rfl)
@[simp] theorem Dev.modLane_pins (d : Dev) (n : Nat) (f : Lane → Lane) : (d.modLane n f).pins = d.pins := (rfl)
@[simp] theorem Dev.modLane_readOut (d : Dev) (n : Nat) (f : Lane → Lane) : (d.modLane n f).readOut = d.readOut := (rfl)
@[simp] theorem Dev.modLane_freeCount (d : Dev) (n : Nat) (f : Lane → Lane) : (d.modLane n f).freeCount = d.freeCount := (rfl)

@[simp] theorem Dev.putWord_regs (d : Dev) (a : Nat) (w : TWord) : (d.putWord a w).regs = d.regs := (rfl)
@[simp] theorem Dev.putWord_flumes (d : Dev) (a : Nat) (w : TWord) : (d.putWord a w).flumes = d.flumes := (rfl)
@[simp] theorem Dev.putWord_clep (d : Dev) (a : Nat) (w : TWord) : (d.putWord a w).clep = d.clep := (rfl)
@[simp] theorem Dev.putWord_sluice (d : Dev) (a : Nat) (w : TWord) : (d.putWord a w).sluice = d.sluice := (rfl)
@[simp] theorem Dev.putWord_well (d : Dev) (a : Nat) (w : TWord) : (d.putWord a w).well = d.well := (rfl)
@[simp] theorem Dev.putWord_basin (d : Dev) (a : Nat) (w : TWord) : (d.putWord a w).basin = d.basin := (rfl)
@[simp] theorem Dev.putWord_lathe (d : Dev) (a : Nat) (w : TWord) : (d.putWord a w).lathe = d.lathe := (rfl)
@[simp] theorem Dev.putWord_rf (d : Dev) (a : Nat) (w : TWord) : (d.putWord a w).rf = d.rf := (rfl)
@[simp] theorem Dev.putWord_weir (d : Dev) (a : Nat) (w : TWord) : (d.putWord a w).weir = d.weir := (rfl)
@[simp] theorem Dev.putWord_junction (d : Dev) (a : Nat) (w : TWord) : (d.putWord a w).junction = d.junction := (rfl)
@[simp] theorem Dev.putWord_chisel (d : Dev) (a : Nat) (w : TWord) : (d.putWord a w).chisel = d.chisel := (rfl)
@[simp] theorem Dev.putWord_repair (d : Dev) (a : Nat) (w : TWord) : (d.putWord a w).repair = d.repair := (rfl)
@[simp] theorem Dev.putWord_cores (d : Dev) (a : Nat) (w : TWord) : (d.putWord a w).cores = d.cores := (rfl)
@[simp] theorem Dev.putWord_spout (d : Dev) (a : Nat) (w : TWord) : (d.putWord a w).spout = d.spout := (rfl)
@[simp] theorem Dev.putWord_qsp (d : Dev) (a : Nat) (w : TWord) : (d.putWord a w).qsp = d.qsp := (rfl)
@[simp] theorem Dev.putWord_aqua (d : Dev) (a : Nat) (w : TWord) : (d.putWord a w).aqua = d.aqua := (rfl)
@[simp] theorem Dev.putWord_cist (d : Dev) (a : Nat) (w : TWord) : (d.putWord a w).cist = d.cist := (rfl)
@[simp] theorem Dev.putWord_am (d : Dev) (a : Nat) (w : TWord) : (d.putWord a w).am = d.am := (rfl)
@[simp] theorem Dev.putWord_pins (d : Dev) (a : Nat) (w : TWord) : (d.putWord a w).pins = d.pins := (rfl)
@[simp] theorem Dev.putWord_readOut (d : Dev) (a : Nat) (w : TWord) : (d.putWord a w).readOut = d.readOut := (rfl)
@[simp] theorem Dev.putWord_freeCount (d : Dev) (a : Nat) (w : TWord) : (d.putWord a w).freeCount = d.freeCount := (rfl)

/-! ### The state of a slot, its register or what a rotation keeps of it -/

@[simp] theorem Dev.setSlotState_sram (d : Dev) (s v : Nat) : (d.setSlotState s v).sram = d.sram := by unfold Dev.setSlotState; split <;> rfl
@[simp] theorem Dev.setSlotState_flumes (d : Dev) (s v : Nat) : (d.setSlotState s v).flumes = d.flumes := by unfold Dev.setSlotState; split <;> rfl
@[simp] theorem Dev.setSlotState_clep (d : Dev) (s v : Nat) : (d.setSlotState s v).clep = d.clep := by unfold Dev.setSlotState; split <;> rfl
@[simp] theorem Dev.setSlotState_sluice (d : Dev) (s v : Nat) : (d.setSlotState s v).sluice = d.sluice := by unfold Dev.setSlotState; split <;> rfl
@[simp] theorem Dev.setSlotState_well (d : Dev) (s v : Nat) : (d.setSlotState s v).well = d.well := by unfold Dev.setSlotState; split <;> rfl
@[simp] theorem Dev.setSlotState_basin (d : Dev) (s v : Nat) : (d.setSlotState s v).basin = d.basin := by unfold Dev.setSlotState; split <;> rfl
@[simp] theorem Dev.setSlotState_lathe (d : Dev) (s v : Nat) : (d.setSlotState s v).lathe = d.lathe := by unfold Dev.setSlotState; split <;> rfl
@[simp] theorem Dev.setSlotState_rf (d : Dev) (s v : Nat) : (d.setSlotState s v).rf = d.rf := by unfold Dev.setSlotState; split <;> rfl
@[simp] theorem Dev.setSlotState_weir (d : Dev) (s v : Nat) : (d.setSlotState s v).weir = d.weir := by unfold Dev.setSlotState; split <;> rfl
@[simp] theorem Dev.setSlotState_junction (d : Dev) (s v : Nat) : (d.setSlotState s v).junction = d.junction := by unfold Dev.setSlotState; split <;> rfl
@[simp] theorem Dev.setSlotState_chisel (d : Dev) (s v : Nat) : (d.setSlotState s v).chisel = d.chisel := by unfold Dev.setSlotState; split <;> rfl
@[simp] theorem Dev.setSlotState_cores (d : Dev) (s v : Nat) : (d.setSlotState s v).cores = d.cores := by unfold Dev.setSlotState; split <;> rfl
@[simp] theorem Dev.setSlotState_spout (d : Dev) (s v : Nat) : (d.setSlotState s v).spout = d.spout := by unfold Dev.setSlotState; split <;> rfl
@[simp] theorem Dev.setSlotState_qsp (d : Dev) (s v : Nat) : (d.setSlotState s v).qsp = d.qsp := by unfold Dev.setSlotState; split <;> rfl
@[simp] theorem Dev.setSlotState_aqua (d : Dev) (s v : Nat) : (d.setSlotState s v).aqua = d.aqua := by unfold Dev.setSlotState; split <;> rfl
@[simp] theorem Dev.setSlotState_cist (d : Dev) (s v : Nat) : (d.setSlotState s v).cist = d.cist := by unfold Dev.setSlotState; split <;> rfl
@[simp] theorem Dev.setSlotState_am (d : Dev) (s v : Nat) : (d.setSlotState s v).am = d.am := by unfold Dev.setSlotState; split <;> rfl
@[simp] theorem Dev.setSlotState_pins (d : Dev) (s v : Nat) : (d.setSlotState s v).pins = d.pins := by unfold Dev.setSlotState; split <;> rfl
@[simp] theorem Dev.setSlotState_readOut (d : Dev) (s v : Nat) : (d.setSlotState s v).readOut = d.readOut := by unfold Dev.setSlotState; split <;> rfl
@[simp] theorem Dev.setSlotState_freeCount (d : Dev) (s v : Nat) : (d.setSlotState s v).freeCount = d.freeCount := by unfold Dev.setSlotState; split <;> rfl

end Sys2Proof.Machine
end

