-- ==== Sys2Proof/Laws/Store.lean ====
section
/-! SUPPORT. The laws of sparse arrays: a read after a write, and the canonical form that every operation keeps. -/

namespace Sys2Proof.Machine

/-! ### Reading after writing -/

theorem Store.get_erase_same {α : Type} (d : α) (s : Store α) (k : Nat) : Store.get d (s.erase k) k = d := by
  induction s with
  | nil => rfl
  | cons e r ih =>
    obtain ⟨j, v⟩ := e
    by_cases h : k = j
    · simp only [Store.erase, if_pos h, ih]
    · simp only [Store.erase, if_neg h, Store.get, ih]

theorem Store.get_erase_other {α : Type} (d : α) (s : Store α) (k m : Nat) (h : m ≠ k) :
    Store.get d (s.erase k) m = Store.get d s m := by
  induction s with
  | nil => rfl
  | cons e r ih =>
    obtain ⟨j, v⟩ := e
    by_cases hk : k = j
    · subst hk
      simp [Store.erase, Store.get, h, ih]
    · by_cases hm : m = j
      · simp [Store.erase, hk, Store.get, hm]
      · simp [Store.erase, hk, Store.get, hm, ih]

theorem Store.get_insert_same {α : Type} (d : α) (s : Store α) (k : Nat) (v : α) :
    Store.get d (Store.insert (s.erase k) k v) k = v := by
  induction s with
  | nil => simp [Store.erase, Store.insert, Store.get]
  | cons e r ih =>
    obtain ⟨j, w⟩ := e
    by_cases hk : k = j
    · simp only [Store.erase, if_pos hk, ih]
    · by_cases hl : k < j
      · simp [Store.erase, hk, Store.insert, hl, Store.get]
      · simp only [Store.erase, if_neg hk, Store.insert, if_neg hl, Store.get, ih]

theorem Store.get_insert_other {α : Type} (d : α) (s : Store α) (k m : Nat) (v : α) (h : m ≠ k) :
    (s.insert k v).get d m = s.get d m := by
  induction s with
  | nil => simp [Store.insert, Store.get, h]
  | cons e r ih =>
    obtain ⟨j, w⟩ := e
    by_cases hl : k < j
    · simp [Store.insert, hl, Store.get, h]
    · by_cases hm : m = j
      · simp [Store.insert, hl, Store.get, hm]
      · simp [Store.insert, hl, Store.get, hm, ih]

/-- A read of the key that was written gives the value written. -/
@[simp] theorem Store.get_put_same {α : Type} [DecidableEq α] (d : α) (s : Store α) (k : Nat) (v : α) :
    Store.get d (Store.put d s k v) k = v := by
  unfold Store.put
  split
  · next h => rw [Store.get_erase_same, h]
  · exact Store.get_insert_same d s k v

/-- A write leaves every other key alone. -/
theorem Store.get_put_other {α : Type} [DecidableEq α] (d e : α) (s : Store α) (k m : Nat) (v : α) (h : m ≠ k) :
    Store.get e (Store.put d s k v) m = Store.get e s m := by
  unfold Store.put
  split
  · exact Store.get_erase_other e s k m h
  · rw [Store.get_insert_other e _ k m v h, Store.get_erase_other e s k m h]

theorem Store.erase_erase {α : Type} (s : Store α) (k : Nat) : (s.erase k).erase k = s.erase k := by
  induction s with
  | nil => rfl
  | cons e r ih =>
    obtain ⟨j, w⟩ := e
    by_cases hk : k = j
    · simp only [Store.erase, if_pos hk, ih]
    · simp only [Store.erase, if_neg hk, ih]

theorem Store.erase_insert {α : Type} (s : Store α) (k : Nat) (v : α) : (Store.insert s k v).erase k = s.erase k := by
  induction s with
  | nil => simp [Store.insert, Store.erase]
  | cons e r ih =>
    obtain ⟨j, w⟩ := e
    by_cases hl : k < j
    · have hk : ¬ k = j := by omega
      simp [Store.insert, hl, Store.erase]
    · by_cases hk : k = j
      · simp only [Store.insert, if_neg hl, Store.erase, if_pos hk, ih]
      · simp only [Store.insert, if_neg hl, Store.erase, if_neg hk, ih]

/-- Of two writes to one key the second remains. -/
@[simp] theorem Store.put_put {α : Type} [DecidableEq α] (d : α) (s : Store α) (k : Nat) (v w : α) :
    Store.put d (Store.put d s k v) k w = Store.put d s k w := by
  have h : (Store.put d s k v).erase k = s.erase k := by
    unfold Store.put
    split
    · exact Store.erase_erase s k
    · rw [Store.erase_insert, Store.erase_erase]
  unfold Store.put at h ⊢
  rw [h]

/-! ### The canonical form -/

theorem Store.wfFrom_mono {α : Type} [DecidableEq α] (d : Nat → α) (s : Store α) (b c : Nat) (h : c ≤ b)
    (hs : Store.wfFrom d b s = true) : Store.wfFrom d c s = true := by
  cases s with
  | nil => rfl
  | cons e r =>
    obtain ⟨j, v⟩ := e
    simp only [Store.wfFrom, Bool.and_eq_true, decide_eq_true_eq] at hs ⊢
    exact ⟨⟨by omega, hs.1.2⟩, hs.2⟩

theorem Store.wfFrom_erase {α : Type} [DecidableEq α] (d : Nat → α) (s : Store α) (k b : Nat)
    (hs : Store.wfFrom d b s = true) : Store.wfFrom d b (s.erase k) = true := by
  induction s generalizing b with
  | nil => rfl
  | cons e r ih =>
    obtain ⟨j, v⟩ := e
    simp only [Store.wfFrom, Bool.and_eq_true, decide_eq_true_eq] at hs
    by_cases hk : k = j
    · simp only [Store.erase, if_pos hk]
      exact Store.wfFrom_mono d _ (j + 1) b (by omega) (ih _ hs.2)
    · simp only [Store.erase, if_neg hk, Store.wfFrom, Bool.and_eq_true, decide_eq_true_eq]
      exact ⟨hs.1, ih _ hs.2⟩

theorem Store.wfFrom_insert {α : Type} [DecidableEq α] (d : Nat → α) (s : Store α) (k b : Nat) (v : α) (hv : v ≠ d k)
    (hb : b ≤ k) (hs : Store.wfFrom d b s = true) : Store.wfFrom d b ((s.erase k).insert k v) = true := by
  induction s generalizing b with
  | nil => simp [Store.erase, Store.insert, Store.wfFrom, hv, hb]
  | cons e r ih =>
    obtain ⟨j, w⟩ := e
    simp only [Store.wfFrom, Bool.and_eq_true, decide_eq_true_eq] at hs
    by_cases hk : k = j
    · simp only [Store.erase, if_pos hk]
      exact ih b hb (Store.wfFrom_mono d r (j + 1) b (by omega) hs.2)
    · by_cases hl : k < j
      · have he := Store.wfFrom_erase d r k (j + 1) hs.2
        simp only [Store.erase, if_neg hk, Store.insert, if_pos hl, Store.wfFrom, Bool.and_eq_true, decide_eq_true_eq]
        exact ⟨⟨hb, hv⟩, ⟨by omega, hs.1.2⟩, he⟩
      · simp only [Store.erase, if_neg hk, Store.insert, if_neg hl, Store.wfFrom, Bool.and_eq_true, decide_eq_true_eq]
        exact ⟨hs.1, ih (j + 1) (by omega) hs.2⟩

/-- A write keeps the canonical form. -/
theorem Store.wf_put {α : Type} [DecidableEq α] (d : Nat → α) (s : Store α) (k : Nat) (v : α) (hs : Store.wf d s = true) :
    Store.wf d (Store.put (d k) s k v) = true := by
  unfold Store.put Store.wf
  split
  · exact Store.wfFrom_erase d s k 0 hs
  · next h => exact Store.wfFrom_insert d s k 0 v h (Nat.zero_le _) hs

/-- Removing a key keeps the canonical form. -/
theorem Store.wf_erase {α : Type} [DecidableEq α] (d : Nat → α) (s : Store α) (k : Nat) (hs : Store.wf d s = true) :
    Store.wf d (s.erase k) = true := Store.wfFrom_erase d s k 0 hs

theorem Store.wfFrom_keep {α : Type} [DecidableEq α] (d : Nat → α) (p : Nat → α → Bool) (s : Store α) (b : Nat)
    (hs : Store.wfFrom d b s = true) : Store.wfFrom d b (s.keep p) = true := by
  induction s generalizing b with
  | nil => rfl
  | cons e r ih =>
    obtain ⟨j, v⟩ := e
    simp only [Store.wfFrom, Bool.and_eq_true, decide_eq_true_eq] at hs
    by_cases hp : p j v = true
    · simp only [Store.keep, List.filter, hp, Store.wfFrom, Bool.and_eq_true, decide_eq_true_eq]
      exact ⟨hs.1, ih _ hs.2⟩
    · simp only [Store.keep, List.filter, hp]
      exact Store.wfFrom_mono d _ (j + 1) b (by omega) (ih _ hs.2)

/-- Keeping some entries keeps the canonical form. -/
theorem Store.wf_keep {α : Type} [DecidableEq α] (d : Nat → α) (p : Nat → α → Bool) (s : Store α) (hs : Store.wf d s = true) :
    Store.wf d (s.keep p) = true := Store.wfFrom_keep d p s 0 hs

end Sys2Proof.Machine
end

