-- ==== Sys2Proof/Laws/Fields.lean ====
section
/-! SUPPORT. The laws of register fields: a read after a write, and that a write of a field leaves every other field alone. -/

namespace Sys2Proof.Machine

/-! ### Bits of a word -/

theorem bitsOf_lt (w : Word) (lo width : Nat) : bitsOf w lo width < 2 ^ width := Nat.mod_lt _ (Nat.two_pow_pos _)

theorem bitsOf_testBit (w : Word) (lo width i : Nat) :
    (bitsOf w lo width).testBit i = (decide (i < width) && w.toNat.testBit (lo + i)) := by
  rw [bitsOf, ← Nat.shiftRight_eq_div_pow, Nat.testBit_mod_two_pow, Nat.testBit_shiftRight]

/-- What `setBits` makes of a word, as a number: the part above the range, the new part, the part below. -/
theorem setBits_toNat (w : Word) (lo width v : Nat) (h : lo + width ≤ 32) :
    (setBits w lo width v).toNat = 2 ^ lo * (2 ^ width * (w.toNat / 2 ^ (lo + width)) + v % 2 ^ width) + w.toNat % 2 ^ lo := by
  have h1 := Nat.div_add_mod w.toNat (2 ^ lo)
  have h2 := Nat.div_add_mod (w.toNat / 2 ^ lo) (2 ^ width)
  rw [Nat.div_div_eq_div_mul, ← Nat.pow_add] at h2
  generalize hA : w.toNat / 2 ^ (lo + width) = A at *
  generalize hB : w.toNat % 2 ^ lo = B at *
  have hm : bitsOf w lo width = w.toNat / 2 ^ lo % 2 ^ width := rfl
  generalize hM : w.toNat / 2 ^ lo % 2 ^ width = M at *
  generalize hQ : w.toNat / 2 ^ lo = Q at *
  have hv : v % 2 ^ width < 2 ^ width := Nat.mod_lt _ (Nat.two_pow_pos _)
  have hw := w.isLt
  have hBl : B < 2 ^ lo := hB ▸ Nat.mod_lt _ (Nat.two_pow_pos _)
  have hexp : 2 ^ lo * Q = 2 ^ lo * (2 ^ width * A) + M * 2 ^ lo := by
    rw [← h2, Nat.mul_add, Nat.mul_comm M]
  have hnum : w.toNat - M * 2 ^ lo + v % 2 ^ width * 2 ^ lo = 2 ^ lo * (2 ^ width * A + v % 2 ^ width) + B := by
    rw [Nat.mul_add, Nat.mul_comm (v % 2 ^ width)]
    omega
  have hA2 : A < 2 ^ (32 - (lo + width)) := by
    rw [← hA]
    apply Nat.div_lt_of_lt_mul
    rw [← Nat.pow_add]
    rwa [show lo + width + (32 - (lo + width)) = 32 by omega]
  have hlt : 2 ^ lo * (2 ^ width * A + v % 2 ^ width) + B < 2 ^ 32 := by
    have a1 : 2 ^ width * A + v % 2 ^ width + 1 ≤ 2 ^ width * 2 ^ (32 - (lo + width)) := by
      have : 2 ^ width * (A + 1) ≤ 2 ^ width * 2 ^ (32 - (lo + width)) := Nat.mul_le_mul_left _ hA2
      rw [Nat.mul_add] at this
      omega
    have a2 : 2 ^ lo * (2 ^ width * A + v % 2 ^ width + 1) ≤ 2 ^ lo * (2 ^ width * 2 ^ (32 - (lo + width))) := Nat.mul_le_mul_left _ a1
    rw [← Nat.pow_add, ← Nat.pow_add, show lo + (width + (32 - (lo + width))) = 32 by omega, Nat.mul_add] at a2
    omega
  rw [setBits, hm, hnum, BitVec.toNat_ofNat, Nat.mod_eq_of_lt hlt]

theorem setBits_testBit (w : Word) (lo width v i : Nat) (h : lo + width ≤ 32) :
    (setBits w lo width v).toNat.testBit i =
      if lo ≤ i ∧ i < lo + width then v.testBit (i - lo) else w.toNat.testBit i := by
  rw [setBits_toNat w lo width v h, Nat.testBit_two_pow_mul_add _ (Nat.mod_lt _ (Nat.two_pow_pos _))]
  split
  · next hi => rw [Nat.testBit_mod_two_pow, decide_eq_true hi, Bool.true_and, if_neg (by omega)]
  · next hi =>
    rw [Nat.testBit_two_pow_mul_add _ (Nat.mod_lt _ (Nat.two_pow_pos _))]
    split
    · next hj => rw [Nat.testBit_mod_two_pow, if_pos (by omega)]; simp [hj]
    · next hj =>
      rw [if_neg (by omega), ← Nat.shiftRight_eq_div_pow, Nat.testBit_shiftRight]
      congr 1; omega

/-- A range reads back what was written into it. -/
theorem bitsOf_setBits_same (w : Word) (lo width v : Nat) (h : lo + width ≤ 32) :
    bitsOf (setBits w lo width v) lo width = v % 2 ^ width := by
  apply Nat.eq_of_testBit_eq
  intro i
  rw [bitsOf_testBit, setBits_testBit w lo width v _ h, Nat.testBit_mod_two_pow]
  by_cases hi : i < width
  · rw [if_pos (by omega)]; simp
  · simp [hi]

/-- A range disjoint from the one written reads as before. -/
theorem bitsOf_setBits_other (w : Word) (lo width v lo' width' : Nat) (h : lo + width ≤ 32)
    (hd : lo' + width' ≤ lo ∨ lo + width ≤ lo') : bitsOf (setBits w lo width v) lo' width' = bitsOf w lo' width' := by
  apply Nat.eq_of_testBit_eq
  intro i
  rw [bitsOf_testBit, bitsOf_testBit, setBits_testBit w lo width v _ h]
  by_cases hi : i < width'
  · rw [if_neg (by omega)]
  · simp [hi]

/-! ### Registers -/

@[simp] theorem Dev.reg_setReg_same (d : Dev) (a : Nat) (w : Word) : (d.setReg a w).reg a = w := Store.get_put_same _ _ _ _

theorem Dev.reg_setReg_other (d : Dev) (a b : Nat) (w : Word) (h : b ≠ a) : (d.setReg a w).reg b = d.reg b :=
  Store.get_put_other _ _ _ _ _ _ h

/-- A write of a field changes no other register. -/
theorem Dev.reg_wr_other (d : Dev) (f : Fld) (v b : Nat) (h : b ≠ f.addr) : (d.wr f v).reg b = d.reg b :=
  Dev.reg_setReg_other _ _ _ _ h

/-- A field reads back the low bits of what was written. -/
theorem Dev.rd_wr_same (d : Dev) (f : Fld) (v : Nat) (h : f.lo + f.width ≤ 32) : (d.wr f v).rd f = v % 2 ^ f.width := by
  unfold Dev.rd Dev.wr
  rw [Dev.reg_setReg_same, bitsOf_setBits_same _ _ _ _ h]

/-- A field of another register reads as before. -/
theorem Dev.rd_wr_addr (d : Dev) (f g : Fld) (v : Nat) (h : g.addr ≠ f.addr) : (d.wr f v).rd g = d.rd g := by
  unfold Dev.rd
  rw [Dev.reg_wr_other _ _ _ _ h]

/-- A disjoint field of the same register reads as before. -/
theorem Dev.rd_wr_disjoint (d : Dev) (f g : Fld) (v : Nat) (ha : g.addr = f.addr) (h : f.lo + f.width ≤ 32)
    (hd : g.lo + g.width ≤ f.lo ∨ f.lo + f.width ≤ g.lo) : (d.wr f v).rd g = d.rd g := by
  unfold Dev.rd Dev.wr
  rw [ha, Dev.reg_setReg_same, bitsOf_setBits_other _ _ _ _ _ _ h hd]

/-- Two fields that share no bit. -/
def Fld.apart (f g : Fld) : Prop := f.addr ≠ g.addr ∨ f.lo + f.width ≤ g.lo ∨ g.lo + g.width ≤ f.lo

theorem Dev.rd_wr_apart (d : Dev) (f g : Fld) (v : Nat) (h : f.lo + f.width ≤ 32) (hd : Fld.apart f g) :
    (d.wr f v).rd g = d.rd g := by
  by_cases ha : g.addr = f.addr
  · refine Dev.rd_wr_disjoint d f g v ha h ?_
    rcases hd with h1 | h1 | h1
    · exact absurd ha.symm h1
    · exact .inr h1
    · exact .inl h1
  · exact Dev.rd_wr_addr d f g v ha

theorem Dev.rd_lt (d : Dev) (f : Fld) : d.rd f < 2 ^ f.width := bitsOf_lt _ _ _

/-- A field is as wide as it says. -/
theorem Dev.rd_setF_same (d : Dev) (f : Fld) (h : f.lo + f.width ≤ 32) : (d.setF f).rd f = 2 ^ f.width - 1 := by
  unfold Dev.setF
  rw [Dev.rd_wr_same d f _ h, Nat.mod_eq_of_lt (Nat.sub_lt (Nat.two_pow_pos _) Nat.one_pos)]

theorem Dev.rd_setF_apart (d : Dev) (f g : Fld) (h : f.lo + f.width ≤ 32) (hd : Fld.apart f g) : (d.setF f).rd g = d.rd g :=
  Dev.rd_wr_apart d f g _ h hd

theorem Dev.rd_wrB_same (d : Dev) (f : Fld) (b : Bool) (h : f.lo + f.width ≤ 32) (h1 : 1 ≤ f.width) : (d.wrB f b).rd f = b.toNat := by
  unfold Dev.wrB
  rw [Dev.rd_wr_same d f _ h]
  have : 2 ^ 1 ≤ 2 ^ f.width := Nat.pow_le_pow_right (by omega) h1
  cases b
  · simp
  · rw [Nat.mod_eq_of_lt (by simp; omega)]; rfl

theorem Dev.rd_wrB_apart (d : Dev) (f g : Fld) (b : Bool) (h : f.lo + f.width ≤ 32) (hd : Fld.apart f g) : (d.wrB f b).rd g = d.rd g :=
  Dev.rd_wr_apart d f g _ h hd

theorem Dev.rd_add_same (d : Dev) (f : Fld) (k : Nat) (h : f.lo + f.width ≤ 32) :
    (d.add f k).rd f = min (d.rd f + k) (2 ^ f.width - 1) := by
  have hp : 0 < 2 ^ f.width := Nat.two_pow_pos _
  unfold Dev.add
  rw [Dev.rd_wr_same d f _ h, Nat.mod_eq_of_lt (by omega)]

theorem Dev.rd_add_apart (d : Dev) (f g : Fld) (k : Nat) (h : f.lo + f.width ≤ 32) (hd : Fld.apart f g) : (d.add f k).rd g = d.rd g :=
  Dev.rd_wr_apart d f g _ h hd

theorem Dev.rd_inc_same (d : Dev) (f : Fld) (h : f.lo + f.width ≤ 32) : (d.inc f).rd f = min (d.rd f + 1) (2 ^ f.width - 1) :=
  Dev.rd_add_same d f 1 h

theorem Dev.rd_inc_apart (d : Dev) (f g : Fld) (h : f.lo + f.width ≤ 32) (hd : Fld.apart f g) : (d.inc f).rd g = d.rd g :=
  Dev.rd_wr_apart d f g _ h hd

end Sys2Proof.Machine
end

