-- ==== Sys2Proof/Laws/Core.lean ====
section
/-! SUPPORT. The core instructions on registers and immediates, from issue to the end: what a ready slot does with one, said once. -/

namespace Sys2Proof.Machine

theorem Dev.slot_setSlot_same (d : Dev) (k : Nat) (v : Slot) : (d.setSlot k v).slot k = v := Store.get_put_same _ _ _ _
theorem Dev.slot_setSlot_other (d : Dev) (k j : Nat) (v : Slot) (h : j ≠ k) : (d.setSlot k v).slot j = d.slot j :=
  Store.get_put_other _ _ _ _ _ _ h
@[simp] theorem Dev.slot_wr (d : Dev) (f : Fld) (v j : Nat) : (d.wr f v).slot j = d.slot j := (rfl)
@[simp] theorem Dev.slot_setSlotState (d : Dev) (k v j : Nat) : (d.setSlotState k v).slot j = d.slot j := by
  unfold Dev.setSlotState; split <;> rfl

/-- A slot that is not ROTATING is in the state that its STATUS shows, and a change of state goes there. -/
theorem Dev.pausedAs_none (d : Dev) (k : Nat) (h : d.slotState k ≠ 5) : d.pausedAs k = none := by simp [Dev.pausedAs, h]
theorem Dev.setSlotState_eq (d : Dev) (k v : Nat) (h : d.slotState k ≠ 5) : d.setSlotState k v = d.wr (CORES.STATUS_STATE k) v := by
  simp [Dev.setSlotState, Dev.pausedAs_none d k h]

@[simp] theorem Dev.slotState_setSlot (d : Dev) (k j : Nat) (v : Slot) : (d.setSlot k v).slotState j = d.slotState j := rfl

theorem Dev.executing_state (d : Dev) (k : Nat) (h : d.executing k = true) : d.slotState k = 1 := by
  simp only [Dev.executing, Bool.and_eq_true, beq_iff_eq] at h; exact h.1.2

/-- A code word without an error is delivered as it is and stays as it is. -/
theorem Dev.codeBad_sound (d : Dev) (a : Nat) (h : d.codeErr a = 0#55) : d.codeBad a = false := by simp [Dev.codeBad, h]
theorem Dev.codeFix_sound (d : Dev) (a : Nat) (h : d.codeErr a = 0#55) : d.codeFix a = d := by simp [Dev.codeFix, h]

theorem foldl_codeFix_sound (l : List Nat) (d : Dev) (h : ∀ a ∈ l, d.codeErr a = 0#55) : l.foldl Dev.codeFix d = d := by
  induction l with
  | nil => rfl
  | cons a l ih =>
    rw [List.foldl_cons, Dev.codeFix_sound d a (h a (List.mem_cons_self ..))]
    exact ih fun b hb => h b (List.mem_cons_of_mem _ hb)
theorem Dev.reg_setSlot (d : Dev) (k : Nat) (v : Slot) (a : Nat) : (d.setSlot k v).reg a = d.reg a := rfl

/-- The words fetched by an instruction of page 0 that stand at the PC without an error. -/
theorem fetchKeys_sound (d : Dev) (k op : Nat) (h : d.sound k (d.coreLen k op)) (hop : op < 0x20) : ∀ a ∈ d.fetchKeys k op, d.codeErr a = 0#55 := by
  intro a ha
  have h2 : ¬ 0x20 ≤ op := by omega
  cases hu : d.unitOfSlot k with
  | none => simp [Dev.fetchKeys, hu] at ha
  | some u =>
    simp only [Dev.fetchKeys, hu, h2, decide_false, Bool.and_false, Bool.false_eq_true, if_false, List.append_nil, List.mem_map,
      List.mem_filter, List.mem_range] at ha
    obtain ⟨i, ⟨hi, -⟩, rfl⟩ := ha
    exact h u hu i hi

/-- An instruction that a ready slot issues reaches `runInsn`. -/
theorem coreRow_ready (c : Cells) (d : Dev) (k op a b x v : Nat) (i : Insn) (hr : d.ready k (opWords op)) (hop : op < 0x20)
    (hf : fieldsFit (isBowl k) op a b x = true) (hd : decodePage0 (isBowl k) op a b x v = some i) :
    Dev.coreRow c d k op a b x v =
      (if i.op == .repk || i.op == .repr || i.op == .repir then d else d.modSlot k fun v => { v with resume := none }).runInsn
        (coreEnv c d k) i (opWords op) := by
  obtain ⟨he, hb, hrep, hpc, hs⟩ := hr
  have hlen : d.coreLen k op = opWords op := by simp [Dev.coreLen, hop]
  have h1 : ¬ progSize k < (d.slot k).pc + opWords op := by omega
  have h2 : ¬ 0x20 ≤ op := by omega
  have hk := fetchKeys_sound d k op (by rw [hlen]; exact hs) hop
  have hbad : (d.fetchKeys k op).any d.codeBad = false := List.any_eq_false.2 fun a ha => by simp [Dev.codeBad_sound d a (hk a ha)]
  have hst : (d.slotState k == 5) = false := by simp [Dev.executing_state d k he]
  simp only [Dev.coreRow, hst, he, hf, Dev.coreStep, hb, Dev.issue, hbad, foldl_codeFix_sound _ d hk, Bool.false_eq_true, if_false, Bool.and_self,
    if_true]
  simp [Dev.issueGood, hlen, hrep, h1, h2, hd]

theorem runInsn_data (d : Dev) (e : CEnv) (i : Insn) (len : Nat) (hi : i.op.isData = true) (hrep : (d.slot e.k).rep = none)
    (hpc : (d.slot e.k).pc + len < progSize e.k) : d.runInsn e i len = d.runPlain e i len := by
  have hf : d.fallsOff e.k len = false := by simp [Dev.fallsOff, hrep]; omega
  cases i with
  | mk op a b x n vr p =>
    cases op <;> first | (exact absurd hi Bool.false_ne_true) | simp [Dev.runInsn, hf, Dev.runFalling]

theorem opRun_data (e : CEnv) (m : Mem) (i : Insn) (a b p : Opd) (fl : BitVec 10) (hi : i.op.isData = true) :
    opRun e m i a b p fl =
      match dataOp (isBowl e.k) e.ovf i a b p fl with
      | .error t => (.error t, m)
      | .ok (w, fl) => (.ok { Eff.none fl with ra := some w }, m) := by
  cases i with
  | mk op a' b' x n vr p' =>
    cases op <;> first | (exact absurd hi Bool.false_ne_true) | rfl

@[simp] theorem Dev.setSlot_setSlot (d : Dev) (k : Nat) (v w : Slot) : (d.setSlot k v).setSlot k w = d.setSlot k w := by
  simp [Dev.setSlot]

/-- The end of a plain instruction that has a result and nothing else. -/
theorem endPlain_ran (d : Dev) (e : CEnv) (i : Insn) (len : Nat) (w : TWord) (fl : BitVec 10) (hrep : (d.slot e.k).rep = none)
    (hpc : (d.slot e.k).pc + len < progSize e.k) :
    d.endPlain e i len { Eff.none fl with ra := some w } =
      (d.setSlot e.k { (d.slot e.k) with regs := Store.put voidWord (d.slot e.k).regs i.a w, flags := fl, pc := (d.slot e.k).pc + len,
                                         stepping := false, passBrk := false }).setSlotState e.k (d.slot e.k).after := by
  simp [Dev.endPlain, Dev.modSlot, Dev.instrDone, Eff.none, putReg, Dev.effOut, Dev.slot_setSlot_same, hrep, Slot.after, Nat.mod_eq_of_lt hpc]

theorem ran_intro (d : Dev) (k st : Nat) (v : Slot) (h : d.slotState k ≠ 5) : d.ran ((d.setSlot k v).setSlotState k st) k v st := by
  rw [Dev.ran, Dev.setSlotState_eq d k st h, Dev.setSlotState_eq (d.setSlot k v) k st h]
  refine ⟨?_, ?_, ?_, ?_, ?_⟩
  · rw [Dev.slot_wr, Dev.slot_setSlot_same]
  · intro j hj; rw [Dev.slot_wr, Dev.slot_setSlot_other _ _ _ _ hj]
  · intro a; rfl
  · rfl
  · rfl

theorem runPlain_data (d : Dev) (e : CEnv) (i : Insn) (len : Nat) (w : TWord) (fl : BitVec 10) (hi : i.op.isData = true)
    (hr : dataOp (isBowl e.k) e.ovf i (e.opd (Store.get voidWord (d.slot e.k).regs i.a) 0 0)
      (e.opd (Store.get voidWord (d.slot e.k).regs i.b) 1 0) (e.opd (Store.get voidWord (d.slot e.k).regs i.p) 3 0) (d.slot e.k).flags = .ok (w, fl)) :
    d.runPlain e i len = d.endPlain e i len { Eff.none fl with ra := some w } := by
  simp [Dev.runPlain, opRun_data _ _ _ _ _ _ _ hi, hr]

theorem coreRow_data (c : Cells) (d : Dev) (k op a b x v : Nat) (i : Insn) (w : TWord) (fl : BitVec 10)
    (hr : d.ready k (opWords op)) (hop : op < 0x20)
    (hf : fieldsFit (isBowl k) op a b x = true) (hd : decodePage0 (isBowl k) op a b x v = some i) (hi : i.op.isData = true)
    (hw : d.dataResult k i = .ok (w, fl)) :
    d.ran (Dev.coreRow c d k op a b x v) k ((d.slot k).withResult (opWords op) i.a w fl) (d.slot k).after := by
  rw [coreRow_ready c d k op a b x v i hr hop hf hd]
  have hn : (i.op == .repk || i.op == .repr || i.op == .repir) = false := by
    revert hi; cases i.op <;> simp [COp.isData]
  rw [hn]
  simp only [Bool.false_eq_true, if_false]
  obtain ⟨he, -, hrep, hpc, -⟩ := hr
  have hs : (d.modSlot k fun v => { v with resume := none }).slot k = { d.slot k with resume := none } := Dev.slot_setSlot_same _ _ _
  rw [runInsn_data _ _ _ _ hi (by rw [show (coreEnv c d k).k = k from rfl, hs]; exact hrep) (by rw [show (coreEnv c d k).k = k from rfl, hs]; exact hpc)]
  rw [runPlain_data _ _ _ _ w fl hi (by rw [show (coreEnv c d k).k = k from rfl, hs]; exact hw)]
  rw [endPlain_ran _ _ _ _ _ _ (by rw [show (coreEnv c d k).k = k from rfl, hs]; exact hrep) (by rw [show (coreEnv c d k).k = k from rfl, hs]; exact hpc)]
  rw [show (coreEnv c d k).k = k from rfl, hs]
  rw [Dev.modSlot, Dev.setSlot_setSlot]
  exact ran_intro d k _ _ (by rw [Dev.executing_state d k he]; decide)

end Sys2Proof.Machine
end

