-- ==== Sys2Proof/Laws/Memory.lean ====
section
/-! SUPPORT. The laws of the tagged SRAM and of the register file: a read after a write, and the canonical form that every operation keeps. -/

namespace Sys2Proof.Machine

/-! ### The fault log leaves memory alone -/

@[simp] theorem Dev.takeInjection_sram (d : Dev) (f : FaultInfo) : (d.takeInjection f).2.sram = d.sram := by
  unfold Dev.takeInjection; split <;> rfl

@[simp] theorem Dev.countFault_sram (d : Dev) (n : Nat) : (d.countFault n).sram = d.sram := by
  unfold Dev.countFault; split <;> rfl

@[simp] theorem Dev.logLost_sram (d : Dev) : d.logLost.sram = d.sram := (rfl)

@[simp] theorem Dev.placeFault_sram (d : Dev) (f : FaultInfo) : (d.placeFault f).sram = d.sram := by
  unfold Dev.placeFault
  dsimp only
  split
  · rfl
  · split
    · rfl
    · split
      · rw [Dev.logLost_sram]
      · rfl

@[simp] theorem Dev.beginWake_sram (d : Dev) (n : Nat) (r e : Bool) : (d.beginWake n r e).sram = d.sram := by
  unfold Dev.beginWake
  cases r <;> cases e <;> simp

@[simp] theorem Dev.decline_sram (d : Dev) : d.decline.sram = d.sram := by simp [Dev.decline]

@[simp] theorem Dev.fireWake_sram (d : Dev) (n : Nat) : (d.fireWake n).sram = d.sram := by
  unfold Dev.fireWake
  dsimp only
  split
  · simp
  · split
    · split <;> simp
    · split
      · rfl
      · split
        · split
          · rfl
          · simp
        · rfl

@[simp] theorem Dev.setLevel_sram (d : Dev) (n : Nat) (b : Bool) : (d.setLevel n b).sram = d.sram := by
  unfold Dev.setLevel
  dsimp only
  split
  · rw [Dev.fireWake_sram]
  · rfl

@[simp] theorem Dev.sluiceWake_sram (d : Dev) : d.sluiceWake.sram = d.sram := by
  unfold Dev.sluiceWake; split <;> simp

@[simp] theorem Dev.fault_sram (d : Dev) (f : FaultInfo) : (d.fault f).sram = d.sram := by
  unfold Dev.fault; simp

@[simp] theorem Dev.startBankCopy_sram (d : Dev) (c : BankCopy) : (d.startBankCopy c).sram = d.sram := (rfl)

@[simp] theorem Dev.replaceRow_sram (d : Dev) (l p r : Nat) : (d.replaceRow l p r).sram = d.sram := by
  unfold Dev.replaceRow
  split
  · rfl
  · split
    · rfl
    · split
      · split <;> rfl
      · split <;> simp

@[simp] theorem Dev.noteRowError_sram (d : Dev) (l p a : Nat) (u : Bool) : (d.noteRowError l p a u).sram = d.sram := by
  unfold Dev.noteRowError
  dsimp only
  split <;> simp

/-! ### Words -/

/-- A word reads back as it was stored, with a fresh code. -/
@[simp] theorem Dev.word_putWord_same (d : Dev) (a : Nat) (w : TWord) : (d.putWord a w).word a = ⟨w.data, w.tag, 0#43⟩ :=
  Store.get_put_same _ _ _ _

/-- A store leaves every other word alone. -/
theorem Dev.word_putWord_other (d : Dev) (a b : Nat) (w : TWord) (h : b / 4 ≠ a / 4) : (d.putWord a w).word b = d.word b :=
  Store.get_put_other _ _ _ _ _ _ h

theorem Dev.word_sramWrite_other (d : Dev) (a b : Nat) (w : TWord) (h : b / 4 ≠ a / 4) : (d.sramWrite a w).word b = d.word b := by
  unfold Dev.sramWrite
  split
  · rfl
  · exact Dev.word_putWord_other d a b w h

/-- A clean word is read as it stands, and the read changes nothing. -/
theorem Dev.sramRead_clean (d : Dev) (a : Nat) (hd : d.bankDead a = false) (hf : flipCount (d.word a).flip = 0) :
    d.sramRead a = (⟨(d.word a).data, (d.word a).tag⟩, d) := by
  simp [Dev.sramRead, Dev.sramReadBy, hd, hf]

theorem Dev.word_of_sram {d e : Dev} (h : e.sram = d.sram) (a : Nat) : e.word a = d.word a := by
  unfold Dev.word; rw [h]

/-- A read changes no word but the one it reads, which it may correct. -/
theorem Dev.word_sramReadBy_other (d : Dev) (a b : Nat) (who : Nat × Nat) (h : b / 4 ≠ a / 4) :
    (d.sramReadBy a who).2.word b = d.word b := by
  unfold Dev.sramReadBy
  split
  · rfl
  · dsimp only
    split
    · rfl
    · rw [Dev.word_of_sram (by simp : _ = (d.putWord a ⟨(d.word a).data, (d.word a).tag⟩).sram), Dev.word_putWord_other _ _ _ _ h]
    · rw [Dev.word_of_sram (by simp : _ = (d.putWord a ⟨(d.word a).data ^^^ (d.word a).flip.setWidth 32, .poison⟩).sram),
        Dev.word_putWord_other _ _ _ _ h]

theorem Dev.word_sramRead_other (d : Dev) (a b : Nat) (h : b / 4 ≠ a / 4) : (d.sramRead a).2.word b = d.word b :=
  Dev.word_sramReadBy_other d a b unitAgent h

/-! ### The canonical form -/

theorem Dev.sramWf_of_sram {d e : Dev} (h : e.sram = d.sram) (hw : d.sramWf = true) : e.sramWf = true := by
  unfold Dev.sramWf at *; rw [h]; exact hw

theorem Dev.sramWf_putWord (d : Dev) (a : Nat) (w : TWord) (h : d.sramWf = true) : (d.putWord a w).sramWf = true :=
  Store.wf_put (fun _ => SramWord.blank) d.sram (a / 4) _ h

theorem Dev.sramWf_sramWrite (d : Dev) (a : Nat) (w : TWord) (h : d.sramWf = true) : (d.sramWrite a w).sramWf = true := by
  unfold Dev.sramWrite
  split
  · exact h
  · exact Dev.sramWf_putWord d a w h

theorem Dev.sramWf_sramReadBy (d : Dev) (a : Nat) (who : Nat × Nat) (h : d.sramWf = true) : (d.sramReadBy a who).2.sramWf = true := by
  unfold Dev.sramReadBy
  split
  · exact h
  · dsimp only
    split
    · exact h
    · exact Dev.sramWf_of_sram (by simp : _ = (d.putWord a ⟨(d.word a).data, (d.word a).tag⟩).sram) (Dev.sramWf_putWord _ _ _ h)
    · exact Dev.sramWf_of_sram (by simp : _ = (d.putWord a ⟨(d.word a).data ^^^ (d.word a).flip.setWidth 32, .poison⟩).sram)
        (Dev.sramWf_putWord _ _ _ h)

theorem Dev.sramWf_sramRead (d : Dev) (a : Nat) (h : d.sramWf = true) : (d.sramRead a).2.sramWf = true := Dev.sramWf_sramReadBy d a unitAgent h

theorem Dev.sramWf_setTag (d : Dev) (a : Nat) (t : Tag) (who : Nat × Nat) (h : d.sramWf = true) : (d.setTag a t who).sramWf = true :=
  Dev.sramWf_sramWrite _ _ _ (Dev.sramWf_sramReadBy d a who h)

theorem Dev.sramWf_sramReads (n : Nat) (d : Dev) (a : Nat) (h : d.sramWf = true) : (d.sramReads a n).2.sramWf = true := by
  induction n generalizing d a with
  | zero => exact h
  | succ n ih => exact ih _ _ (Dev.sramWf_sramRead d a h)

theorem Dev.sramWf_sramWrites (ws : List TWord) (d : Dev) (a : Nat) (h : d.sramWf = true) : (d.sramWrites a ws).sramWf = true := by
  induction ws generalizing d a with
  | nil => exact h
  | cons w ws ih => exact ih _ _ (Dev.sramWf_sramWrite d a w h)

theorem Dev.sramWf_upset (d : Dev) (a : Nat) (m : BitVec 43) (h : d.sramWf = true) : (d.upset a m).sramWf = true :=
  Store.wf_put (fun _ => SramWord.blank) d.sram (a / 4) _ h

/-- Reset memory lists nothing. -/
theorem reset_sramWf : State.reset.dev.sramWf = true := by decide

/-- A register write keeps the register file's canonical form. -/
theorem Dev.regsWf_setReg (d : Dev) (a : Nat) (w : Word) (h : d.regsWf = true) : (d.setReg a w).regsWf = true :=
  Store.wf_put resetWord d.regs a w h

theorem Dev.regsWf_wr (d : Dev) (f : Fld) (v : Nat) (h : d.regsWf = true) : (d.wr f v).regsWf = true := Dev.regsWf_setReg _ _ _ h

end Sys2Proof.Machine
end

