-- ==== Sys2Proof/Laws/Outcome.lean ====
section
/-! SUPPORT. What the four shapes of a command can do, said once: the queue and, but for the commands of the lock cells, the cells stand. -/

namespace Sys2Proof.Machine

/-- A command of the shape `onDev` gives the device that its function gives. -/
theorem gives_onDev {c : Instr} {s : State} {f : Dev → Dev} {P : Dev → Prop} (h : exec c s = onDev s f) (hp : P (f s.dev)) : Gives c s P :=
  ⟨_, h, rfl, rfl, hp⟩

/-- A command of the shape `onDevC` gives the device that its function gives from the lock cells and the device. -/
theorem gives_onDevC {c : Instr} {s : State} {f : Cells → Dev → Dev} {P : Dev → Prop} (h : exec c s = onDevC s f)
    (hp : P (f s.cells s.dev)) : Gives c s P :=
  ⟨_, h, rfl, rfl, hp⟩

/-- A master's access to an open block gives the device that its function gives. -/
theorem gives_onBus {c : Instr} {s : State} {u : Nat} {f : Dev → Dev} {P : Dev → Prop} (h : exec c s = onBus s u f)
    (ho : s.dev.blockOpen u = true) (hp : P (f s.dev)) : Gives c s P :=
  gives_onDev h (by simpa [ho] using hp)

/-- A master's access to a block that is not open leaves the device. -/
theorem gives_onBus_closed {c : Instr} {s : State} {u : Nat} {f : Dev → Dev} {P : Dev → Prop} (h : exec c s = onBus s u f)
    (ho : s.dev.blockOpen u = false) (hp : P s.dev) : Gives c s P :=
  gives_onDev h (by simpa [ho] using hp)

/-- A master's access to an open block gives the device that its function gives from the lock cells and the device. -/
theorem gives_onBusC {c : Instr} {s : State} {u : Nat} {f : Cells → Dev → Dev} {P : Dev → Prop} (h : exec c s = onBusC s u f)
    (ho : s.dev.blockOpen u = true) (hp : P (f s.cells s.dev)) : Gives c s P :=
  gives_onDevC h (by simpa [ho] using hp)

/-- What a command gives in one way it gives in every weaker way. -/
theorem Gives.mono {c : Instr} {s : State} {P Q : Dev → Prop} (h : Gives c s P) (hq : ∀ e, P e → Q e) : Gives c s Q := by
  obtain ⟨t, h1, h2, h3, h4⟩ := h
  exact ⟨t, h1, h2, h3, hq _ h4⟩

theorem regsBut_refl (d : Dev) (l : List Nat) : regsBut d d l := fun _ _ => rfl

theorem regsBut_trans {d e f : Dev} {l m : List Nat} (h : regsBut d e l) (k : regsBut e f m) : regsBut d f (l ++ m) := by
  intro a ha
  rw [List.mem_append, not_or] at ha
  rw [k a ha.2, h a ha.1]

theorem regsBut_mono {d e : Dev} {l m : List Nat} (h : regsBut d e l) (hm : ∀ a, a ∈ l → a ∈ m) : regsBut d e m :=
  fun a ha => h a fun hl => ha (hm a hl)

end Sys2Proof.Machine
end

