-- ==== Sys2Proof/WellFormed.lean ====
section
/-! DEFINITION. Well-formed commands: which operands the interface can carry.  An instruction of a Spindle slot names registers S0 to S7 and
an extension word of 12 bits (R247); what the physical world supplies lies in the range of the field that reports it. -/

namespace Sys2Proof


/-- A value of 16 or of 32 bits in two's complement. -/
def word16 (v : Int) : Bool := -32768 ≤ v && v < 32768
def word32 (v : Int) : Bool := -2147483648 ≤ v && v < 2147483648

/-- At most `n` discriminator samples, each a frequency in Hz of 32 bits. -/
def samples (n : Nat) (z : List Int) : Bool := decide (z.length ≤ n) && z.all word32

/-- A temperature in degrees Celsius, not below absolute zero and within a 16-bit sensor value. -/
def celsius (v : Int) : Bool := -273 ≤ v && v < 32768

/-- The register field of a Flume selector. -/
def FlumeSel.field : FlumeSel → Nat
  | .imm _ => 0
  | .reg b => b.val

/-- Whether the register fields and the extension word fit the words of slot `k`'s kind (R247): every value fits a Bowl slot, 8 to 11. -/
def fits (k : Fin 12) (regs : List Nat) (x : Nat) : Bool := decide (8 ≤ k.val) || (regs.all (fun r => decide (r < 8)) && decide (x < 4096))

/-- Whether the interface can carry a command. -/
def Instr.wf : Instr → Bool
  | .registerWrite _ _ _ _ => true
  | .tagAliasWrite _ _ _ => true
  | .portEn _ _ => true
  | .agcStep _ _ => true
  | .preambleDeclaration _ _ _ z pw => samples 63 z && decide (pw < 2 ^ 96)
  | .syncMatch _ _ _ z energy _ _ => samples 16 z && decide (energy < 2 ^ 112)
  | .syncTimeout _ _ => true
  | .phrEnd _ _ z pw => samples 32 z && decide (pw < 2 ^ 96)
  | .lastOctet _ octets z => decide (octets.length ≤ 2047) && samples 32752 z
  | .fade _ octets z => decide (octets.length ≤ 2047) && samples 32752 z
  | .laneDrainEnd _ => true
  | .laneAbort _ => true
  | .laneAbortAll _ => true
  | .blankEnd _ => true
  | .laneTestEnd _ _ => true
  | .arm _ _ => true
  | .armResync _ _ => true
  | .disarm _ _ => true
  | .rebuild _ => true
  | .eventDue _ => true
  | .listenEnd _ => true
  | .commitHeard _ _ _ => true
  | .commitMissed _ _ _ => true
  | .commitSent _ _ _ => true
  | .commitNotSent _ _ _ => true
  | .commitLose _ _ _ => true
  | .commitRelease _ _ _ => true
  | .synEn _ _ temp => celsius temp
  | .fcWrite _ _ temp => celsius temp
  | .calibrationDone _ temp => celsius temp
  | .lockAchieved _ => true
  | .lockFailure _ => true
  | .calGo _ _ => true
  | .calFlush _ => true
  | .calHeldStart _ => true
  | .scheduledDescriptor _ => true
  | .freeDescriptor _ _ => true
  | .claim _ _ temp => celsius temp
  | .clearance _ _ => true
  | .rampStart _ _ => true
  | .lastSymbolEnd _ _ => true
  | .paOff _ _ => true
  | .txAbortNow _ => true
  | .txAbortFree _ => true
  | .txAbortAll _ => true
  | .dwellCut _ _ => true
  | .weirSelfCheckFail _ => true
  | .supplyRuleRelease _ => true
  | .vpaLow _ => true
  | .jobDispatch _ => true
  | .jobComplete _ => true
  | .keyWrite _ => true
  | .acquire _ => true
  | .renew _ => true
  | .release _ => true
  | .lockBreak _ => true
  | .flumeEnable _ _ _ _ => true
  | .flumeDisable _ _ _ _ => true
  | .flumePush _ _ => true
  | .flumePop _ => true
  | .stalledReadDone _ => true
  | .stallTrap _ => true
  | .linkTraining _ _ => true
  | .noreply _ => true
  | .backoffEnd _ => true
  | .lossOfSignal _ => true
  | .aqRxHeader _ _ _ => true
  | .aqRxFrameEnd _ octets _ _ clkoff _ => decide (octets.length ≤ 4095) && word16 clkoff
  | .aqTxDescriptor _ _ => true
  | .aqFrameBoundary _ _ => true
  | .aqTxDone _ => true
  | .aqPortEn _ _ _ => true
  | .retrain _ => true
  | .drop _ => true
  | .aqPortFault _ => true
  | .aqLineActivity _ => true
  | .mov k a b => fits k [a.val, b.val] 0
  | .add k a b => fits k [a.val, b.val] 0
  | .sub k a b => fits k [a.val, b.val] 0
  | .mul k a b => fits k [a.val, b.val] 0
  | .div k a b => fits k [a.val, b.val] 0
  | .and k a b => fits k [a.val, b.val] 0
  | .or k a b => fits k [a.val, b.val] 0
  | .xor k a b => fits k [a.val, b.val] 0
  | .shl k a b => fits k [a.val, b.val] 0
  | .shr k a b => fits k [a.val, b.val] 0
  | .sar k a b => fits k [a.val, b.val] 0
  | .rol k a b => fits k [a.val, b.val] 0
  | .eq k a b => fits k [a.val, b.val] 0
  | .lt k a b => fits k [a.val, b.val] 0
  | .le k a b => fits k [a.val, b.val] 0
  | .neg k a => fits k [a.val] 0
  | .not k a => fits k [a.val] 0
  | .isz k a => fits k [a.val] 0
  | .isneg k a => fits k [a.val] 0
  | .par k a => fits k [a.val] 0
  | .brev k a => fits k [a.val] 0
  | .brevb k a => fits k [a.val] 0
  | .hdptr k a => fits k [a.val] 0
  | .tagof k a b => fits k [a.val, b.val] 0
  | .retag k a b x => fits k [a.val, b.val] x.toNat
  | .ld k a b x => fits k [a.val, b.val] x.toNat
  | .st k a b x => fits k [a.val, b.val] x.toNat
  | .lit k a _ _ => fits k [a.val] 0
  | .imm k a _ x => fits k [a.val] x.toNat
  | .addi k a x => fits k [a.val] x.toNat
  | .andi k a x => fits k [a.val] x.toNat
  | .ori k a x => fits k [a.val] x.toNat
  | .xori k a x => fits k [a.val] x.toNat
  | .shli k a x => fits k [a.val] x.toNat
  | .shri k a x => fits k [a.val] x.toNat
  | .eqi k a x => fits k [a.val] x.toNat
  | .lti k a x => fits k [a.val] x.toNat
  | .extb k a b _ => fits k [a.val, b.val] 0
  | .insb k a b _ => fits k [a.val, b.val] 0
  | .crcr k a b p => fits k [a.val, b.val, p.val] 0
  | .crcrw k a b p => fits k [a.val, b.val, p.val] 0
  | .crcl k a b p => fits k [a.val, b.val, p.val] 0
  | .crclw k a b p => fits k [a.val, b.val, p.val] 0
  | .get k a f => fits k [a.val, f.field] 0
  | .getn k a f => fits k [a.val, f.field] 0
  | .put k a f => fits k [a.val, f.field] 0
  | .pute k a f => fits k [a.val, f.field] 0
  | .free k a f => fits k [a.val, f.field] 0
  | .pkts k a f => fits k [a.val, f.field] 0
  | .ldp k a b => fits k [a.val, b.val] 0
  | .stp k a b => fits k [a.val, b.val] 0
  | .addm k a b => fits k [a.val, b.val] 0
  | .crcrm k a b p => fits k [a.val, b.val, p.val] 0
  | .crclm k a b p => fits k [a.val, b.val, p.val] 0
  | .tli k a b => fits k [a.val, b.val] 0
  | .bt k a x => fits k [a.val] x.toNat
  | .bf k a x => fits k [a.val] x.toNat
  | .bfs k bit x => fits k [bit.val] x.toNat
  | .bfc k bit x => fits k [bit.val] x.toNat
  | .jmp k x => fits k [] x.toNat
  | .call k x => fits k [] x.toNat
  | .trap k x => fits k [] x.toNat
  | .jr k a => fits k [a.val] 0
  | .callr k a => fits k [a.val] 0
  | .ret _ => true
  | .tret _ _ => true
  | .wait _ => true
  | .nop _ => true
  | .repr k a => fits k [a.val] 0
  | .repir k a => fits k [a.val] 0
  | .crd k a _ => fits k [a.val] 0
  | .cwr k a _ => fits k [a.val] 0
  | .repk k _ count => decide (8 ≤ k.val) || decide (count.val < 32)
  | .feat k a _ => fits k [a.val] 0
  | .customInstruction _ _ _ _ _ => true
  | .waitResume _ => true
  | .start _ => true
  | .halt _ => true
  | .step _ => true
  | .reset _ _ => true
  | .kick _ => true
  | .plDataWrite _ => true
  | .dbgSelWrite _ => true
  | .dbgDataWrite _ => true
  | .rowCopyDone _ _ => true
  | .program _ _ => true
  | .erase _ => true
  | .programDone _ => true
  | .eraseDone left => decide (left.length ≤ 2048)
  | .lockCellDone _ => true
  | .modeWrite _ => true
  | .entryComplete _ => true
  | .wake upsets => decide (upsets.sram.length ≤ 1572864) && upsets.sram.all (fun u => decide (u.1.toNat < 1572864)) && decide (upsets.code.length ≤ 4194304)
  | .rippleCall _ _ line => decide (line.rate < 65536) && decide (line.chips.length ≤ 4096)
  | .rippleActivity x => decide (x.peaks.length ≤ 255)
  | .vStartHoldEnd _ => true
  | .vwellLow _ => true
  | .vwellPowerOn _ => true
  | .sourceSwitch _ => true
  | .resetNPulse ns _ => decide (ns < 4294967296)
  | .unitReset _ => true
  | .tickVote _ _ _ => true
  | .timerWrap _ => true
  | .timerMatch _ => true
  | .cmpWrite _ _ => true
  | .timerArm _ _ => true
  | .dmonArm _ _ _ => true
  | .dmonDisarm _ _ => true
  | .deadlineExpiry _ => true
  | .timeWrite _ => true
  | .dateWrite _ => true
  | .weekdayWrite _ => true
  | .mainsEdge _ => true
  | .netMark _ => true
  | .trimWrite _ => true
  | .logRetire _ => true
  | .coreCheckFail _ _ _ _ _ => true
  | .laneSelfCheckFail _ => true
  | .rotationStep _ => true
  | .liveTestDone _ _ _ => true
  | .testNow _ _ => true
  | .fence _ _ _ => true
  | .retest _ _ => true
  | .fatalFault _ _ _ => true
  | .hbFeed _ => true
  | .injCtrlWrite _ => true
  | .packetComplete arr => match arr with
    | .uart octets => decide (octets.length ≤ 1030)
    | .ota => true
  | .uartGap _ => true
  | .cmdFifoWrite _ => true
  | .selectRise _ => true
  | .qspGo _ => true
  | .qspAbort _ => true
  | .qspFrameDone _ _ data => decide (data.length ≤ 4096)
  | .mapLoad _ data => decide (data.length ≤ 64)
  | .amHeader _ => true
  | .amChunk _ => true
  | .chunkStored _ => true
  | .chiselResultTimeout _ => true
  | .activate _ => true
  | .healthConfirm _ => true
  | .chiselCoreFailure _ => true
  | .continuousSelfCheckFail _ _ => true
  | .gpwakePin _ _ => true
  | .uartOversizeHeader _ _ len => decide (1024 < len.toNat)
  | .laneConversion _ => true
  | .rebuildDone _ => true
  | .allocationWindow => true
  | .latheWakeRequest => true
  | .ledgerBucketBoundary => true
  | .keyRead => true
  | .leaseExpiry => true
  | .wseqLoRead => true
  | .plDataRead => true
  | .plCopyDone => true
  | .plCheck => true
  | .plCheckDone => true
  | .bootLoadDone => true
  | .scrub => true
  | .bankCopyDone => true
  | .optWrite => true
  | .lock => true
  | .suspend => true
  | .resume => true
  | .cancel => true
  | .sequenceTimeout => true
  | .suspendTakesEffect => true
  | .optWriteDone => true
  | .supplyHoldEnd => true
  | .entryAccept => true
  | .entryLimitExpiry => true
  | .vmainWarn => true
  | .vmainRecovery => true
  | .brownOut => true
  | .vbakLow => true
  | .trimCorrection => true
  | .tickLoRead => true
  | .secondBoundary => true
  | .subsecRead => true
  | .measGo => true
  | .noref => true
  | .approve => true
  | .fResetAgesOut => true
  | .fatalAck => true
  | .heartbeatTick => true
  | .engineTake => true
  | .ping => true
  | .info => true
  | .read => true
  | .readFix => true
  | .readTag => true
  | .write => true
  | .writeFix => true
  | .modify => true
  | .fill => true
  | .cistProg => true
  | .cistErase => true
  | .spoutOptWrite => true
  | .optLock => true
  | .power => true
  | .resetCore => true
  | .factory => true
  | .echo => true
  | .softForward => true
  | .softAnswer => true
  | .softTimeout => true
  | .replyFifoRead => true
  | .sctrlGo => true
  | .sctrlAck => true
  | .sctrlFlush => true
  | .mapEnClear => true
  | .receptionOpen => true
  | .slotConversion => true
  | .quietExpiry => true
  | .trialExpiry => true
  | .revert => true
  | .tickEdge => true
  | .fineEdge => true
  | .vbakRecovery => true
  | .uartFramingError => true
  | .uartReplySent => true

end Sys2Proof
end

