-- ==== Sys2Proof/Tests/Slice0.lean ====
section
/-! SUPPORT. Tests: ill-formed commands that the check refuses, the spec's worked values, and for every statement concrete states that meet
the hypotheses of its clauses together. -/

namespace Sys2Proof.Tests

section Checks

set_option Elab.async false

open Sys2Proof.Machine

/-! ### Small states -/

/-- The machine with device `d`: nothing waits, no lock is set. -/
def at_ (d : Dev) : State := ⟨[], ⟨0#11, false⟩, d⟩

/-- The device after command `c`. -/
def run (c : Instr) (d : Dev) : Dev := match exec c (at_ d) with
  | .next t => t.dev
  | _ => d

/-- The device in RUN, the core domain on. -/
def base : Dev := { Dev.reset.wr WELL.STATUS_STATE 0 with well := { Dev.reset.well with coreOff := false } }

/-- TICK at `n`. -/
def clk (n : Nat) (d : Dev) : Dev :=
  { d with clep := { d.clep with tickA := BitVec.ofNat 48 n, tickB := BitVec.ofNat 48 n, tickC := BitVec.ofNat 48 n } }

/-- Flume `n` enabled with one unit. -/
def fl (n : Nat) (d : Dev) : Dev := ((d.wr (FLUME.CFG_EN n) 1).wr (FLUME.CFG_SIZE n) 1).wr (FLUME.CFG_BASE n) n

/-- Flume `n` holding `es`. -/
def holding (n : Nat) (es : List FEntry) (d : Dev) : Dev := (fl n d).setFlume n { Flume.empty with entries := es, pkts := es.length }

/-- A tagged word. -/
def tw (n : Nat) (t : Tag) : TWord := ⟨Word.ofNat n, t⟩

/-- Slot `k` running with eight registers of the common kinds. -/
def core (k : Nat) (d : Dev) : Dev :=
  let v : Slot := { Slot.reset with
    pc := 0x100, regs := [(0, tw 5 .nat), (1, tw 0x400010 .dptr), (2, tw 7 .int), (3, tw 1 .bool), (4, tw 0x321 .cptr), (5, tw 9 .ctx),
      (6, tw 0x20 .nat), (7, tw 0x18000 .fix)] }
  (d.setSlot k v).setSlotState k 1

/-- Slot `k` as `f` makes it. -/
def slotAs (k : Nat) (f : Slot → Slot) (d : Dev) : Dev := d.modSlot k f

/-- A memory of empty entries reads as its default everywhere. -/
theorem get_nil {α : Type} (x : α) (s : Store α) (h : s = []) (k : Nat) : Store.get x s k = x := by subst h; rfl

/-- The packet `ws` at the head of Flume `n`. -/
def withDesc (n : Nat) (ws : List TWord) (d : Dev) : Dev := d.setFlume n { Flume.empty with entries := packet ws, pkts := 1 }

/-! ### Ill-formed commands: what the interface cannot carry, the check refuses -/

theorem test_wf_samples :
    Instr.wf (.preambleDeclaration 0 ⟨0, 0⟩ 0 (List.replicate 64 0) 0) = false ∧ Instr.wf (.preambleDeclaration 0 ⟨0, 0⟩ 0 [2147483648] 0) = false ∧
    Instr.wf (.preambleDeclaration 0 ⟨0, 0⟩ 0 [] (2 ^ 96)) = false ∧ Instr.wf (.syncMatch 0 0#48 0#10 (List.replicate 17 0) 0 1#16 0#10) = false ∧
    Instr.wf (.syncMatch 0 0#48 0#10 [] (2 ^ 112) 1#16 0#10) = false ∧ Instr.wf (.phrEnd 0 0#16 [-2147483649] 0) = false ∧
    Instr.wf (.phrEnd 0 0#16 [] (2 ^ 96)) = false ∧ Instr.wf (.lastOctet 0 (List.replicate 2048 0#8) []) = false ∧
    Instr.wf (.lastOctet 0 [] [2147483648]) = false ∧ Instr.wf (.fade 0 (List.replicate 2048 0#8) []) = false ∧
    Instr.wf (.fade 0 [] [2147483648]) = false := by
  decide +kernel

theorem test_wf_temperature : Instr.wf (.synEn 0 true (-274)) = false ∧ Instr.wf (.fcWrite 1 0#30 32768) = false ∧
    Instr.wf (.calibrationDone 0 (-274)) = false ∧ Instr.wf (.claim 1 0#10 (-274)) = false := by decide

theorem test_wf_cable_and_call : Instr.wf (.aqRxFrameEnd 0 (List.replicate 4096 0#8) 0#32 [] 0 0#10) = false ∧
    Instr.wf (.aqRxFrameEnd 0 [] 0#32 [] 32768 0#10) = false ∧ Instr.wf (.rippleCall 0 0#30 ⟨65536, []⟩) = false ∧
    Instr.wf (.rippleCall 0 0#30 ⟨0, List.replicate 4097 false⟩) = false ∧ Instr.wf (.rippleActivity ⟨0, List.replicate 256 0, false⟩) = false ∧
    Instr.wf (.resetNPulse 4294967296 false) = false := by decide +kernel

theorem test_wf_lists : Instr.wf (.eraseDone (List.replicate 2049 0#11)) = false ∧ Instr.wf (.wake ⟨[(1572864#21, 1#43)], []⟩) = false ∧
    Instr.wf (.qspFrameDone 0 0#13 (List.replicate 4097 0#8)) = false ∧ Instr.wf (.mapLoad ⟨.bowl 0, 0#24⟩ (List.replicate 65 0#8)) = false ∧
    Instr.wf (.packetComplete (.uart (List.replicate 1031 0#8))) = false ∧ Instr.wf (.uartOversizeHeader 0#8 0#8 1024#16) = false := by decide +kernel

theorem test_wf_spindle_fields : Instr.wf (.add 7 8 0) = false ∧ Instr.wf (.add 7 0 8) = false ∧ Instr.wf (.addi 0 0 4096#14) = false ∧
    Instr.wf (.crcr 0 0 0 8) = false ∧ Instr.wf (.get 0 0 (.reg 8)) = false ∧ Instr.wf (.jmp 3 4096#14) = false ∧
    Instr.wf (.repk 0 false 32) = false ∧ Instr.wf (.add 8 15 15) = true ∧ Instr.wf (.add 7 7 7) = true := by decide

/-- A word of a Spindle slot holds no register 8: no program contains the command, and nothing happens. -/
theorem test_ill_formed_core_row : step { at_ (core 7 base) with pending := [.add 7 8 0] } = .next (at_ (core 7 base)) := by rfl

/-! ### Worked values of the spec -/

/-- The hop example of R78: COUNTER 500 to 503 with SEED 11 and channels 0 to 3, 31 and 32 cleared. -/
theorem test_hop_channels : [500, 501, 502, 503].map (hopChannel 0xFFFFFFFE7FFFFFF0 11) = [19, 58, 29, 8] ∧
    hopChannel 0xFFFFFFFFFFFFFFFF 11 500 = 15 := by decide +kernel

/-- The window example of R171: H = 1,872, B = 5. -/
theorem test_replay_window :
    replayTest 1873 1872 5 = .ok (1873, 0xB) ∧ replayTest 1870 1872 5 = .ok (1872, 7) ∧ replayTest 1840 1872 5 = .ok (1872, 0x80000005) ∧
    replayTest 1910 1872 5 = .ok (1910, 0) := ⟨rfl, rfl, rfl, rfl⟩

/-- The wake call to address 1 carries CRC 0x07 (R152). -/
theorem test_wake_call_crc : crc8 1 = 7 := by decide +kernel

/-- The PING packet of the host example of chapter 16 ends in 50 01. -/
theorem test_ping_crc : crc16 [0x00#8, 0x07#8, 0x00#8, 0x00#8] = 0x0150 := by decide +kernel

/-- The thermistor table of R262: 37.0 lies between the points 2 and 3 and gives 75.5; 80.0 lies at the end, −3.0 below the table. -/
theorem test_table_look_up :
    tliFind (Word.ofNat (37 * 65536)) 0#32 20 5 = (2, some 327680) ∧
    tliBetween (Word.ofNat (78 * 65536)) (Word.ofNat (70 * 65536)) 327680 20 = 0x004B8000#32 ∧
    tliFind (Word.ofNat (80 * 65536)) 0#32 20 5 = (4, none) ∧ tliFind (BitVec.ofInt 32 (-3 * 65536)) 0#32 20 5 = (0, none) := by decide +kernel

/-! ### Runs of one command -/

theorem test_add_nat : Store.get voidWord ((run (.add 0 0 6) (core 0 base)).slot 0).regs 0 = tw 0x25 .nat ∧
    ((run (.add 0 0 6) (core 0 base)).slot 0).pc = 0x101 := by decide +kernel
theorem test_sub_borrow : ((run (.sub 8 0 6) (core 8 base)).slot 8).flag flagC = true ∧
    Store.get voidWord ((run (.sub 8 0 6) (core 8 base)).slot 8).regs 0 = ⟨0xFFFFFFE5#32, .nat⟩ := by decide +kernel
theorem test_mul_fix : Store.get voidWord ((run (.mul 0 7 7) (core 0 base)).slot 0).regs 7 = tw 0x24000 .fix := by decide +kernel
theorem test_tag_trap : ((run (.add 0 0 1) (core 0 base)).slot 0).flag flagINTRAP = false ∧
    ((run (.mul 0 0 1) (core 0 base)).slot 0).flag flagINTRAP = true ∧ ((run (.mul 0 0 1) (core 0 base)).slot 0).tpc = 0x100 := by decide +kernel
theorem test_store_context : (run (.st 0 2 5 31) (core 0 base)).word (0x400000 + 128 * 9 + 124) = ⟨7#32, .int, 0#43⟩ := by decide +kernel
theorem test_call_returns : ((run (.ret 0) (run (.call 0 0x10) (core 0 base))).slot 0).pc = 0x102 := by decide +kernel
theorem test_push_pop : (run (.flumePop 3) (run (.flumePush 3 77#32) (fl 3 base))).readOut = ⟨77#32, .raw⟩ := by decide +kernel

/-! ### States that meet the hypotheses of the statements: bus and cores -/

theorem witness_StepRunsTheFrontCommand : Instr.wf (.add 8 15 15) = true ∧ Instr.wf (.add 7 8 0) = false ∧ (at_ base).pending = [] := by decide

theorem witness_LockCellsAreOneWay : step (at_ base) = .next (at_ base) := rfl

theorem witness_BusWrites :
    base.mastersUp = true ∧ base.blockOpen 12 = true ∧ base.blockOpen 5 = true ∧
    (0x5FFFFC % 4 = 0 ∧ 0x5FFFFC < 0x600000 ∧ base.bankDead 0x5FFFFC = false) ∧
    (isRegAddr 0x20000FFC = true ∧ regFields 0x20000FFC = []) ∧
    (base.power = 0 ∧ base.sluice.injections = [] ∧ base.sluice.held.length < 64) ∧
    (0x600000 % 4 = 0 ∧ 0x3FFFFFFF % 4 ≠ 0) ∧
    ((0x5FFFFC : BitVec 32).toNat < 0x600000 ∧ flipCount (base.word 0x5FFFFC).flip = 0 ∧ (15#32).toNat < 16) ∧ 16 ≤ (16#32).toNat := by
  decide +kernel

theorem core_ready (k : Nat) (len : Nat) (h : (core k base).executing k = true ∧ (core k base).atBreak k = false ∧ ((core k base).slot k).rep = none ∧
    ((core k base).slot k).pc + len < progSize k) (hs : (core k base).sound k len) : (core k base).ready k len ∧ (core k base).issues k len :=
  ⟨⟨h.1, h.2.1, h.2.2.1, h.2.2.2, hs⟩, h.1, h.2.1, h.2.2.1, Nat.le_of_lt h.2.2.2, hs⟩

theorem ready0 (len : Nat) (h : len ≤ 2) : (core 0 base).ready 0 len ∧ (core 0 base).issues 0 len := by
  have : ((core 0 base).slot 0).pc + 2 < progSize 0 := by decide +kernel
  exact core_ready 0 len ⟨by decide +kernel, by decide +kernel, by decide +kernel, by omega⟩ fun _ _ _ _ => rfl

theorem ready8 (len : Nat) (h : len ≤ 2) : (core 8 base).ready 8 len ∧ (core 8 base).issues 8 len := by
  have : ((core 8 base).slot 8).pc + 2 < progSize 8 := by decide +kernel
  exact core_ready 8 len ⟨by decide +kernel, by decide +kernel, by decide +kernel, by omega⟩ fun _ _ _ _ => rfl

/-- The first word of an instruction of LB.0 has two bits in error. -/
def brokenAt : Dev :=
  let d := core 8 base
  { d with cores := { d.cores with codeFlip := Store.put 0#55 d.cores.codeFlip (progKey ((d.unitOfSlot 8).getD 0) 0x100) 5#55 } }

theorem test_fetch_trap : ((run (.add 8 0 6) brokenAt).slot 8).tcause = Word.ofNat causeFETCH ∧
    ((run (.add 8 0 6) brokenAt).slot 8).tpc = 0x100 ∧ (run (.add 8 0 6) brokenAt).newest.map LogRec.code = some 0x0B := by decide +kernel

theorem witness_RegisterOperations :
    dataInsn (.add 0 0 6) = some (0, ⟨.add, 0, 6, 0, 0, false, 0⟩, 1) ∧
    (core 0 base).ready 0 1 ∧
    (isBowl 0 = true ∨ (0 < 8 ∧ 6 < 8 ∧ 0 < 8 ∧ 0 < 4096)) ∧
    (∃ w f, (core 0 base).dataResult 0 ⟨.add, 0, 6, 0, 0, false, 0⟩ = .ok (w, f)) ∧
    (∃ t, (core 0 base).dataResult 0 ⟨.mul, 0, 1, 0, 0, false, 0⟩ = .error t ∧ t.cause ≠ causePOISON) ∧
    ((core 0 base).slot 0).flag flagINTRAP = false ∧
    (brokenAt.executing 8 = true ∧ brokenAt.atBreak 8 = false ∧ (brokenAt.slot 8).rep = none ∧ (brokenAt.slot 8).flag flagINTRAP = false ∧
      ∃ u, brokenAt.unitOfSlot 8 = some u ∧ (brokenAt.slot 8).pc + 0 < progSize 8 ∧ brokenAt.codeBad (progKey u ((brokenAt.slot 8).pc + 0)) = true ∧
        brokenAt.power = 0 ∧ brokenAt.sluice.injections = [] ∧ brokenAt.sluice.held.length < 64) :=
  ⟨rfl, (ready0 1 (by decide)).1, .inr (by decide), ⟨_, _, rfl⟩, ⟨_, rfl, by decide⟩, by decide +kernel, by decide +kernel, by decide +kernel,
    by decide +kernel, by decide +kernel, _, rfl, by decide +kernel, by decide +kernel, by decide +kernel, by decide +kernel, by decide +kernel⟩

theorem witness_ArithmeticResults :
    (⟨tw 5 .int, .int, 0, 0⟩ : Opd).eff = .int ∧ (⟨⟨0x7FFFFFFF#32, .user1⟩, .int, 0, 0⟩ : Opd).eff = .int ∧
    (0x7FFFFFFF#32).saddOverflow 1#32 = true ∧ (0x80000000#32).sdiv 0xFFFFFFFF#32 = 0x80000000#32 := by decide

theorem witness_PointerArithmetic :
    (∀ t ∈ [Tag.dptr, .cptr, .time], (⟨tw 8 t, t, 0, 0⟩ : Opd).w.tag = t) ∧ Tag.int ∈ arithTags ∧ Tag.raw ∈ arithTags := by decide

theorem witness_LogicShiftAndComparisonResults :
    Tag.raw ∈ logicTags ∧ Tag.bool ∈ logicTags ∧ Tag.int ∈ ordTags ∧ Tag.time ∈ ordTags ∧ Tag.dptr ∈ ordTags ∧ Tag.key ∉ logicTags := by decide

theorem witness_UnaryImmediateAndOctetResults :
    ((⟨tw 0x80000000 .fix, .fix, 0, 0⟩ : Opd).eff = .fix ∧ (tw 0x80000000 .fix).data = 0x80000000#32 ∧ (tw 5 .user1).data ≠ 0x80000000#32) ∧
    ((⟨tw 5 .user1, .nat, 0, 0⟩ : Opd).eff = .nat ∧ Tag.nat ∈ logicTags ∧ Tag.bool ∈ logicTags ∧ Tag.fix ∉ logicTags ∧ Tag.key ∉ logicTags) ∧
    ((8191#32).toNat < 8192 ∧ 8192 ≤ (8192#32).toNat) ∧ (2 ^ xBits true - 1 < 2 ^ xBits true) ∧ (4095 < 2 ^ xBits false) ∧
    ((⟨.insb, 0, 6, 0, 3, false, 0⟩ : Insn).n < 4 ∧ (⟨tw 9 .bytes, .bytes, 2, 0⟩ : Opd).eff ∈ logicTags) := by decide

theorem witness_EffectiveAddresses :
    (0x400010#32).toNat % 4 = 0 ∧ (0x400011#32).toNat % 4 ≠ 0 ∧ (8191#32).toNat < 8192 ∧ 8192 ≤ (8192#32).toNat ∧
    signed (xBits false) 31 = 31 ∧ signed (xBits false) 0xFFF = -1 := by decide

theorem witness_LoadsBringTheTaggedWord :
    (core 0 base).ready 0 2 ∧
    (0x400010 < 0x600000 ∧ (core 0 base).bankDead 0x400010 = false ∧ flipCount ((core 0 base).word 0x400010).flip = 0) ∧
    effAddr (isBowl 0) ((core 0 base).operand 0 1 1) 0 = .ok 0x400010 ∧ postAddr ((core 0 base).operand 0 1 1) = .ok 0x400010 ∧
    (∃ w f, arith2 ((core 0 base).on (CORES.SCFG_OVF_TRAP 0)) .add ((core 0 base).operand 0 0 0)
      (((core 0 base).putWord 0x400010 (tw 2 .nat)).memOperand 0 0x400010) 0#10 = .ok (w, f)) ∧
    (∃ w, crcOp false true (⟨tw 0 .raw, .raw, 0, 0⟩) (⟨tw 9 .bytes, .bytes, 2, 0⟩) (⟨tw 0x07000000 .raw, .raw, 3, 0⟩) = .ok w) ∧
    (∃ w, crcOp true true (⟨tw 0 .raw, .raw, 0, 0⟩) (⟨tw 9 .bytes, .bytes, 2, 0⟩) (⟨tw 0x07000000 .raw, .raw, 3, 0⟩) = .ok w) :=
  ⟨(ready0 2 (by decide)).1, by decide +kernel, rfl, rfl, ⟨_, _, rfl⟩, ⟨_, rfl⟩, ⟨_, rfl⟩⟩

theorem witness_StoresReplaceOneWord :
    ((core 8 base).ready 8 2 ∧ (core 8 base).bankDead 0x40047C = false) ∧
    effAddr (isBowl 8) ((core 8 base).operand 8 5 1) 31 = .ok 0x4004FC ∧ postAddr ((core 8 base).operand 8 1 1) = .ok 0x400010 :=
  ⟨⟨(ready8 2 (by decide)).1, by decide +kernel⟩, rfl, rfl⟩

/-- A table of two points at 0x500000. -/
def tableAt : Dev :=
  (((((slotAs 8 (fun v => { v with regs := [(0, tw 0x18000 .fix), (1, tw 0x500000 .dptr)] }) (core 8 base)).putWord 0x500000 (tw 0 .fix)).putWord
    0x500004 (tw (20 + 2 * 65536) .nat)).putWord 0x500008 (tw 100 .fix)).putWord 0x50000C (tw 90 .fix))

theorem witness_TableLookUp :
    tableAt.ready 8 2 ∧ isBowl 8 = true ∧
    (tableAt.operand 8 0 0).eff = .fix ∧ (tableAt.operand 8 1 1).eff = .dptr ∧ (tableAt.operand 8 1 1).w.data.toNat = 0x500000 ∧
    (∀ i, i < 4 → 0x500000 + 4 * i < 0x600000 ∧ tableAt.bankDead (0x500000 + 4 * i) = false ∧ flipCount (tableAt.word (0x500000 + 4 * i)).flip = 0) ∧
    (tableAt.word 0x500000).tag = .fix ∧ tableAt.tword 0x500004 = ⟨Word.ofNat (20 + 2 * 65536), .nat⟩ ∧
    (∀ i, i < 2 → tableAt.tword (0x500008 + 4 * i) = ⟨[100#32, 90#32].getD i 0#32, .fix⟩) :=
  ⟨⟨by decide +kernel, by decide +kernel, by decide +kernel, by decide +kernel, fun _ _ _ _ => rfl⟩, by decide +kernel⟩

theorem witness_FlumeReadsOfASlot :
    (((holding 3 [mkEntry 7#32 .nat true false] (core 0 base)).flumeOn 3 = true ∧
      ((holding 3 [mkEntry 7#32 .nat true false] (core 0 base)).flume 3).stalled = []) ∧
      (mkEntry 7#32 .nat true false).bad = false) ∧
    ((fl 63 (core 0 base)).flumeOn 63 = true ∧ ((fl 63 (core 0 base)).flume 63).entries = []) ∧
    ((core 0 base).operand 0 6 1).eff = .nat ∧ ((core 0 base).operand 0 6 1).w.data.toNat = 32 ∧
    (fl 3 (core 0 base)).ready 0 2 := by
  refine ⟨by decide +kernel, by decide +kernel, by decide +kernel, by decide +kernel, by decide +kernel, by decide +kernel, by decide +kernel,
    by decide +kernel, fun _ _ _ _ => rfl⟩

theorem witness_FlumeWritesOfASlot :
    (fl 3 (core 0 base)).flumeOn 3 = true ∧ ((fl 3 (core 0 base)).flume 3).entries.length + 1 < (fl 3 (core 0 base)).rd (FLUME.CFG_SIZE 3) * 64 ∧
    (fl 3 (core 0 base)).sluice.injections = [] ∧
    (∀ j, j < 12 → (fl 3 (core 0 base)).on (CORES.SCFG_WAKEF_EN j) = true → (fl 3 (core 0 base)).rd (CORES.SCFG_WAKEF j) ≠ 3) := by decide +kernel

theorem witness_BranchesCallsAndReturns :
    ((core 0 base).issues 0 2 ∧ (core 0 base).issues 0 1) ∧
    ((core 0 base).operand 0 3 0).eff = .bool ∧ ((core 0 base).operand 0 4 0).eff = .cptr ∧ ((core 0 base).operand 0 4 0).w.data.toNat = 0x321 ∧
    0x321 < progSize 0 ∧ ((core 0 base).slot 0).depth ≠ stackSize 0 ∧ (core 0 base).on (CORES.SCFG_RSTK_TRAP 0) = false ∧
    ((run (.call 0 0x10) (core 0 base)).slot 0).depth ≠ 0 :=
  ⟨⟨(ready0 2 (by decide)).2, (ready0 1 (by decide)).2⟩, by decide +kernel⟩

theorem witness_TrapAndReturn :
    ((core 0 base).issues 0 2 ∧ (core 0 base).issues 0 1) ∧ ((core 0 base).slot 0).flag flagINTRAP = false ∧
    ((run (.trap 0 9) (core 0 base)).slot 0).trapNext = some 0x102 ∧ 0x102 < progSize 0 :=
  ⟨⟨(ready0 2 (by decide)).2, (ready0 1 (by decide)).2⟩, by decide +kernel⟩

theorem witness_RepeatPrefixesAndIterations :
    (core 0 base).ready 0 1 ∧ (31 : Fin 128).val < 32 ∧
    ((core 0 base).operand 0 6 0).eff = .nat ∧ ((core 0 base).operand 0 6 0).w.data.toNat ≤ 64 ∧ 65535 < (65536#32).toNat ∧
    ((core 0 base).slot 0).resume = none ∧ ((core 8 base).executing 8 = true ∧ isBowl 8 = true ∧ 64 < (65 : Fin 128).val ∧ 64 < (65#32).toNat ∧
      ((core 8 base).slot 8).rep = none ∧ ((core 8 base).slot 8).resume = none ∧ ((core 8 base).slot 8).flag flagINTRAP = false) ∧
    ((run (.repk 0 false 2) (core 0 base)).slot 0).rep = some ⟨2, 0x100, false, true⟩ ∧
    ((run (.repk 0 false 1) (core 0 base)).slot 0).rep = some ⟨1, 0x100, false, true⟩ ∧ ((core 0 base).slot 0).stepping = false :=
  ⟨(ready0 1 (by decide)).1, by decide +kernel⟩

theorem witness_WaitParksTheSlot :
    (core 8 base).ready 8 1 ∧ ((core 8 base).slot 8).stepping = false ∧
    ((core 8 base).setF (CORES.STATUS_KICKED 8)).on (CORES.STATUS_KICKED 8) = true ∧ (core 8 base).on (CORES.STATUS_KICKED 8) = false ∧
    (core 8 base).on (CORES.SCFG_WAKEF_EN 8) = false ∧ modeState ((core 8 base).rd WELL.MODE_TARGET) = 0 ∧
    modeState (((core 8 base).wr WELL.MODE_TARGET 2).rd WELL.MODE_TARGET) ≠ 0 ∧ ((core 8 base).wr WELL.MODE_TARGET 2).power = 0 :=
  ⟨(ready8 1 (by decide)).1, by decide +kernel⟩

theorem witness_ControlRegisters :
    (core 8 base).ready 8 1 ∧
    ((core 8 base).operand 8 4 0).eff = .cptr ∧ ((core 8 base).operand 8 3 0).eff ∈ logicTags :=
  ⟨(ready8 1 (by decide)).1, by decide +kernel⟩

/-- The example EMA8 of chapter 11 on LB.1: entry 3, microcode at 0x040, B4 = FIX 20.0, B5 = FIX 28.5. -/
def emaAt : Dev :=
  let d := slotAs 9 (fun v => { v with regs := [(4, ⟨0x00140000#32, .fix⟩), (5, ⟨0x001C8000#32, .fix⟩)] }) (core 9 base)
  let u := (d.unitOfSlot 9).getD 0
  ((((d.putDecode u 3 0x80011840#32).putUcode u 0x40 0x002150000000#48).putUcode u 0x41 0x082140000000#48).putUcode u 0x42
    0x106160008000#48).putUcode u 0x43 0x042900000400#48

theorem test_custom_ema8 :
    Store.get voidWord ((run (.customInstruction 1 3 4 5 0) emaAt).slot 9).regs 4 = ⟨0x00151000#32, .fix⟩ ∧
    ((run (.customInstruction 1 3 4 5 0) emaAt).slot 9).pc = 0x101 := by decide +kernel

theorem witness_CustomInstructionCommitsAtEnd :
    let u := (emaAt.unitOfSlot 9).getD 0
    let w := emaAt.decodeEntry u 3
    let v := emaAt.slot 9
    let d := emaAt.setSlot 9 { v with resume := none }
    emaAt.ready 9 1 ∧ emaAt.unitOfSlot 9 = some u ∧ entryValid w = true ∧
    clsCheck (emaAt.operand 9 4 0) (bitsOf w 12 4) = .ok () ∧ clsCheck (emaAt.operand 9 5 1) (bitsOf w 16 4) = .ok () ∧
    emaAt.codeErr (decodeKey u 3) = 0#55 ∧
    ∃ st f, microRun (coreEnv ⟨0#11, false⟩ emaAt 9) (emaAt.ucodeFetch u) 4 5 none ⟨causeILLEGAL, some (firstWord true 0x23 4 5), 0⟩ 256
      ⟨v.regs, v.flags, ⟨d, []⟩, false, none, []⟩ (bitsOf w 0 10) = .done st f ∧
      (∀ x ∈ st.pcs, emaAt.codeErr (ucodeKey u x) = 0#55) ∧ st.mem.dev = d ∧ st.resv = none ∧ f.put = none ∧ f.store = none :=
  ⟨⟨by decide +kernel, by decide +kernel, by decide +kernel, by decide +kernel, fun _ _ _ _ => rfl⟩, by decide +kernel, by decide +kernel, rfl, rfl, rfl,
    _, _, rfl, fun _ _ => rfl, rfl, rfl, rfl, rfl⟩

/-- Slot `k` HALTED at its PC. -/
def halted (k : Nat) : Dev := (core k base).setSlotState k 0

/-- Slot `k` parked in WAIT and due to resume. -/
def parked (k : Nat) : Dev := (slotAs k (fun v => { v with resumeDue := true }) (core k base)).setSlotState k 3

/-- LS.0 HALTED before a NOP. -/
def beforeNop : Dev := (halted 0).putProg ((halted 0).unitOfSlot 0 |>.getD 0) 0x100 0x6C5

theorem test_step_runs_nop : ((run (.step 0) beforeNop).slot 0).pc = 0x101 ∧ (run (.step 0) beforeNop).slotState 0 = 0 := by decide +kernel

theorem witness_SlotControl :
    base.blockOpen 17 = true ∧ (halted 0).slotState 0 = 0 ∧ (core 0 base).slotState 0 = 1 ∧ ((core 0 base).slot 0).rep = none ∧
    (∀ n, n < 64 → ((halted 0).flume n).stalled = []) ∧ (halted 0).slotState 0 ≠ 3 ∧ (halted 0).slotState 0 ≠ 6 ∧
    (parked 8).slotState 8 = 3 ∧ (parked 8).running = true ∧ ((parked 8).slot 8).resumeDue = true ∧
    beforeNop.running = true ∧ (beforeNop.unitOfSlot 0).isSome = true ∧
    ((Dev.coreFetch ⟨0#11, false⟩ ((beforeNop.setSlot 0 { beforeNop.slot 0 with passBrk := true, stepping := true, haltAfter := false }).setSlotState 0 1) 0).slot 0).stepping = false ∧
    (beforeNop.slot 0).rep = none ∧ (beforeNop.slot 0).pc + 1 < progSize 0 ∧
    (beforeNop.progWord (beforeNop.unitOfSlot 0 |>.getD 0) (beforeNop.slot 0).pc).toNat = 0x6C5 := by decide +kernel

/-- Every slot HALTED, so that the loader may write every unit. -/
def allHalted : Dev := (List.range 12).foldl (fun d k => d.setSlotState k 0) base

theorem witness_LoaderAccessesMemories :
    base.blockOpen 17 = true ∧ allHalted.plRefusal = none ∧ (((allHalted.wr CORES.PL_CTRL_MEM 3)).plRefusal).isSome = true ∧
    allHalted.plReadUnit.isSome = true ∧ allHalted.rd CORES.PL_ADDR_ADDR < allHalted.plSize ∧
    (allHalted.wr CORES.PL_CTRL_KIND 1).rd CORES.PL_CTRL_KIND ≠ 0 ∧ (allHalted.wr CORES.PL_CTRL_KIND 1).plReadUnit.isSome = true ∧
    ((allHalted.wr CORES.PL_CTRL_KIND 1).wr CORES.PL_CTRL_MEM 1).rd CORES.PL_CTRL_MEM = 1 ∧
    ((allHalted.wr CORES.PL_CTRL_KIND 1).wr CORES.PL_CTRL_MEM 2).rd CORES.PL_CTRL_MEM = 2 := by decide +kernel

/-- A comparison of the Spindle memories runs and no unit is spare. -/
def checkingAt : Dev := { (allHalted.wr (spareFld 2) 15) with cores := { allHalted.cores with checking := some 0 } }

/-- The core domain before its boot load. -/
def bootingAt : Dev := (List.range 12).foldl (fun d k => d.setSlotState k 7) (base.wr CORES.BOOT_STATE 0)

theorem witness_ImageChecksAndBoot :
    checkingAt.cores.checking = some 0 ∧ checkingAt.rd (spareFld (0 + 2)) = 15 ∧ checkingAt.servingKeys 0 ≠ [] ∧
    bootingAt.rd CORES.BOOT_STATE = 0 ∧ bootingAt.on SLUICE.STATUS_STOPPED = false ∧ bootingAt.well.coreOff = false ∧ bootingAt.power = 0 ∧
    (∀ k, k < 12 → bootingAt.slotState k = 7) := by decide +kernel

theorem witness_DebugPort :
    base.blockOpen 17 = true ∧ (bitsOf 0x2F0B#32 0 4 = 11 ∧ bitsOf 0x2F0B#32 8 6 = 47 ∧ (halted 11).slotState 11 = 0 ∧ dbgNames 11 47 = true) ∧
    12 ≤ bitsOf 0xC#32 0 4 ∧ (core 11 base).slotState 11 ≠ 0 ∧ dbgNames 0 63 = false ∧
    ((core 11 base).wr CORES.DBG_SEL_SLOT 11).dbgReach = false ∧
    (∀ r ∈ [0, 15, 16, 17, 18, 24, 32], (((halted 8).wr CORES.DBG_SEL_SLOT 8).wr CORES.DBG_SEL_REG r).rd CORES.DBG_SEL_REG = r ∧ dbgNames 8 r = true) := by
  decide +kernel

theorem witness_FlumeConfiguration :
    base.blockOpen 12 = true ∧
    (base.flumeOn 63 = false ∧ 1 ≤ (1#11).toNat ∧ (1023#10).toNat + (1#11).toNat ≤ 1024 ∧ ∀ m, m < 64 → m ≠ 63 → base.flumeOn m = false) ∧
    ¬ ((1023#10).toNat + (2#11).toNat ≤ 1024) ∧ (fl 3 base).flumeOn 3 = true ∧ ((fl 3 base).flume 3).stalled = [] := by decide +kernel

/-- LB.1 stalled on Flume 3, which holds `es`; `hit` where an edge has reached its stall limit. -/
def stalledAt (es : List FEntry) (hit : Bool) : Dev :=
  ((slotAs 9 (fun v => { v with pend := some ⟨3, 2, 2⟩ }) (core 9 (fl 3 base))).setFlume 3 { Flume.empty with
    entries := es, pkts := es.length, stalled := [⟨9, 4, hit⟩] }).setSlotState 9 2

theorem witness_StalledReadsEnd :
    (let d := stalledAt [mkEntry 7#32 .nat true false] false;
      (d.slot 9).pend = some ⟨3, 2, 2⟩ ∧ (d.slot 9).rep = none ∧ (d.slot 9).resume = none ∧ (d.flume 3).stalled = [⟨9, 4, false⟩] ∧
      (d.flume 3).entries = [mkEntry 7#32 .nat true false] ∧ (mkEntry 7#32 .nat true false).bad = false ∧ (d.slot 9).pc + 2 < progSize 9) ∧
    (let d := stalledAt [] true;
      (d.flume 3).stalled = [⟨9, 4, true⟩] ∧ (d.slot 9).flag flagINTRAP = false ∧ (d.slot 9).pend = some ⟨3, 2, 2⟩) ∧
    (stalledAt [] false).flumeOn 3 = true := by decide +kernel

/-- Flume 3 full with 63 entries. -/
def fullAt : Dev := holding 3 (List.replicate 63 (mkEntry 1#32 .nat false false)) base

theorem witness_FlumePushAndPop :
    base.blockOpen 12 = true ∧
    ((fl 3 base).flumeOn 3 = true ∧ ((fl 3 base).flume 3).entries.length + 1 < (fl 3 base).rd (FLUME.CFG_SIZE 3) * 64 ∧
      (fl 3 base).sluice.injections = [] ∧ (fl 3 base).on (FLUME.PUSH_ATTR_END 3) = false) ∧
    (fullAt.rd (FLUME.CFG_SIZE 3) * 64 ≤ (fullAt.flume 3).entries.length + 1 ∧ (fullAt.flume 3).openGap = false ∧
      ∀ j, j < 12 → fullAt.on (CORES.SCFG_WAKEF_EN j) = false) ∧
    ((run (.flumePush 3 5#32) fullAt).flumeOn 3 = true ∧ ((run (.flumePush 3 5#32) fullAt).flume 3).openGap = true) ∧ base.flumeOn 63 = false ∧
    (((fl 3 base).flume 3).entries = [] ∧ ((fl 3 base).flume 3).stalled = []) ∧
    ((holding 3 [mkEntry 7#32 .nat true false] base).flume 3).stalled = [] ∧ (mkEntry 7#32 .nat true false).bad = false ∧
    { mkEntry 7#32 .nat true false with p1 := !(mkEntry 7#32 .nat true false).p1 }.bad = true := by decide +kernel

/-! ### Basin and Lathe -/

/-- Port B is active. -/
def portB : Dev := (base.wr (portEnFld 1) 1).wr (RF.SYN_STATUS_STATE 1) 3

/-- Detector 70, port B bin 6, watches profile 2 of that port. -/
def detB : Dev :=
  ((((portB.wr (BASIN.DET_EN 70) 1).wr (BASIN.DET_PROFILE 70) 2).wr (BASIN.DET_PRIO 70) 1).wr (BASIN.PMATCH_MODE 10) 1).wr (BASIN.PMATCH_THR 10) 100

/-- A declaration of it. -/
def decl0 : Decl := ⟨1, 6, 0, 2, 1, 12345, 31, -300, 616, 8⟩

/-- An allocation window with that declaration. -/
def windowAt : Dev := { detB with basin := { detB.basin with decls := [decl0] } }

/-- No lane is in service. -/
def noLanes : Dev :=
  (((List.range 72).foldl (fun d n => d.setLane n { Lane.blank with state := .fenced }) windowAt).wr BASIN.CFG_PREEMPT_EN 0).wr BASIN.CFG_DROP_REC 0

/-- The lane that searches for the declared frame. -/
def laneS : Lane :=
  { Lane.blank with state := .search, group := ⟨1, 6, 0, 2⟩, copy := detB.profileCopy 10, prio := 1, start := 12345, detRssi := -300, foff := 77, zSum := 616, zCount := 8 }

/-- Lane 71 as `l`, Flume 9 giving buffers. -/
def laneAt (l : Lane) (es : List FEntry) : Dev := (holding 9 es (detB.wr (BASIN.PCFG_BUF_FLUME 1) 9)).setLane 71 l

/-- A buffer at the end of packet SRAM. -/
def bufEntry : FEntry := mkEntry 0x5FF800#32 .dptr false false

/-- Sixteen samples of an alternating preamble, and sixteen that do not alternate. -/
def preamble : List Int := (preamblePattern 16).map fun a => 50000 * a
def noise : List Int := (List.range 16).map fun i => if i % 4 < 2 then 50000 else -50000

theorem test_declaration_at_threshold :
    (run (.preambleDeclaration 70 ⟨12#48, 5#10⟩ 40 preamble (10 ^ 20)) detB).basin.decls.map (fun x => (x.start, x.sample, x.rssi, x.zSum, x.zCount)) =
      [(12 * 1024 + 5, 40, -72, 0, 16)] ∧
    (run (.preambleDeclaration 70 ⟨12#48, 5#10⟩ 40 noise (10 ^ 20)) detB).basin.decls = [] := by decide +kernel

theorem test_header_length : decodePhr 1 (buildPhr 1 30 false true) = ⟨30, false, true, true⟩ ∧ buildPhr 1 30 false true = 0x781E#16 := by decide +kernel

/-- The samples of the lane's sync word, its deviations about the offset 77 Hz. -/
def syncZ : List Int := (syncLevels laneS.copy.mode false).map fun a => 10000 * a + 77

theorem test_sync_takes_buffer : ((run (.syncMatch 71 20#48 0#10 syncZ (256 * 10 ^ 20) 256#16 9#10) (laneAt laneS [bufEntry])).lane 71).buf = some 0x5FF800#32 ∧
    ((run (.syncMatch 71 20#48 0#10 syncZ (256 * 10 ^ 20) 256#16 9#10) (laneAt laneS [bufEntry])).lane 71).lqi ≥ 254 := by
  decide +kernel

theorem test_measures : quarterDbm (10 ^ 20) = 0 ∧ quarterDbm (10 ^ 12) = -320 ∧ meanOf 7 2 = 4 ∧ meanOf (-7) 2 = -3 ∧
    evmOf 1 100 = 100 ∧ evmOf 0 100 = 0 ∧ lqiOf [3, -3] [5, -5] = 255 := by decide +kernel

theorem witness_PortsGainAndDeclarations :
    base.blockOpen 8 = true ∧ portB.on (portEnFld 1) = true ∧ (∀ n, n < 72 → (portB.lane n).group.port = 1 → (portB.lane n).state.running = false) ∧
    (portB.portActive 1 = true ∧ portB.blanked 1 = false ∧ portB.on (BASIN.PCFG_AGC_FROZEN 1) = false) ∧
    (portB.wr (BASIN.AGC_INDEX 1) 7).rd (BASIN.AGC_INDEX 1) = 7 ∧ (portB.wr (BASIN.AGC_INDEX 1) 0).rd (BASIN.AGC_INDEX 1) = 0 ∧
    (portB.wr (BASIN.AGC_INDEX 1) 6).rd (BASIN.AGC_INDEX 1) = 6 ∧
    (detB.portActive (detB.detGroup 70).port = true ∧ detB.blanked (detB.detGroup 70).port = false ∧ detB.on (BASIN.DET_EN 70) = true ∧ detB.detBad 70 = false ∧
      preamble.length = max 8 (detB.rd (BASIN.PMATCH_MIN_SYM 10)) ∧ 0 < energy preamble) ∧
    (let d := detB.wr (BASIN.DET_WIDTH 70) 3
     d.portActive (d.detGroup 70).port = true ∧ d.blanked (d.detGroup 70).port = false ∧ d.on (BASIN.DET_EN 70) = true ∧ d.detBad 70 = true) := by
  decide +kernel

theorem windowAt_noPins : windowAt.noPins := ⟨by decide +kernel, fun _ => rfl⟩
theorem noLanes_noPins : noLanes.noPins := ⟨by decide +kernel, fun _ => rfl⟩

theorem witness_AllocationWindow :
    windowAt.noPins ∧ noLanes.noPins ∧
    (windowAt.lathe.windows = [] ∧ windowAt.basin.decls = [decl0] ∧ decl0.port < 2 ∧ decl0.bin < 64 ∧ windowAt.heldLanes ⟨1, 6, 0, 2⟩ = [] ∧
      windowAt.idleLane = some 0 ∧ decl0.sample / 16 < ({ decl0 with sample := decl0.sample + 16 } : Decl).sample / 16 ∧ windowAt.lane 0 = { Lane.blank with idleAt := 0 } ∧ windowAt.activeLanes < windowAt.laneLimit) ∧
    (noLanes.lathe.windows = [] ∧ noLanes.basin.decls = [decl0] ∧ noLanes.heldLanes ⟨1, 6, 0, 2⟩ = [] ∧ noLanes.idleLane = none ∧
      noLanes.on BASIN.CFG_PREEMPT_EN = false ∧ noLanes.on BASIN.CFG_DROP_REC = false) :=
  ⟨windowAt_noPins, noLanes_noPins, by decide +kernel, by decide +kernel⟩

/-- The lane in DEMOD, and with its header received. -/
def laneD : Lane := { laneS with state := .demod, sync := some 3000, buf := some 0x5FF800#32 }
def laneH : Lane := { laneD with recRssi := some (-77), phrLen := 20, copy := { laneD.copy with fadeSym := 4 } }

theorem witness_LaneReception :
    let d := laneAt laneS [bufEntry]
    ((d.lane 71).primary = none ∧ (d.lane 71).shadow = none ∧ d.lathe.windows = []) ∧ (d.lane 71).state = .search ∧
    (laneS.syncFound syncZ = some false ∧ laneS.syncFound [] = none ∧
      (Stamp.inst ⟨20#48, 0#10⟩ - laneS.start - 1) * symbolRate laneS.copy.mode ≤ (laneS.copy.minSym + laneS.copy.syncTimeout) * 33554432) ∧
    (d.flumeOn 9 = true ∧ (d.flume 9).stalled = [] ∧ (d.flume 9).entries = [bufEntry] ∧ bufEntry.bad = false ∧ bufEntry.tag = .dptr ∧
      bufEntry.data.toNat % 32 = 0 ∧ 0x500000 ≤ bufEntry.data.toNat ∧ bufEntry.data.toNat + 2048 ≤ 0x600000) ∧
    ((laneAt laneS []).flumeOn 9 = true ∧ ((laneAt laneS []).flume 9).entries = []) ∧
    (laneS.copy.minSym + laneS.copy.syncTimeout) * 33554432 < (Stamp.inst ⟨2000#48, 0#10⟩ - laneS.start + 1) * symbolRate laneS.copy.mode ∧
    (laneD.state = .demod ∧ laneD.recRssi = none ∧ (decodePhr laneD.copy.mode (buildPhr 1 20 true true)).ok = true ∧
      (decodePhr laneD.copy.mode (buildPhr 1 20 true true)).len ≤ modeMax laneD.copy.mode) ∧
    (decodePhr laneD.copy.mode (buildPhr 1 20 true true ^^^ 0x1000#16)).ok = false ∧
    (laneH.state = .demod ∧ laneH.recRssi ≠ none ∧ (List.replicate 20 0#8).length = laneH.phrLen ∧ laneH.copy.fadeSym ≠ 0) := by decide +kernel

/-- The lane in DRAIN, its record bound for Flume 10. -/
def laneE : Lane := { laneS with state := .drain, drain := some ⟨recordWords 71 laneS 1 0 0, 1, none, none⟩ }
def drainAt : Dev := fl 10 ((laneAt laneE []).wr (BASIN.PCFG_REC_FLUME 1) 10)
def blankedAt : Dev := { portB with rf := Store.put Rf.idle portB.rf 1 { Rf.idle with syn := { Rf.idle.syn with blanked := true } } }

theorem witness_LaneEndings :
    drainAt.noPins ∧
    ((drainAt.lane 71).state = .drain ∧ (drainAt.lane 71).drain = some ⟨recordWords 71 laneS 1 0 0, 1, none, none⟩ ∧
      (drainAt.lane 71).waiting = false ∧ (drainAt.lane 71).pin = none ∧ (recordWords 71 laneS 1 0 0).length = 8) ∧
    drainAt.takesGroup (drainAt.rd (BASIN.PCFG_REC_FLUME 1)) 8 ∧ base.blockOpen 8 = true ∧
    ((laneAt laneS []).lane 71).state = .search ∧ ((laneAt laneD []).lane 71).state = .demod ∧ ((laneAt laneS []).lane 70).state.running = false ∧
    blankedAt.blanked 1 = true ∧ blankedAt.rd (RF.SYN_STATUS_STATE 1) = 3 :=
  ⟨⟨by decide +kernel, fun _ => rfl⟩, by decide +kernel, by unfold Dev.takesGroup Dev.wakesNobody; decide +kernel, by decide +kernel⟩

/-! Lathe: the context record of slot 8,191. -/

/-- One word of the record. -/
def ctxWord (o v : Nat) (t : Tag) (d : Dev) : Dev := d.putWord (ctxAddr 8191 o) ⟨Word.ofNat v, t⟩

/-- A record in a state, LEAD or FOLLOW. -/
def record (lead : Bool) (state : Nat) (d : Dev) : Dev :=
  let d := ctxChecked.foldl (fun d o => ctxWord o 0 .raw d) d
  let d := ctxWord 0 (state + if lead then 256 else 0) .raw d
  let d := ctxWord 0x0C (2 * 2 ^ 16 + 5 * 2 ^ 24) .raw d
  let d := ctxWord 0x10 1 .raw d
  let d := ctxWord 0x18 77 .nat d
  let d := ctxWord 0x1C 1000 .time d
  let d := ctxWord 0x24 32768 .nat d
  let d := ctxWord 0x40 (11 * 2 ^ 16 + 0x30) .raw d
  ctxWord 0x48 (2 ^ 8 + 300 * 2 ^ 16) .raw d

/-- A plan on port A, notices to Flume 3, hand-offs to Flume 11. -/
def latheBase : Dev :=
  fl 11 (fl 4 (fl 3 ((((((((base.wr (LATHE.PLANF_EN 2) 1).wr (LATHE.PLANF_BASE_HZ 2) 868062500).wr (RF.FC_FREQ_HZ 0) 868000000).wr
    (LATHE.PLANC_SPACING_HZ 2) 250000).wr LATHE.NOTE_FLUME_PORT_A 3).wr LATHE.NOTE_FLUME_PORT_B 4).wr LATHE.CTRL_EN 1))))

def follow (state : Nat) : Dev := record false state latheBase
def leading (state : Nat) : Dev := record true state latheBase
/-- A BACKBONE context in slot 8, and word 0x00 of an armed one in slot 10 of its span. -/
def spanned : Dev :=
  let put (k o v : Nat) (t : Tag) (d : Dev) : Dev := d.putWord (ctxAddr k o) ⟨Word.ofNat v, t⟩
  let d := ctxChecked.foldl (fun d o => put 8 o 0 .raw d) latheBase
  let d := put 8 0x10 1 .raw (put 8 0x0C (2 * 2 ^ 16 + 5 * 2 ^ 24) .raw (put 8 0 65536 .raw d))
  put 10 0 1 .raw (put 8 0x48 (2 ^ 8 + 300 * 2 ^ 16) .raw (put 8 0x40 (11 * 2 ^ 16 + 0x30) .raw (put 8 0x24 32768 .nat (put 8 0x18 77 .nat d))))
/-- The record as Lathe reads it. -/
def ctxOf (d : Dev) : Ctx := (d.readCtx 8191).1

theorem reads_record (d : Dev) (h : ∀ o ∈ ctxChecked, (ctxAddr 8191 o < 0x600000 ∧ d.bankDead (ctxAddr 8191 o) = false ∧
    flipCount (d.word (ctxAddr 8191 o)).flip = 0) ∧ (d.word (ctxAddr 8191 o)).tag.bad = false) : d.readsCtx 8191 (ctxOf d) := ⟨h, rfl⟩

/-- The record as an accepted ARM or COMMIT HEARD leaves its first word. -/
def armed (c : Ctx) : Ctx := { c with w00 := setBits (setBits c.w00 24 8 0) 11 1 0 }

/-- The next event of a record, or a blank one. -/
def eventFor (d : Dev) (c : Ctx) : Event := (d.eventOf c).getD ⟨0, 0, 0, 0, 0⟩

theorem test_event_of_follow : ((follow 0).eventOf (armed (ctxOf (follow 0)))).isSome = true := by decide +kernel

theorem witness_ArmingAContext :
    base.blockOpen 10 = true ∧ (8191#13).toNat = 8191 ∧ (follow 0).lathe.rebuilding = false ∧ (follow 0).readsCtx 8191 (ctxOf (follow 0)) ∧
    (follow 1).readsCtx 8191 (ctxOf (follow 1)) ∧ (follow 1).armRefusal (ctxOf (follow 1)) false false ≠ none ∧
    (follow 1).armRefusal (ctxOf (follow 1)) false true ≠ none ∧
    ((follow 0).armRefusal (ctxOf (follow 0)) false false = none ∧
      (follow 0).admits (armed (ctxOf (follow 0))) (eventFor (follow 0) (armed (ctxOf (follow 0))))) ∧
    (let d := clk 5000000 (follow 0)
     let c := ctxOf d
     d.armRefusal c false true = none ∧ c.superv = 0 ∧ d.now + usCeil 20 + d.resyncHalf c < 2 ^ 58 ∧ c.counter < 2 ^ 32) ∧
    (follow 0).spanFree (ctxOf (follow 0)) ∧
    (let c := (spanned.readCtx 8).1
     spanned.readsCtx 8 c ∧ spanned.armRefusal c false false = none ∧ c.kind = 1 ∧ (∀ j, 1 ≤ j → j ≤ 3 → spanned.plainState (8 + j)) ∧
       wordArmed (spanned.tword (ctxAddr (8 + 2) 0)) = true) :=
  ⟨by decide +kernel, rfl, by decide +kernel, reads_record _ (by decide +kernel), reads_record _ (by decide +kernel), by decide +kernel, by decide +kernel,
    ⟨by decide +kernel, by unfold Dev.admits; decide +kernel⟩, by decide +kernel, fun h => absurd h (by decide +kernel),
    ⟨(by decide +kernel : ∀ o ∈ ctxChecked, (ctxAddr 8 o < 0x600000 ∧ spanned.bankDead (ctxAddr 8 o) = false ∧
      flipCount (spanned.word (ctxAddr 8 o)).flip = 0) ∧ (spanned.word (ctxAddr 8 o)).tag.bad = false), rfl⟩, by decide +kernel, by decide +kernel,
    (fun j h1 h2 => by
      have : ∀ j : Fin 4, (ctxAddr (8 + j) 0 < 0x600000 ∧ spanned.bankDead (ctxAddr (8 + j) 0) = false ∧
        flipCount (spanned.word (ctxAddr (8 + j) 0)).flip = 0) ∧ (spanned.tword (ctxAddr (8 + j) 0)).tag ≠ .poison := by decide +kernel
      exact this ⟨j, by omega⟩), by decide +kernel⟩

/-- One held event of the slot. -/
def heldAt (lead : Bool) (ctr : Nat) (d : Dev) : Dev :=
  { d with lathe := { d.lathe with held := [⟨8191, ctr, lead, none, 0, 10, 20, 1, true, false, false⟩] } }

theorem witness_RecordsDisarmAndRebuild :
    ((ctxOf (leading 0)).lead = true ∧ (ctxOf (follow 0)).lead = false ∧ (ctxOf (follow 0)).forceRs = false ∧ (ctxOf (follow 0)).kind = 0 ∧
      (ctxOf (follow 0)).resyncEn = false ∧
      2 * ((125 * 20 * 1 * 32768 + 16000 * 32768 + 32767) / 32768) ≤ clampN 100 64000 (latheBase.rd LATHE.MAXWIN_MAXWIN) * 1000 ∧
      clampN 100 64000 0 * 1000 < 2 * ((125 * 2000 * 1 * 32768 + 16000 * 32768 + 32767) / 32768)) ∧
    ((follow 1).quietSlot 8191 ∧ armedState (ctxOf (follow 1)).state = true ∧
      (follow 1).readsCtx 8191 (ctxOf (follow 1)) ∧ (follow 1).takesNotices) ∧
    ((follow 0).quietSlot 8191 ∧ armedState (ctxOf (follow 0)).state = false ∧ (follow 0).readsCtx 8191 (ctxOf (follow 0))) ∧
    (heldAt false 77 (follow 3)).lathe.held.length = 1 ∧
    (run (.rebuild 8191#13) (follow 1)).lathe.rebuilding = true ∧
    (let d : Dev := { base with lathe := { base.lathe with rebuilding := true } }
     d.lathe.rebuilding = true ∧ ∀ j, j < 8192 → d.plainState j ∧ wordArmed (d.tword (ctxAddr j 0)) = false) :=
  ⟨by decide +kernel, ⟨by unfold Dev.quietSlot; decide +kernel, by decide +kernel, reads_record _ (by decide +kernel),
      by unfold Dev.takesNotices Dev.takesGroup Dev.wakesNobody; decide +kernel⟩,
    ⟨by unfold Dev.quietSlot; decide +kernel, by decide +kernel, reads_record _ (by decide +kernel)⟩, by decide +kernel, by decide +kernel,
    by decide +kernel, fun j h => by
      have hw : ∀ a, ({ base with lathe := { base.lathe with rebuilding := true } } : Dev).word a = SramWord.blank := fun a => get_nil _ _ rfl _
      exact ⟨⟨⟨by unfold ctxAddr; omega, rfl, by rw [hw]; rfl⟩, by unfold Dev.tword; rw [hw]; decide⟩, by unfold Dev.tword; rw [hw]; rfl⟩⟩

theorem witness_Commits :
    (run (.rebuild 0#13) (follow 3)).lathe.rebuilding = true ∧ ((follow 3).lathe.held = [] ∧ Store.get none (follow 3).lathe.stale 8191 = none) ∧
    (77 + 256) % 256 = (77#8).toNat ∧ 78 % 256 ≠ (77#8).toNat ∧
    (let d := heldAt false (77 + 256) (follow 3)
     let ended : Dev := { (d.wr LATHE.COMMIT_STATUS_RESULT 0).wr LATHE.COMMIT_STATUS_SLOT 8191 with lathe := { d.lathe with held := [] } }
     let heard : Ctx := { armed (ctxOf d) with counter := ((ctxOf d).counter + 1) % 2 ^ 32 }
     d.readsCtx 8191 (ctxOf d) ∧ (ctxOf d).lead = false ∧ (ctxOf d).misses < 255 ∧ ended.admits heard (eventFor ended heard) ∧ d.takesNotices) ∧
    (let d := heldAt true (77 + 256) (leading 3)
     let ended : Dev := { (d.wr LATHE.COMMIT_STATUS_RESULT 0).wr LATHE.COMMIT_STATUS_SLOT 8191 with lathe := { d.lathe with held := [] } }
     let moved : Ctx := { ctxOf d with anchor := (ctxOf d).anchor + (ctxOf d).interval * 1024, counter := ((ctxOf d).counter + 1) % 2 ^ 32 }
     d.readsCtx 8191 (ctxOf d) ∧ (ctxOf d).lead = true ∧ d.startState 0 (Word.ofNat 8191) (77 + 256) = none ∧
       ended.admits moved (eventFor ended moved)) :=
  ⟨by decide +kernel, by decide +kernel, by decide, by decide,
    ⟨reads_record _ (by decide +kernel), by decide +kernel, by decide +kernel, by unfold Dev.admits; decide +kernel,
      by unfold Dev.takesNotices Dev.takesGroup Dev.wakesNobody; decide +kernel⟩,
    ⟨reads_record _ (by decide +kernel), by decide +kernel, by decide +kernel, by unfold Dev.admits; decide +kernel⟩⟩

/-- The event of the FOLLOW context has come due. -/
def dueAt : Dev :=
  let d := follow 1
  let ev := eventFor d (ctxOf d)
  clk (ev.due / 1024 + 1) { d with lathe := { d.lathe with heap := [⟨8191, ev.due, 1⟩], rebuilt := true } }

/-- A window whose listen end has passed; with a hit, the lane 4 has found it. -/
def listenAt (hit : Bool) : Dev :=
  clk 99 { latheBase with lathe := { latheBase.lathe with
    windows := [⟨8191, 55, 1, [(3, 0)], 10, 20, 30, false, if hit then [⟨4, false⟩] else [], if hit then 1 else 0, false, false, false, false⟩] } }

theorem witness_EventService :
    (clk 1 dueAt).now < (eventFor (follow 1) (ctxOf (follow 1))).due ∧
    (eventFor (follow 1) (ctxOf (follow 1))).due ≤ dueAt.now ∧ dueAt.on LATHE.CTRL_EN = true ∧ dueAt.lathe.rebuilding = false ∧ dueAt.lathe.rebuilt = true ∧ dueAt.lathe.due = [] ∧ dueAt.power = 0 ∧
    (∀ m, m < 64 → (dueAt.mon m).due = false) ∧ (dueAt.wr WELL.STATUS_STATE 2).power = 2 ∧ base.lathe.rebuilt = false ∧
    dueAt.readsCtx 8191 (ctxOf dueAt) ∧
    ((ctxOf dueAt).lead = false ∧ dueAt.recordFault (ctxOf dueAt) = none ∧ (dueAt.eventOf (ctxOf dueAt)).isSome = true ∧
      (eventFor dueAt (ctxOf dueAt)).mode = 0 ∧
      (dueAt.channelBin (ctxOf dueAt).plan (hopChannel (ctxOf dueAt).map (ctxOf dueAt).seed (ctxOf dueAt).counter)).isSome = true) ∧
    dueAt.takesGroup (ctxOf dueAt).hflume 8 ∧ (dueAt.lathe.held = [] ∧ dueAt.lathe.declLog = [] ∧ dueAt.lathe.windows = []) ∧
    (listenAt false).takesNotices ∧ 30 ≤ (listenAt false).now ∧ (listenAt true).lathe.windows.length = 1 ∧
    (let d := (({ latheBase with lathe := { latheBase.lathe with heap := [⟨8191, 100, 1⟩] } } : Dev).wr WELL.STATUS_STATE 1).wr WELL.WAKE_EN_SOURCES 8;
      100 ≤ d.now + usCeil (d.rd LATHE.WAKE_LEAD_US) ∧ d.power = 1 ∧ (d.rd WELL.WAKE_EN_SOURCES).testBit 3 = true) :=
  ⟨by decide +kernel, by decide +kernel, by decide +kernel, by decide +kernel, by decide +kernel,
    by decide +kernel, by decide +kernel, by decide +kernel, by decide +kernel, by decide +kernel, reads_record _ (by decide +kernel), by decide +kernel,
    by unfold Dev.takesGroup Dev.wakesNobody; decide +kernel, by decide +kernel,
    by unfold Dev.takesNotices Dev.takesGroup Dev.wakesNobody; decide +kernel, by decide +kernel⟩

/-! ### Synthesisers, transmit chains and the Weir -/

/-- Port B: powered, fc 868 MHz with a cached calibration, reports to Flume 20, descriptors on 21 and 22. -/
def rfBase : Dev :=
  let d := (((((base.wr (RF.SYN_CTRL_EN 1) 1).wr (RF.FC_FREQ_HZ 1) 868000000).wr (RF.TXCFG_RES_FLUME 1) 20).wr (RF.TXCFG_TXS_FLUME 1) 21).wr
    (RF.TXCFG_TXF_FLUME 1) 22).wr (RF.PACAL_TRIM 1) 3
  (({ (fl 22 (fl 21 (fl 20 d))) with junction := 25 } : Dev).modSyn 1 fun s => { s with cache := [(434, 30)] })

/-- The synthesiser of port B in a state. -/
def synAt (n : Nat) (d : Dev) : Dev := d.wr (RF.SYN_STATUS_STATE 1) n

theorem rf_quiet (d : Dev) (h : ∀ n, n < 72 → (d.lane n).state.running = false) (p : Nat) : d.portQuiet p := fun n hn _ => h n hn

theorem witness_Synthesisers :
    rfBase.blockOpen (6 + 1) = true ∧
    (rfBase.rd (RF.SYN_STATUS_STATE 1) = 0 ∧ (rfBase.rfp 1).tx.now = none ∧ rfBase.synPowered 1 = true) ∧
    (rfBase.rfp 1).syn.hits (rfBase.rd (RF.FC_FREQ_HZ 1)) 45 ∧ ¬ (rfBase.rfp 1).syn.hits (rfBase.rd (RF.FC_FREQ_HZ 1)) 46 ∧ rfBase.portQuiet 1 ∧
    (∀ n, n ≤ 7 → (synAt n rfBase).rd (RF.SYN_STATUS_STATE 1) = n) ∧ (409999999#30).toNat < 410000000 ∧ 960000000 < (960000001#30).toNat ∧
    (960000000#30).toNat ≤ 960000000 ∧ rfBase.on (RF.SYN_CTRL_EN 1) = true ∧
    (let d := (synAt 1 rfBase).modSyn 1 fun s => { s with calFreq := 868000000 };
      (d.rfp 1).tx = ⟨[], none, none⟩ ∧ (d.rfp 1).syn.calFreq = d.rd (RF.FC_FREQ_HZ 1)) ∧
    (rfBase.power = 0 ∧ rfBase.sluice.injections = [] ∧ rfBase.sluice.held.length < 64) ∧
    ((synAt 2 rfBase).wr (RF.SYN_STATUS_LOCKFAILS 1) 7).rd (RF.SYN_STATUS_LOCKFAILS 1) + 1 = 8 ∧ (rfBase.rfp 1).tx.scheds = [] ∧
    (((rfBase.modSyn 1 fun s => { s with heldCal := some 77 })).rfp 1).syn.heldCal = some 77 :=
  ⟨by decide +kernel, by decide +kernel, by unfold Syn.hits; decide +kernel, by unfold Syn.hits; decide +kernel, rf_quiet _ (by decide +kernel) 1, by decide +kernel⟩

/-- The words of a transmit descriptor: 6 octets at 0x500040, mode 2. -/
def txW1 : Word := Word.ofNat (0x5A * 2 ^ 24 + 500 * 2 ^ 15 + 2 ^ 14)
def txW3 : Word := Word.ofNat (6 * 2 ^ 21 + 2 * 2 ^ 17 + 17 * 2 ^ 7)
def descWords (tag : Tag) (w1 : Word) (freq start : Nat) : List TWord :=
  [⟨7#32, tag⟩, ⟨w1, .raw⟩, ⟨0x500040#32, .raw⟩, ⟨txW3, .raw⟩, ⟨Word.ofNat freq, .raw⟩, ⟨Word.ofNat start, .raw⟩]

/-- The frame that it names. -/
def framed (d : Dev) : Dev := (d.putWord 0x500040 ⟨0x44332211#32, .bytes⟩).putWord 0x500044 ⟨0x00006655#32, .bytes⟩
def txHeld : TxReq := ⟨true, 7#32, 0x5A, false, 5000000, 868100000, 2, 900, 4990000, none⟩
def txDesc : TxDesc := ⟨inRange (signed 9 500), true, false, false, 6, [0x11#8, 0x22#8, 0x33#8, 0x44#8, 0x55#8, 0x66#8]⟩
def txFree : TxReq := ⟨false, 7#32, 0x5A, false, 400000, 868100000, 2, 0, 300000, some txDesc⟩
def withTx (t : Tx) (d : Dev) : Dev := d.modTx 1 fun _ => t
def schedAt (hs : List TxReq) : Dev := withTx ⟨hs, none, none⟩ (withDesc 21 (descWords .ctx txW1 0 0) (synAt 3 (framed rfBase)))
def freeAt (freq start : Nat) (w1 : Word) : Dev := clk 1000 (withDesc 22 (descWords .nat w1 freq start) (synAt 3 (framed rfBase)))

theorem witness_TransmitRequests :
    (rfBase.flume 21).pkts = 0 ∧
    ((schedAt [txHeld]).waits 21 (descWords .ctx txW1 0 0) [] ∧ ((schedAt [txHeld]).rfp 1).tx = ⟨[txHeld], none, none⟩ ∧ txHeld.id = 7#32 ∧
      txHeld.ctr = bitsOf txW1 24 8 ∧ txHeld.desc = none ∧ modeMax txHeld.mode = modeMax (bitsOf txW3 17 4)) ∧
    ((0x500040#32).toNat % 4 = 0 ∧ 1 ≤ bitsOf txW3 21 11 ∧ bitsOf txW3 21 11 ≤ modeMax (bitsOf txW3 17 4)) ∧
    (schedAt [txHeld]).holdsFrame (0x500040#32).toNat (bitsOf txW3 21 11) txDesc.octets ∧
    ((∀ h ∈ ((schedAt []).rfp 1).tx.scheds, h.id ≠ 7#32) ∧ (20 : Nat) ≠ 21 ∧ (schedAt []).takesGroup 20 4) ∧
    ((freeAt 960000001 0 txW1).waits 22 (descWords .nat txW1 960000001 0) [] ∧ ((freeAt 960000001 0 txW1).rfp 1).tx = ⟨[], none, none⟩) ∧
    ((freeAt 868100000 0 (txW1 ||| 0x800#32)).waits 22 (descWords .nat (txW1 ||| 0x800#32) 868100000 0) [] ∧ (txW1 ||| 0x800#32).getLsbD 11 = true) ∧
    (let d := freeAt 868100000 2000 txW1; d.waits 22 (descWords .nat txW1 868100000 2000) [] ∧ txW1.getLsbD 11 = false ∧ 2000 % 2 ^ 32 = (2000#32).toNat ∧
      d.tick ≤ 2000 + 2 ^ 31 ∧ 2000 < d.tick + 2 ^ 31 ∧ (d.rfp 1).syn.hits 868100000 d.junction ∧ d.rfNow + d.leadTo 1 true ≤ 2000 * 1024 + bitsOf txW3 7 10 ∧
      1002 * 1024 + bitsOf txW3 7 10 < d.rfNow + d.leadTo 1 true) ∧
    ((synAt 1 rfBase).rd (RF.SYN_STATUS_STATE 1) = 1 ∧ (rfBase.rfp 1).tx.free = none) ∧
    (let d := withTx ⟨[{ txHeld with q := 5 * 1024 }], none, none⟩ (clk 5000 (synAt 3 rfBase));
      (d.rfp 1).tx.now = none ∧ d.synPowered 1 = true ∧ d.fencedPort 7 1 = false ∧ d.portQuiet 1 ∧ 5 * 1024 ≤ d.rfNow) ∧
    (let d := withTx ⟨[], some txFree, none⟩ (clk 5000 (synAt 0 rfBase)); (d.rfp 1).tx.free = some txFree ∧ txFree.sched = false ∧ txFree.q ≤ d.rfNow) :=
  ⟨by decide +kernel, ⟨by unfold Dev.waits; decide +kernel, by decide +kernel⟩, by decide +kernel,
    by unfold Dev.holdsFrame Dev.cleanWord; decide +kernel,
    ⟨by decide +kernel, by decide, by unfold Dev.takesGroup Dev.wakesNobody; decide +kernel⟩,
    ⟨by unfold Dev.waits; decide +kernel, by decide +kernel⟩, ⟨by unfold Dev.waits; decide +kernel, by decide +kernel⟩,
    ⟨by unfold Dev.waits; decide +kernel, by decide +kernel, by decide +kernel, by decide +kernel, by decide +kernel, by unfold Syn.hits; decide +kernel,
      by decide +kernel, by decide +kernel⟩, by decide +kernel,
    ⟨by decide +kernel, by decide +kernel, by decide +kernel, rf_quiet _ (by decide +kernel) 1, by decide +kernel⟩, by decide +kernel⟩

/-- A claimed scheduled request whose C has come, with and without its frame. -/
def txNow : TxNow := ⟨{ txHeld with desc := some txDesc, e := 5000 * 1024 }, false, false, false, 0, [], (0, 0), 0, false, 0, [], [], none, none, none⟩
def claimedAt (st : Nat) (t : TxNow) : Dev := withTx ⟨[], none, some t⟩ (clk 5000 (synAt st rfBase))
/-- The supply allows transmission and band record 7 covers the carrier. -/
def banded (d : Dev) : Dev :=
  ((((((d.wr (supplyOkFld 1) 1).wr (WEIR.COND_VALID 7) 1).wr (WEIR.LO_HZ 7) 868000000).wr (WEIR.HI_HZ 7) 869000000).wr (WEIR.PWR_MAXTX_MS 7) 100).wr
    (WEIR.DUTY_DUTY_PPM 7) 1000).wr (WEIR.PWR_P_MAX 7) 2

theorem test_clearance_refusals :
    (run (.clearance 1 0) ((claimedAt 6 txNow).wr (supplyOkFld 1) 0)).rd WEIR.LAST_WHY = 5 ∧
    (run (.clearance 1 0) ((claimedAt 6 txNow).wr (supplyOkFld 1) 1)).rd WEIR.LAST_WHY = 1 ∧
    (run (.clearance 1 0) ((banded (claimedAt 6 txNow)).wr (WEIR.PWR_MAXTX_MS 7) 1)).rd WEIR.LAST_WHY = 2 ∧
    (run (.clearance 1 0) ((banded (claimedAt 6 txNow)).wr (WEIR.DUTY_DUTY_PPM 7) 0)).rd WEIR.LAST_WHY = 4 := by decide +kernel

theorem witness_ClearanceAtC :
    (let d := claimedAt 6 txNow;
      ((d.rfp 1).tx.now = some txNow ∧ txNow.ending = none ∧ txNow.granted = false ∧ txNow.req.e ≤ d.rfNow + usCeil 20 ∧ d.rd (RF.SYN_STATUS_STATE 1) = 6 ∧
        d.on (RF.SYN_CTRL_EN 1) = true ∧ d.synPowered 1 = true) ∧
      (d.rfp 1).syn.hits (d.rd (RF.FC_FREQ_HZ 1)) d.junction ∧ d.takesGroup 20 4 ∧ txNow.lockFailed = false ∧ txNow.req.desc = some txDesc ∧ (d.rfp 0).tx.now = none ∧
      (∀ m, (d.mon m).due = false ∧ (d.mon m).expired = false)) ∧
    { txNow with lockFailed := true }.lockFailed = true ∧ (claimedAt 5 txNow).rd (RF.SYN_STATUS_STATE 1) = 5 ∧ { txNow with req := txHeld }.req.desc = none ∧
    ((claimedAt 6 txNow).wr WEIR.STATUS_SILENT 1).on WEIR.STATUS_SILENT = true ∧ ((claimedAt 6 txNow).wr (supplyOkFld 1) 0).on (supplyOkFld 1) = false ∧
    (let d := banded (claimedAt 6 txNow);
      d.on WEIR.STATUS_SILENT = false ∧ d.on (supplyOkFld 1) = true ∧ d.on (WEIR.COND_VALID 7) = true ∧ (∀ b, b < 7 → d.on (WEIR.COND_VALID b) = false) ∧
      d.rd (WEIR.LO_HZ 7) + modeBW 2 / 2 ≤ 868100000 ∧ 868100000 + modeBW 2 / 2 ≤ d.rd (WEIR.HI_HZ 7) ∧
      ¬ max 1 (d.rd (WEIR.PWR_MAXTX_MS 7)) * 1000 < airTime 2 txDesc.fec 6 + 2 * clampN 2 32 (d.rd (RF.RAMP_US 1)) ∧
      max 1 ((d.wr (WEIR.PWR_MAXTX_MS 7) 1).rd (WEIR.PWR_MAXTX_MS 7)) * 1000 < airTime 2 txDesc.fec 6 + 2 * clampN 2 32 (d.rd (RF.RAMP_US 1)) ∧
      Store.get none d.weir.lastOff 7 = (none : Option Nat) ∧ d.used 7 = 0 ∧ inRange (d.rdS (WEIR.PWR_P_MAX 7)) = 2) :=
  ⟨⟨by decide +kernel, by unfold Syn.hits; decide +kernel, by unfold Dev.takesGroup Dev.wakesNobody; decide +kernel, by decide, by decide, by decide +kernel,
    fun _ => ⟨rfl, rfl⟩⟩, by decide +kernel⟩

/-- Granted, ramped up, and at the end of its last symbol. -/
def txGranted : TxNow := { txNow with granted := true, predicted := 1792, cover := [7], dwell := (7, 100000), power := 9, clamped := true, ramp := 16 }
def txOn : TxNow := { txGranted with rampStart := some (4900 * 1024) }

theorem witness_TransmissionOrder :
    (let d := claimedAt 6 txGranted; (d.rfp 1).tx.now = some txGranted ∧ txGranted.req.desc = some txDesc ∧ txGranted.granted = true ∧ txGranted.rampStart = none ∧
      d.rd (RF.SYN_STATUS_STATE 1) = 6 ∧ txGranted.req.e ≤ d.rfNow ∧
      d.rd (RF.SYN_STATUS_STATE 0) ≠ 7 ∧ (d.wr (RF.SYN_STATUS_STATE 0) 7).rd (RF.SYN_STATUS_STATE (1 - 1)) = 7 ∧ txGranted.ending = none) ∧ txNow.granted = false ∧ txOn.rampStart ≠ none ∧
    (let d := claimedAt 7 { txOn with down := some ⟨4990 * 1024, 16⟩ }; txOn.cover = [7] ∧ txOn.ending = none ∧ txOn.ramp ≤ 32 ∧ txOn.req.e / 1024 / 1966080 = d.tick / 1966080 ∧
      (d.on (RF.SYN_CTRL_EN 1) = true ∧ d.synPowered 1 = true ∧ (d.rfp 1).syn.hits 868000000 d.junction ∧ d.takesGroup 20 4)) ∧
    (let d := banded (claimedAt 7 txOn); ((d.rfNow - 4900 * 1024) * 15625 + 262144) / 524288 < txOn.dwell.2 ∧
      { txOn with dwell := (7, 1000) }.dwell.2 ≤ ((d.rfNow - 4900 * 1024) * 15625 + 262144) / 524288 ∧
      (d.power = 0 ∧ d.sluice.injections = [] ∧ d.sluice.held.length < 64)) ∧
    (claimedAt 5 txNow).rd (RF.SYN_STATUS_STATE 1) ≠ 4 ∧ (0#13).toNat < 2000 + 10 * clampN 80 200 ((claimedAt 7 txOn).rd WEIR.SUPPLY_VPA_WARN) ∧ rfBase.blockOpen 7 = true ∧
    ((withTx ⟨[], some txFree, some txOn⟩ (synAt 7 rfBase)).rfp 1).tx.free = some txFree ∧
    ((withTx ⟨[txHeld], none, some txOn⟩ (synAt 7 rfBase)).rfp 1).tx.scheds = [txHeld] :=
  ⟨by decide +kernel, by decide, by decide,
    ⟨by decide, by decide, by decide, by decide +kernel, by decide +kernel, by decide +kernel, by unfold Syn.hits; decide +kernel,
      by unfold Dev.takesGroup Dev.wakesNobody; decide +kernel⟩, by decide +kernel⟩

theorem witness_WeirRules :
    base.clep.bucketDue = false ∧ ({ base with clep := { base.clep with bucketDue := true } } : Dev).clep.bucketDue = true ∧
    (base.on WEIR.STATUS_VMAIN_LOW = false ∧ (clk 30 base).rfNow + 1 < Store.get 0 base.weir.supplyFrom 1 + usCeil 1000 ∧
      Store.get 0 base.weir.supplyFrom 1 + usCeil 1000 ≤ (clk 40 base).rfNow + 1 ∧
      2000 + 10 * clampN 80 200 (base.rd WEIR.SUPPLY_VPA_WARN) + 50 ≤ (4050#13).toNat ∧
      ¬ 2000 + 10 * clampN 80 200 (base.rd WEIR.SUPPLY_VPA_WARN) ≤ (2799#13).toNat) ∧
    ((base.rfp 0).tx.now = none ∧ (base.rfp 1).tx.now = none) ∧ (base.power = 0 ∧ base.sluice.injections = [] ∧ base.sluice.held.length < 64) ∧
    (∀ p, p < 2 → base.rd (AQUA.LINK_STATE p) = 0) := by decide +kernel

/-! ### Chisel and the Aqueduct -/

/-- Queue 2 of Chisel serves Flume 30 and reports to Flume 31; the key at index 5 is the octets 0 to 15. -/
def chBase : Dev :=
  let d := fl 31 (fl 30 ((((base.wr (CHISEL.QCFG_EN 2) 1).wr (CHISEL.QCFG_JOB_FLUME 2) 30).wr (CHISEL.QCFG_RES_FLUME 2) 31).wr CHISEL.KSEL_INDEX 5))
  run (.keyWrite 0) ((List.range 8).foldl (fun d i => d.setReg (CHISEL.KDATA_at i) (Word.ofNat (0x03020100 + 0x04040404 * i))) d)

/-- Chisel with a lease. -/
def leased (l : Option (Nat × Nat)) (d : Dev) : Dev := { d with chisel := { d.chisel with lease := l } }

theorem witness_KeyTableAndLease :
    chBase.blockOpen 11 = true ∧ (Store.get KeyEntry.blank chBase.chisel.keys (chBase.rd CHISEL.KSEL_INDEX)).size < 4 ∧
    (leased none chBase).chisel.lease = none ∧ (leased (some (77, 0)) chBase).chisel.lease = some (77, 0) ∧ (77#16).toNat = 77 ∧ (78#16).toNat ≠ 77 ∧
    chBase.on CHISEL.CFG_SHARING = false ∧ (∀ q, q < 4 → base.on (CHISEL.QCFG_EN q) = false) ∧
    2 ^ 31 ≤ (chBase.tick32 + 2 ^ 32 - 1) % 2 ^ 32 ∧ (chBase.tick32 + 2 ^ 32 - 0) % 2 ^ 32 < 2 ^ 31 := by decide +kernel

/-- A job descriptor: mode, direction, FIRST and LAST, security context or key, source, target, length, counter. -/
def jobWords (mode dir flags aad w1 src dst len ctr : Nat) (one : Tag) : List TWord :=
  [⟨Word.ofNat (mode * 2 ^ 28 + dir * 2 ^ 27 + flags * 2 ^ 25 + aad), .raw⟩, ⟨Word.ofNat w1, one⟩, ⟨Word.ofNat src, .dptr⟩, ⟨Word.ofNat dst, .dptr⟩,
    ⟨Word.ofNat len, .nat⟩, ⟨0, .raw⟩, ⟨Word.ofNat ctr, .nat⟩, ⟨0xC00C1E#32, .nat⟩]
def queued (ws : List TWord) (d : Dev) : Dev := withDesc 30 ws d

/-- Context 1,234 with counter 100, window (1,872; 5) and a security level, key 5. -/
def secCtx (sec : Nat) : Dev :=
  [(0x04, 0x44332211), (0x08, 0x88776655), (0x30, 100), (0x34, 1872), (0x38, 5), (0x3C, 5 + sec * 65536)].foldl
    (fun d o => d.putWord (ctxAddr 1234 o.1) ⟨Word.ofNat o.2, .raw⟩) chBase
def linkJob (dir ctr len : Nat) : List TWord := jobWords 6 dir 0 11 1234 0x500100 0x500200 len ctr .ctx
def ownOctets (sec : Nat) : List Nat := [100, 0, 0, 0, 0x50, 7, 0, 0, 5, 0, 0, 0, 5, 0, sec, 0]

/-- R172, R173: the status and the new window of link jobs by their counter. -/
theorem test_link_statuses :
    ([(0, 0), (0, 99), (0, 0xFFFFFFFF), (1, 1872), (1, 1871), (1, 1839), (0, 100), (1, 1870)].map fun x =>
      (run (.jobDispatch 3) (queued (linkJob x.1 x.2 34) (secCtx 6))).chisel.jobs.map fun j => (j.status, if j.status = none then some j.newWin else none)) =
    [[(some 4, none)], [(some 6, none)], [(some 5, none)], [(some 2, none)], [(some 2, none)], [(some 3, none)],
      [(none, some (101, 0))], [(none, some (1872, 7))]] := by decide +kernel

theorem dispatches_of (d : Dev) (ws : List TWord) (h : d.chisel.jobs = [] ∧ 2 < 4 ∧ (∀ r, r < 2 → d.on (CHISEL.QCFG_EN r) = false) ∧
    d.on (CHISEL.QCFG_EN 2) = true ∧ (∃ i, i < 8 ∧ Store.get i d.chisel.pos i = 3) ∧ ws.length = 8) (h2 : d.waits (d.rd (CHISEL.QCFG_JOB_FLUME 2)) ws [])
    (h3 : d.on (CHISEL.QCFG_EN 3) = false) : d.dispatches 3 2 ws [] :=
  ⟨h.1, h.2.1, h.2.2.1, h.2.2.2.1, h.2.2.2.2.1, h.2.2.2.2.2, h2, fun r h1 h4 h5 => by
    have : r = 3 := by omega
    subst this
    rw [h3] at h5
    cases h5⟩

theorem witness_JobDispatch :
    (queued (jobWords 0 0 0 0 5 0x500100 0x500200 32 0 .key) chBase).dispatches 3 2 (jobWords 0 0 0 0 5 0x500100 0x500200 32 0 .key) [] ∧
    (chBase.keyEntry 5).valid = true ∧ (chBase.keyEntry 6).valid = false ∧
    ((queued (linkJob 1 1873 34) (secCtx 6)).dispatches 3 2 (linkJob 1 1873 34) [] ∧
      (queued (linkJob 1 1873 34) (secCtx 6)).octetsStand (ctxAddr 1234 0x04) 8 [0x11, 0x22, 0x33, 0x44, 0x55, 0x66, 0x77, 0x88] ∧
      (queued (linkJob 1 1873 34) (secCtx 6)).octetsStand (ctxAddr 1234 0x30) 16 (ownOctets 6)) ∧
    (leWord (ownOctets 6) 0 = 100 ∧ leWord (ownOctets 6) 4 = 1872 ∧ leWord (ownOctets 6) 8 = 5 ∧ leWord (ownOctets 6) 12 / 65536 % 256 = 6 ∧
      leWord (ownOctets 6) 12 % 1024 = 5 ∧ micLen 6 = 8 ∧ micLen (leWord (ownOctets 4) 12 / 65536 % 256) = 0) :=
  ⟨dispatches_of _ _ (by decide +kernel) (by unfold Dev.waits; decide +kernel) (by decide +kernel), by decide +kernel, by decide +kernel,
    ⟨dispatches_of _ _ (by decide +kernel) (by unfold Dev.waits; decide +kernel) (by decide +kernel), by unfold Dev.octetsStand Dev.cleanWord; decide +kernel,
      by unfold Dev.octetsStand Dev.cleanWord; decide +kernel⟩, by decide +kernel⟩

/-- A running job. -/
def aJob (ws : List TWord) : Job :=
  ⟨3, 2, ws, List.range 16, ⟨0, false, 5, 0, List.replicate 16 0, List.replicate 16 0⟩, none, none, [0x11, 0x22, 0x33, 0x44, 0x55, 0x66, 0x77, 0x88, 0, 0, 0, 100, 5], 5,
    (0, 0), (101, 0), false⟩
def running (j : Job) (d : Dev) : Dev := { d with chisel := { d.chisel with jobs := [j] } }
def ecbDev : Dev := running (aJob (jobWords 0 0 0 0 5 0x500100 0x500200 16 0 .key)) ((List.range 4).foldl (fun d i => d.putWord (0x500100 + 4 * i) ⟨0#32, .bytes⟩) chBase)
def ecbJob : Job := aJob (jobWords 0 0 0 0 5 0x500100 0x500200 16 0 .key)
/-- What the link job's sealing gives for no text: the MIC, stored after an empty text. -/
def sealedMic : List Nat := (ccmSeal (List.range 16) ecbJob.nonce [] [] 4).2
def micDev : Dev := (chBase.putWord 0x500100 ⟨wordOfOctets (sealedMic.map fun x => BitVec.ofNat 8 x), .bytes⟩)
def openJob : Job := aJob (jobWords 6 1 0 0 1234 0x500100 0x500200 4 100 .ctx)

theorem witness_JobCompletion :
    chBase.chisel.jobs = [] ∧ (ecbDev.chisel.jobs = [ecbJob] ∧ ecbJob.core = 3) ∧ ecbDev.takesGroup 31 5 ∧
    ({ ecbJob with status := some 9 } : Job).status = some 9 ∧
    (ecbJob.status = none ∧ ecbJob.badAt = none) ∧ ecbDev.octetsStand 0x500100 16 (List.replicate 16 0) ∧
    (ecbJob.mode = 0 ∧ ecbJob.usesState = false ∧ ecbJob.len % 16 = 0 ∧ (aJob (jobWords 5 0 3 0 5 0x500100 0x500200 16 0 .key)).mode = 5 ∧
      (aJob (jobWords 5 0 3 0 5 0x500100 0x500200 16 0 .key)).usesState = false) ∧ ecbDev.writable 0x500200 16 ∧
    ((running openJob micDev).octetsStand 0x500100 4 sealedMic ∧ openJob.mode = 6 ∧ openJob.dir = true ∧ micLen openJob.level ≤ openJob.len ∧
      (ccmOpen openJob.key openJob.nonce [] [] sealedMic).2 = true ∧ (ccmOpen openJob.key openJob.nonce [] [] [0, 0, 0, 0]).2 = false ∧
      (running openJob micDev).writable 0x500200 20) ∧
    ecbDev.chisel.jobs.find? (fun x => x.core == (3 : Fin 9).val) = some ecbJob := by
  refine ⟨by decide +kernel, by decide +kernel, by unfold Dev.takesGroup Dev.wakesNobody; decide +kernel, rfl, by decide +kernel,
    by unfold Dev.octetsStand Dev.cleanWord; decide +kernel, by decide +kernel, by unfold Dev.writable; decide +kernel,
    ⟨by unfold Dev.octetsStand Dev.cleanWord; decide +kernel, by decide +kernel, by decide +kernel, by decide +kernel, by decide +kernel, by decide +kernel,
      by unfold Dev.writable; decide +kernel⟩, by decide +kernel⟩

/-- Cable port B enabled as the polling end, its Flumes 1 to 4, the node's address 77, at TICK 100,000. -/
def aqBase : Dev :=
  let d := (((((((base.wr (AQUA.PCTRL_EN 1) 1).wr (AQUA.PCTRL_ROLE 1) 1).wr (AQUA.FLUMES_BUF_FLUME 1) 1).wr (AQUA.FLUMES_REC_FLUME 1) 2).wr
    (AQUA.FLUMES_TX_FLUME 1) 3).wr (AQUA.FLUMES_RES_FLUME 1) 4).wr AQUA.ADDR_ADDR 77).wr (AQUA.PCFG_AUTO_RETRAIN 1) 1
  clk 100000 (fl 4 (fl 3 (fl 2 (fl 1 d))))
def linkAt (n : Nat) (d : Dev) : Dev := d.wr (AQUA.LINK_STATE 1) n
def aqWith (a : AqPort) (d : Dev) : Dev := d.modAq 1 fun _ => a

theorem witness_CableLinks :
    (aqBase.aqStill 1 ∧ aqBase.on (AQUA.PCTRL_EN 1) = true ∧ aqBase.on WEIR.STATUS_SILENT = false ∧ aqBase.power = 0) ∧
    (let d := aqWith { AqPort.idle with want := true, backoff := some (100000 * 1024 + 1023) } (linkAt 1 aqBase);
      d.aqStill 1 ∧ d.rd (AQUA.LINK_STATE 1) = 1 ∧ (d.aq 1).want = true ∧ d.on (AQUA.PCTRL_ROLE 1) = true ∧
      (d.aq 1).backoff = some (100000 * 1024 + 1023) ∧ 100000 * 1024 + 1023 ≤ d.tick * 1024 + 1023) ∧
    (∀ n, n ≤ 4 → (linkAt n aqBase).rd (AQUA.LINK_STATE 1) = n) ∧ readExchange (exchangeWord 7 0x1234) = some (7, 0x1234) ∧ readExchange 0#64 = none ∧
    (flagPass 0x3333333333333333#64 = true ∧ passSnr 3 + 4 * aqBase.rd (AQUA.PCFG_MARGIN_DB 1) ≤ (lineQuality (rateBits 3) [256, 300, 200, -256, 250]).1 ∧
      ¬ passSnr 3 + 4 * aqBase.rd (AQUA.PCFG_MARGIN_DB 1) ≤ (lineQuality (rateBits 3) [256, 380]).1 ∧ ((linkAt 3 aqBase).wr (AQUA.LINK_RATE 1) 3).rd (AQUA.LINK_RATE 1) = 3) ∧
    (aqBase.blockOpen 13 = true ∧ aqBase.rd (AQUA.LINK_STATE 1) ≠ 5 ∧ (aqBase.wr (AQUA.PCTRL_EN 1) 0).on (AQUA.PCTRL_EN 1) = false) ∧
    (let ms := max 1 (aqBase.rd (AQUA.PCFG_WAKE_MS 1)); 0 + usFloor (ms * 1000) ≤ 100000 * 1024 + 1023 ∧
      100000 * 1024 + 1023 < 100000 * 1024 + usFloor (ms * 1000)) ∧
    (aqBase.power = 0 ∧ aqBase.sluice.injections = [] ∧ aqBase.sluice.held.length < 64) ∧ aqBase.fencedAqRip 10 1 = false ∧
    aqBase.on (AQUA.WAKE_EN 1) = false ∧ (aqBase.wr (AQUA.WAKE_EN 1) 1).on (AQUA.WAKE_EN 1) = true ∧
    (let d := ((aqBase.wr (AQUA.WAKE_EN 1) 1).wr WELL.STATUS_STATE 2).wr WELL.WAKE_EN_SOURCES 128; d.power = 2 ∧ (d.rd WELL.WAKE_EN_SOURCES).testBit 7 = true) :=
  ⟨⟨by unfold Dev.aqStill; decide +kernel, by decide +kernel, by decide +kernel, by decide +kernel⟩,
    ⟨by unfold Dev.aqStill; decide +kernel, by decide +kernel, by decide +kernel, by decide +kernel, by decide +kernel, by decide +kernel⟩, by decide +kernel⟩

/-- Port B up at rate 5; port A up at rate `r` with repeating on. -/
def upB : Dev := (linkAt 4 aqBase).wr (AQUA.LINK_RATE 1) 5
def upBoth (r : Nat) : Dev := (((upB.wr AQUA.CFG_REPEAT_EN 1).wr (AQUA.LINK_STATE 0) 4).wr (AQUA.LINK_RATE 0) r)
def frameOctets : List Byte := (List.range 20).map fun i => BitVec.ofNat 8 (i * 7 + 1)
def rxOf (deliver : Nat) (buf : Option Word) (repeated cut : Bool) : AqRx := ⟨mkHdr 5 20 0 3, 0, deliver, buf, none, repeated, cut, 5⟩
def txOf (kind : Nat) (ready : Bool) : AqTx := ⟨kind, 0#32, mkHdr 5 20 0 2, [], 0#32, ready, 0, false, 0⟩
def cableBuf (a : Word) : FEntry := mkEntry a .dptr false false
def cableWords : List TWord := [⟨9#32, .nat⟩, ⟨0x500100#32, .dptr⟩, ⟨Word.ofNat (0x55 * 65536 + 20 * 16 + 4), .raw⟩, ⟨3#32, .raw⟩]
def cableDev : Dev :=
  withDesc 3 cableWords ((List.range 5).foldl (fun d i => d.putWord (0x500100 + 4 * i) ⟨wordOfOctets ((frameOctets.drop (4 * i)).take 4), .bytes⟩) upB)

/-- R203: a header whose check octet is wrong is bad, the one that the sender makes is good. -/
theorem test_header_check : hdrGood (mkHdr 77 20 1 0) = true ∧ hdrGood (mkHdr 77 20 1 0 ^^^ 1#48) = false := by decide +kernel

theorem witness_CableFrames :
    (upB.rd (AQUA.LINK_STATE 1) = 4 ∧ (upB.aq 1).rx = none ∧ hdrGood 5#48 = false ∧ hdrGood (mkHdr 77 33 0 0) = true ∧
      (mkHdr 77 33 0 0).toNat % 65536 = upB.rd AQUA.ADDR_ADDR ∧ (upB.wr AQUA.CFG_MGMT_EN 1).on AQUA.CFG_MGMT_EN = true ∧
      (mkHdr 77 33 1 0).toNat / 2 ^ 28 % 4 = 1) ∧
    ((upB.wr (AQUA.BUFCFG_BUF_SIZE 1) 1).rd (AQUA.BUFCFG_BUF_SIZE 1) * 32 < 33 ∧ (upB.wr (AQUA.BUFCFG_BUF_SIZE 1) 0).rd (AQUA.BUFCFG_BUF_SIZE 1) = 0) ∧
    (upB.quietFlume 1 ∧ (upB.flume 1).entries = [] ∧ ((upB.setFlume 1 { Flume.empty with entries := [cableBuf 0x5FF800#32] }).flume 1).entries = [cableBuf 0x5FF800#32] ∧
      (cableBuf 0x5FF800#32).bad = false ∧ (cableBuf 0x5FF800#32).data.toNat % 32 = 0 ∧ (cableBuf 0x5FF800#32).data.toNat + 2048 ≤ 0x600000) ∧
    (hdrGood (mkHdr 5 20 0 3) = true ∧ (mkHdr 5 20 0 3).toNat % 65536 ≠ upB.rd AQUA.ADDR_ADDR ∧ upB.on AQUA.CFG_PROMISC = false ∧
      upB.on AQUA.CFG_REPEAT_EN = false ∧ (upBoth 5).on AQUA.CFG_REPEAT_EN = true ∧ 0 < (mkHdr 5 20 0 3).toNat / 2 ^ 32 % 16 ∧
      (mkHdr 5 20 0 0).toNat / 2 ^ 32 % 16 = 0 ∧ (upBoth 5).rd (AQUA.LINK_STATE 0) = 4 ∧ (upBoth 5).rd (AQUA.LINK_RATE 0) = (upBoth 5).rd (AQUA.LINK_RATE 1) ∧
      (upBoth 4).rd (AQUA.LINK_RATE 0) ≠ (upBoth 4).rd (AQUA.LINK_RATE 1) ∧ ((upBoth 5).aq 0).tx = none ∧ ((upBoth 5).aq 0).rpt = none ∧
      (upBoth 5).localTurn 0 = false ∧
      ((aqWith { AqPort.idle with burst := 99 } cableDev).wr AQUA.CFG_RPT_BURST 4).localTurn 1 = true ∧
      ({ AqPort.idle with nextSync := 9 * 1024 } : AqPort).nextSync ≤ Stamp.inst ⟨9#48, 0#10⟩) ∧
    (let r := rxOf 1 (some 0x500200#32) false false; let d := aqWith { AqPort.idle with rx := some r } upB;
      (d.aq 1).rx = some r ∧ frameOctets.length = hdrLen r.hdr ∧ d.writable 0x500200 20 ∧ d.takesGroup 2 6) ∧
    ((rxOf 2 none false false).deliver = 2 ∧ upB.heldCmd 3 = none ∧ (BitVec.ofNat 32 (crc32 frameOctets)).toNat = crc32 frameOctets) ∧
    (let d := (aqWith { AqPort.idle with rx := some (rxOf 0 none true true) } upB).modAq 0 fun a => { a with tx := some (txOf 2 false) };
      (d.aq 0).tx = some (txOf 2 false) ∧ (txOf 2 false).kind = 2 ∧ (txOf 2 false).ready = false) ∧
    (let d := (aqWith { AqPort.idle with rx := some (rxOf 0 none true false) } upB).modAq 0 fun a => { a with rpt := some ⟨mkHdr 5 20 0 2, none⟩ };
      (d.aq 0).rpt = some ⟨mkHdr 5 20 0 2, none⟩) ∧
    (upB.on (AQUA.PCTRL_EN 1) = true ∧ (upB.aq 1).tx = none ∧ (upB.aq 1).rpt = none ∧ (upB.flume 3).pkts = 0) ∧
    (cableDev.waits 3 cableWords [] ∧ cableDev.takesGroup 4 3 ∧ cableDev.holdsFrame 0x500100 20 frameOctets ∧ cableDev.on WEIR.STATUS_SILENT = false) ∧
    (let a := { AqPort.idle with rpt := some ⟨mkHdr 5 20 0 2, some (frameOctets, 5#32)⟩ }; let d := aqWith a upB;
      (d.aq 1).rpt = some ⟨mkHdr 5 20 0 2, some (frameOctets, 5#32)⟩ ∧ (d.aq 1).burst < max 1 (d.rd AQUA.CFG_RPT_BURST)) ∧
    (let d := aqWith { AqPort.idle with tx := some (txOf 0 true) } upB; (d.aq 1).tx = some (txOf 0 true) ∧ (txOf 0 true).ready = true ∧ d.takesGroup 4 3) :=
  ⟨by decide +kernel, by decide +kernel, ⟨by unfold Dev.quietFlume; decide +kernel, by decide +kernel⟩, by decide +kernel,
    ⟨by decide +kernel, by decide +kernel, by unfold Dev.writable; decide +kernel, by unfold Dev.takesGroup Dev.wakesNobody; decide +kernel⟩,
    by decide +kernel, by decide +kernel, by decide +kernel, by decide +kernel,
    ⟨by unfold Dev.waits; decide +kernel, by unfold Dev.takesGroup Dev.wakesNobody; decide +kernel, by unfold Dev.holdsFrame Dev.cleanWord; decide +kernel,
      by decide +kernel⟩, by decide +kernel, ⟨by decide +kernel, by decide, by unfold Dev.takesGroup Dev.wakesNobody; decide +kernel⟩⟩

/-! ### Cistern -/

/-- Completion words to Flume 7, at TICK 5,000. -/
def ciBase : Dev := clk 5000 (fl 7 ((base.wr CIST.CFG_DONE_EN 1).wr CIST.CFG_DONE_FLUME 7))
def withCist (f : Cist → Cist) (d : Dev) : Dev := { d with cist := f d.cist }
def doing (o : CistOp) (d : Dev) : Dev := withCist (fun c => { c with op := some o }) d
def suspended (o : CistOp) (d : Dev) : Dev := withCist (fun c => { c with susp := some o }) d
def eraseOf (b : Nat) : CistOp := ⟨2, 0x08000000 + 0x10000 * b, 0#256, 0#12, [], 7, 4000 * 1024, 0⟩
def opOf (k n : Nat) : CistOp := ⟨k, 0x08000000 + 32 * n, 7#256, 0x801#12, [], 0, 5000 * 1024, 0⟩

/-- A fenced Cistern. -/
def ciFenced : Dev := { ciBase with repair := { ciBase.repair with fencedOther := [(14, 0)] } }

/-- A line of block 40 and its number. -/
def aLine : Nat := 2048 * 40 + 5

theorem test_program_refusals :
    ((run (.program 81925 7#256) (doing (eraseOf 3) ciBase)).rd CIST.ERR_CODE = 2 ∧ (run (.program 81925 7#256) (ciBase.wr CIST.STATUS_AUTO 1)).rd CIST.ERR_CODE = 6 ∧
      (run (.program 81925 7#256) (suspended (eraseOf 40) ciBase)).rd CIST.ERR_CODE = 4 ∧
      (run (.program 81925 7#256) (withCist (fun c => { c with incomplete := [40] }) ciBase)).rd CIST.ERR_CODE = 5) ∧
    (run (.program 81925 7#256) ciBase).rd CIST.OPADDR_ADDR = 0x08000000 + 32 * aLine := by decide +kernel

/-- `n` equal words from word index `b` on. -/
def fill (w : SramWord) : Nat → Nat → Store SramWord
  | _, 0 => []
  | b, n + 1 => (b, w) :: fill w (b + 1) n

theorem get_fill (w : SramWord) : ∀ n b k, b ≤ k → k < b + n → Store.get SramWord.blank (fill w b n) k = w
  | 0, b, k, h, h' => by omega
  | n + 1, b, k, h, h' => by
    rw [fill, Store.get]
    by_cases e : k = b
    · simp [e]
    · rw [if_neg e]; exact get_fill w n (b + 1) k (by omega) (by omega)

/-- An option image of words 5 stands at 0x500000. -/
def optDev : Dev := { ciBase.wr CIST.OPT_SRC_ADDR 0x500000 with sram := fill ⟨5#32, .raw, 0#43⟩ 0x140000 8192 }

theorem optDev_word (k : Nat) (h : k < 8192) : optDev.word (0x500000 + 4 * k) = ⟨5#32, .raw, 0#43⟩ :=
  (congrArg (Store.get SramWord.blank (fill ⟨5#32, .raw, 0#43⟩ 0x140000 8192)) (show (0x500000 + 4 * k) / 4 = 0x140000 + k by omega)).trans (get_fill ⟨5#32, .raw, 0#43⟩ 8192 0x140000 (0x140000 + k) (by omega) (by omega))

theorem witness_CisternCommands :
    (ciFenced.blockOpen 14 = true ∧ (14, 0) ∈ ciFenced.repair.fencedOther) ∧
    (ciBase.blockOpen 14 = true ∧ (14, 0) ∉ ciBase.repair.fencedOther ∧ ciBase.cist.seq = .idle ∧ ciBase.cist.op = none ∧ ciBase.cist.susp = none ∧ ciBase.on CIST.STATUS_AUTO = false) ∧
    ((81925#20).toNat = aLine ∧ (722#20).toNat = 722 ∧ (1325#20).toNat = 1325 ∧ (0xB1#256 <<< 224).extractLsb' 224 32 ∉ [0xB0#32, 0xD0#32, 0xF0#32] ∧
      Store.get (shippedLine aLine) ciBase.cist.lines aLine = none ∧ aLine / 2048 ∉ ciBase.cist.incomplete) ∧
    ((doing (eraseOf 3) ciBase).cist.op = some (eraseOf 3) ∧ (ciBase.wr CIST.STATUS_AUTO 1).on CIST.STATUS_AUTO = true ∧
      (suspended (eraseOf 40) ciBase).cist.susp = some (eraseOf 40) ∧ cistBlock (eraseOf 40).addr = aLine / 2048 ∧ cistBlock (eraseOf 39).addr ≠ aLine / 2048 ∧
      (withCist (fun c => { c with lines := [(aLine, some ⟨7#256, 0#256, false⟩)] }) ciBase).cist.lines ≠ []) ∧
    (ciBase.cist.sector = 0 ∧ ciBase.cist.journal0.length < 512) ∧
    (¬ (ciBase.wr CIST.OPT_SRC_ADDR 0x3FFFC0).rd CIST.OPT_SRC_ADDR + 0x8000 ≤ 0x400000) ∧
    (optDev.cist.seq = .idle ∧ optDev.cist.op = none ∧ optDev.rd CIST.OPT_SRC_ADDR = 0x500000 ∧
      (∀ k, k < 8192 → optDev.cleanWord (0x500000 + 4 * k) ∧ (optDev.word (0x500000 + 4 * k)).tag.bad = false) ∧
      (optDev.word (0x500000 + 0x1A4)).data &&& 0xFF#32 ≠ optDev.optWord ⟨0x200#11, false⟩ 0x1A4 &&& 0xFF#32 ∧ (⟨0x200#11, false⟩ : Cells).locked 9 = true) ∧
    (optDev.on CIST.STATUS_OPT_COPY = false ∧ (optDev.wr CIST.STATUS_OPT_COPY 1).on CIST.STATUS_OPT_COPY = true) ∧
    (let d := ciBase.setReg CIST.LOCK_MASK_at 0x80000201#32; (∀ b, b < 11 → (0xA00#12).getLsbD b = ((d.reg CIST.LOCK_MASK_at).getLsbD b && !(1#11).getLsbD b)) ∧
      (0xA00#12).getLsbD 11 = ((d.reg CIST.LOCK_MASK_at).getLsbD 31 && !false)) ∧
    (ciBase.canReport ∧ ∀ b, b < 11 → (0#12).getLsbD b = ((ciBase.reg CIST.LOCK_MASK_at).getLsbD b && !(1#11).getLsbD b)) ∧
    (let d := withCist (fun c => { c with seq := .cmd 2 }) ciBase; d.cist.seqTick + 32 < d.tick ∧ d.cist.seq ≠ .idle) ∧
    ciBase.tick ≤ (withCist (fun c => { c with seqTick := 4968 }) ciBase).cist.seqTick + 32 :=
  ⟨by decide +kernel, by decide +kernel, by decide +kernel, by decide +kernel, by decide +kernel, by decide +kernel,
    ⟨by decide +kernel, by decide +kernel, by decide +kernel,
      fun k h => ⟨⟨by omega, rfl, by rw [optDev_word k h]; decide +kernel⟩, by rw [optDev_word k h]; rfl⟩,
      by rw [show 0x500000 + 0x1A4 = 0x500000 + 4 * 0x69 from rfl, optDev_word 0x69 (by omega)]; decide +kernel, by decide +kernel⟩, by decide +kernel, by decide +kernel,
    ⟨by unfold Dev.canReport Dev.takesGroup Dev.wakesNobody; decide +kernel, by decide +kernel⟩, by decide +kernel, by decide +kernel⟩

theorem witness_CisternCompletions :
    ciBase.cist.op = none ∧ (ciBase.wr CIST.STATUS_AUTO 1).on CIST.STATUS_AUTO = true ∧
    (∀ k, k < 5 → (doing (opOf k aLine) ciBase).cist.op = some (opOf k aLine) ∧ (doing (opOf k aLine) ciBase).on CIST.STATUS_AUTO = false ∧ (opOf k aLine).op = k) ∧
    (doing (opOf 1 aLine) ciBase).canReport ∧ (ciBase.power = 0 ∧ ciBase.sluice.injections = [] ∧ ciBase.sluice.held.length < 64) ∧
    (ciBase.cist.sector = 0 ∧ ciBase.cist.journal0.length < 512) ∧
    (let d := (doing (eraseOf 40) ciBase).wr CIST.STATUS_SUSP_PEND 1; d.on CIST.STATUS_SUSP_PEND = true ∧
      500 * 524288 ≤ (d.tick * 1024 + 1023 - (eraseOf 40).since) * 15625) ∧ (opOf 4 aLine).mask.getLsbD 0 = true ∧ (opOf 4 aLine).mask.getLsbD 11 = true ∧
    (opOf 4 aLine).mask &&& ~~~BitVec.ofNat 12 (2 ^ 11) ≠ 0#12 ∧ ({ opOf 4 aLine with mask := 1#12 }).mask &&& ~~~BitVec.ofNat 12 (2 ^ 0) = 0#12 ∧
    (ciBase.wr WEIR.STATUS_VMAIN_LOW 1).on WEIR.STATUS_VMAIN_LOW = true ∧ ciBase.on WEIR.STATUS_VMAIN_LOW = false ∧
    (let d := (suspended (eraseOf 40) ciBase).wr CIST.STATUS_AUTO 1; d.on CIST.STATUS_AUTO = true ∧ d.cist.susp = some (eraseOf 40) ∧ d.cist.fwSusp = false ∧
      d.cist.op = none) ∧
    ((∀ x ∈ ciBase.cist.optFlips, x.1 / 1024 ≠ if ciBase.on CIST.STATUS_OPT_COPY then 0 else 1) ∧ (opOf 4 aLine).mask.getLsbD 9 = false ∧
      ({ opOf 4 aLine with mask := 0x200#12 }).mask.getLsbD 9 = true ∧ ∀ p, p < 2 → (ciBase.rfp p).tx.now = none) :=
  ⟨by decide +kernel, by decide +kernel, by decide +kernel, by unfold Dev.canReport Dev.takesGroup Dev.wakesNobody; decide +kernel, by decide +kernel⟩

/-! ### Upkeep, self-checks, repair and fatal faults -/

/-- RUN at TICK 5,000. -/
def slBase : Dev := clk 5000 base
def withRepair (f : Repair → Repair) (d : Dev) : Dev := { d with repair := f d.repair }
def withSluice (f : Sluice → Sluice) (d : Dev) : Dev := { d with sluice := f d.sluice }
def threeRecords : Dev := ((slBase.fault (mkUnitFault 0x02 5 1 2 3)).fault (mkUnitFault 0x02 5 2 2 3)).fault (mkUnitFault 0x02 5 3 2 3)
def beating (d : Dev) : Dev := { (run (.hbFeed (.bowl 0)) d).wr WEIR.STATUS_HEALTHY 1 with clep := { d.clep with heartDue := true } }
def errAt7 : Dev := (slBase.putWord (0x10000 * 7 + 4 * 5000) ⟨123#32, .int⟩).upset (0x10000 * 7 + 4 * 5000) 4#43

theorem blank_sound (d : Dev) (h : d.sram = []) (a : Nat) : flipCount (d.word a).flip = 0 := by unfold Dev.word; rw [h]; exact (by decide : flipCount 0#43 = 0)

theorem errAt7_word (a : Nat) (h : a / 4 ≠ (0x10000 * 7 + 4 * 5000) / 4) : flipCount (errAt7.word a).flip = 0 := by
  have e : errAt7.sram = [((0x10000 * 7 + 4 * 5000) / 4, ⟨123#32, .int, 4#43⟩)] := by decide +kernel
  unfold Dev.word
  rw [e, Store.get, if_neg h]; exact (by decide : flipCount 0#43 = 0)

theorem witness_MemoryUpkeepAndLog :
    ((slBase.wr WELL.STATUS_STATE 2).power = 2 ∧ base.well.coreOff = false) ∧
    ((errAt7.power = 0 ∧ errAt7.sluice.injections = [] ∧ errAt7.sluice.held = []) ∧ errAt7.tick % 16384 = 5000 ∧
      errAt7.bankDead (0x10000 * 7 + 4 * 5000) = false ∧ flipCount (errAt7.word (0x10000 * 7 + 4 * 5000)).flip = 1 ∧ errAt7.repair.rowErrs = [] ∧
      ∀ c, c < 96 → c ≠ 7 → flipCount (errAt7.word (0x10000 * c + 4 * 5000)).flip = 0) ∧
    (let d := withRepair (fun r => { r with rowCopies := [⟨19, 33, 1⟩] }) slBase; d.repair.rowCopies = [⟨19, 33, 1⟩] ∧ (d.bankServed 19).isSome = true) ∧
    (∀ f, let d := withRepair (fun r => { r with bankCopy := some ⟨20, 33, f, 1, 0⟩ }) slBase;
      d.repair.bankCopy = some ⟨20, 33, f, 1, 0⟩ ∧ d.physBank 20 < 102 ∧ d.repair.bankQueue = [] ∧ (d.repair.rots = [] ∧ d.repair.tests = []) ∧ ∀ i, flipCount (d.word (0x10000 * 20 + 4 * i)).flip = 0) ∧
    (threeRecords.blockOpen 3 = true ∧ threeRecords.power = 0 ∧ Store.wf (fun _ => none) threeRecords.sluice.log = true ∧ threeRecords.sluice.held.length = 3) ∧
    ((slBase.wr SLUICE.STATUS_FACTORY 1).on SLUICE.STATUS_FACTORY = true ∧ slBase.on SLUICE.STATUS_FACTORY = false ∧
      (slBase.wr SLUICE.INJ_ADDR_ADDR 0x5FFFFF).rd SLUICE.INJ_ADDR_ADDR / 4 * 4 < 0x600000 ∧ (1#32).toNat % 8 = 1 ∧ (0x1A2D#32).toNat % 8 = 5) ∧
    (slBase.clep.heartDue = false ∧ (beating slBase).clep.heartDue = true ∧ (beating slBase).running = true) ∧
    (let d := beating (clk 4096 slBase); d.on SLUICE.STATUS_FATAL = false ∧ d.on WEIR.STATUS_HEALTHY = true ∧ d.sluice.fed = true ∧
      (d.tick - d.tick % 2048 + 2 ^ 32 - d.rd SLUICE.HB_LAST_TICK) % 2 ^ 32 ≤ max 2048 (d.rd SLUICE.HB_CFG_WINDOW)) ∧
    ((slBase.wr SLUICE.STATUS_FATAL 1).on SLUICE.STATUS_FATAL = true ∧ slBase.sluice.fed = false ∧ (slBase.wr WELL.STATUS_STATE 4).power = 4) :=
  ⟨by decide +kernel, ⟨by decide +kernel, by decide +kernel, by decide +kernel, by decide +kernel, by decide +kernel, fun c _ h => errAt7_word _ (by omega)⟩,
    by decide +kernel, fun f => ⟨rfl, by cases f <;> decide +kernel, rfl, ⟨rfl, rfl⟩, fun i => blank_sound _ rfl _⟩, by decide +kernel, by decide +kernel,
    by decide +kernel, by decide +kernel, by decide +kernel⟩

/-- A lane that receives without a pin and without a buffer. -/
def searching : Dev :=
  slBase.setLane 5 { Lane.blank with state := .search, group := ⟨1, 6, 0, 2⟩, prio := 1, start := 12345, detRssi := -300, foff := 77 }

/-- The slot `k` of ROTATING to unit 8, in state `w`; the rotation's record, whether a live test moves it and whether its state is lost. -/
def rotatingSlot (k w : Nat) (record : Option (Nat × Nat × Nat)) (live lost : Bool) : Dev :=
  withRepair (fun r => { r with rots := [⟨kindOfSlot k, k, 8, record, live, false, lost⟩], paused := [(k, some ⟨w, []⟩)] }) (slBase.setSlotState k 5)

theorem witness_SelfChecks :
    (slBase.coresAtRest 3 ∧ slBase.slotState 8 ≠ 5 ∧ ∀ record, record ∈ [none, some (2, 4, 8)] → ∀ live lost, let d := rotatingSlot 8 1 record live lost
      d.repair.rots = [⟨3, 8, 8, record, live, false, lost⟩] ∧ d.repair.coreQueue = [] ∧ kindOfSlot 8 = 3 ∧ d.rd (assignFld 8) < 15 ∧ d.slotState 8 = 5 ∧
        Store.get none d.repair.paused 8 = some ⟨1, []⟩ ∧ (d.power = 0 ∧ d.sluice.injections = [] ∧ d.sluice.held = []) ∧ ∀ n, (d.flume n).stalled = []) ∧
    (8 ∈ slBase.serving 3 ∧ slBase.rd (assignFld 8) = 0 ∧ (∀ j ∈ slBase.serving 3, j ≠ 8 → slBase.rd (assignFld j) ≠ 0) ∧
      ∀ k ∈ slBase.serving 3, slBase.rd (assignFld k) ≠ 4) ∧
    ((slBase.power = 0 ∧ slBase.sluice.injections = [] ∧ slBase.sluice.held = []) ∧ slBase.rd SYS.AM_STATUS_STATE = 0 ∧ slBase.rd (spareFld 3) < 9 ∧
      slBase.rd (spareFld 2) < 9) ∧
    ((core 8 slBase).slotState 8 = 1 ∧ ∀ n, ((core 8 slBase).flume n).stalled = []) ∧
    (searching.lane 5).state.running = true ∧ (searching.lane 6).state.running = false ∧ (searching.lane 5).waiting = false ∧ searching.loneLane 5 ∧
    (searching.lane 5).buf = none ∧ Store.get none searching.sluice.strikes 5 = none ∧
    (let d := withSluice (fun x => { x with strikes := [(5, some 4000)] }) (fl 10 (searching.wr (BASIN.PCFG_REC_FLUME 1) 10));
      Store.get none d.sluice.strikes 5 = some 4000 ∧ d.tick ≤ 4000 + max 1 (d.rd REPAIR.CFG_STRIKE) * 3600 * 32768 ∧ d.takesGroup 10 8 ∧ d.noPins ∧
        d.rd SYS.AM_STATUS_STATE = 0) ∧
    (slBase.corePos 2 = 2 ∧ (∀ j, j < 2 → slBase.corePos j ≠ 2) ∧ slBase.unitFenced 4 2 = false ∧ slBase.chisel.jobs = [] ∧
      slBase.rd REPAIR.ASSIGN_X_SPARE_C < 9 ∧ (slBase.wr REPAIR.ASSIGN_X_SPARE_C 15).rd REPAIR.ASSIGN_X_SPARE_C = 15) ∧
    (slBase.unitFenced 11 1 = false ∧ 1 < unitCount 11 ∧ 2 ≥ unitCount 11) ∧ slBase.on SLUICE.STATUS_FATAL = false ∧
    (∀ p, p < 2 → (slBase.rfp p).tx = ⟨[], none, none⟩ ∧ (slBase.aq p).tx = none) :=
  ⟨⟨by unfold Dev.coresAtRest; decide +kernel, by decide +kernel, fun r h live lost => by
      simp only [List.mem_cons, List.not_mem_nil, or_false] at h
      obtain rfl | rfl := h <;> cases live <;> cases lost <;>
        exact ⟨by decide +kernel, by decide +kernel, by decide +kernel, by decide +kernel, by decide +kernel, by decide +kernel, by decide +kernel, fun _ => rfl⟩⟩,
    by decide +kernel, by decide +kernel, ⟨by decide +kernel, fun _ => rfl⟩, by decide +kernel, by decide +kernel, by decide +kernel,
    by unfold Dev.loneLane; decide +kernel, by decide +kernel, by decide +kernel,
    ⟨by decide +kernel, by decide +kernel, by unfold Dev.takesGroup Dev.wakesNobody; decide +kernel, ⟨by decide +kernel, fun _ => rfl⟩, by decide +kernel⟩, by decide +kernel⟩

/-- A live test of schedule `k` that runs, in a rotation of period 5, the last tests of kind `n` at the ticks `ts`. -/
def testing (k : Nat) (t : TestRun) (n : Nat) (ts : List (Nat × Nat)) : Dev :=
  withRepair (fun r => { r with tests := [(k, some t)], lastTest := ts.map fun x => (128 * n + x.1, x.2) }) (slBase.wr REPAIR.CFG_PERIOD 5)
def ticksOf (k n : Nat) : List (Nat × Nat) := (List.range n).map fun j => (k + j, if j = 1 then 3 else 4 + j)

theorem witness_RepairEngine :
    ((∀ r ∈ slBase.repair.rots, r.kind ≠ 2) ∧ (∀ r ∈ slBase.repair.rots, r.kind ≠ 5) ∧ (rotatingSlot 1 1 none false false).blockOpen 4 = true ∧
      (∃ r ∈ (rotatingSlot 1 1 none false false).repair.rots, r.kind = 2) ∧ slBase.coresAtRest 2 ∧ slBase.sluice.injections = [] ∧
      (testing 2 ⟨8, false⟩ 2 (ticksOf 0 8)).coresAtRest 2 ∧ (testing 2 ⟨8, false⟩ 2 (ticksOf 0 8)).atBoundary 1 = true ∧
      (testing 2 ⟨8, false⟩ 2 (ticksOf 0 8)).slotState 1 ≠ 5 ∧ (testing 2 ⟨8, false⟩ 2 (ticksOf 0 8)).rd (spareFld 2) = 8) ∧
    (let d := (slBase.markFence 2 4).wr CORES.PL_STATUS_BUSY 1; d.unitFenced 2 4 = true ∧ d.testOf 2 = none ∧ d.on CORES.PL_STATUS_BUSY = true) ∧
    ((slBase.wr REPAIR.CFG_PERIOD 0).rd REPAIR.CFG_PERIOD = 0 ∧ (testing 4 ⟨8, false⟩ 0 []).rd REPAIR.CFG_PERIOD ≠ 0 ∧ (testing 4 ⟨8, false⟩ 0 []).testOf 4 ≠ none ∧
      (testing 4 ⟨8, false⟩ 0 []).testOf 3 = none) ∧
    (((slBase.wr REPAIR.CFG_PERIOD 5).wr CORES.PL_STATUS_BUSY 1).on CORES.PL_STATUS_BUSY = true ∧ (slBase.wr WELL.STATUS_STATE 3).power = 3) ∧
    (let d := slBase.wr REPAIR.CFG_PERIOD 5; d.power = 0 ∧ d.on CORES.PL_STATUS_BUSY = false ∧ 4 ∉ d.cores.spareHeld ∧ d.schedSpare 4 = some 8 ∧
      d.schedSpare 2 = some 8 ∧ d.nextLane = some 0) ∧
    (let d := testing 2 ⟨8, false⟩ 2 (ticksOf 0 8); d.testOf 2 = some ⟨8, false⟩ ∧ 1 ∈ d.serving 2 ∧
      (∀ j ∈ d.serving 2, d.rd (assignFld j) ≠ 8 ∧ (j ≠ 1 → d.tested 2 (d.rd (assignFld 1)) < d.tested 2 (d.rd (assignFld j)))) ∧
      (d.power = 0 ∧ d.sluice.injections = [] ∧ d.sluice.held.length < 64)) ∧
    (let d := testing 4 ⟨8, false⟩ 4 (ticksOf 0 8); d.testOf 4 = some ⟨8, false⟩ ∧ d.chisel.jobs = [] ∧ d.rd REPAIR.ASSIGN_X_SPARE_C = 8 ∧
      (∀ j, j < 8 → d.corePos j < 9 ∧ d.corePos j ≠ 8) ∧ ∀ j, j < 8 → j ≠ 1 → d.tested 4 (d.corePos 1) < d.tested 4 (d.corePos j)) ∧
    (let d := testing 6 ⟨33, false⟩ 5 (ticksOf 17 16); d.testOf 6 = some ⟨33, false⟩ ∧ d.repair.bankCopy = none ∧ d.repair.bankOut = [] ∧
      ∀ j, j < 16 → d.physBank (16 * 1 + j) ≠ 33 ∧ (j ≠ 1 → d.tested 5 (d.physBank (16 * 1 + 1)) < d.tested 5 (d.physBank (16 * 1 + j)))) ∧
    (let d := (testing 2 ⟨4, true⟩ 0 []).markFence 2 4; d.testOf 2 = some ⟨4, true⟩ ∧ d.unitFenced 2 4 = true ∧ (∀ j ∈ slotsOf 2, d.rd (assignFld j) ≠ 15) ∧
      (d.wr (assignFld 6) 15).rd (assignFld 6) = 15 ∧ ∀ m, m ∈ slotsOf 2 → m < 6 → (d.wr (assignFld 6) 15).rd (assignFld m) ≠ 15) ∧
    ((testing 1 ⟨7, false⟩ 0 []).testOf 1 = some ⟨7, false⟩ ∧ (testing 1 ⟨7, false⟩ 0 []).noPins ∧ slBase.testOf 1 = none) ∧
    (slBase.blockOpen 4 = true ∧ (slBase.markFence 2 4).unitFenced 2 4 = true ∧ slBase.unitFenced 2 8 = false ∧ (∀ j ∈ slBase.serving 2, slBase.rd (assignFld j) ≠ 8) ∧
      slBase.rd (spareFld 2) = 8 ∧ slBase.rd SYS.AM_STATUS_STATE = 0 ∧ (testing 2 ⟨8, false⟩ 0 []).testOf 2 ≠ none) :=
  ⟨by unfold Dev.coresAtRest; decide +kernel, by decide +kernel, by decide +kernel, by decide +kernel, by decide +kernel, by decide +kernel, by decide +kernel, by decide +kernel, by decide +kernel,
    ⟨by decide +kernel, ⟨by decide +kernel, fun _ => rfl⟩, by decide +kernel⟩, by decide +kernel⟩

theorem witness_FatalFaults :
    (slBase.wr SLUICE.STATUS_STOPPED 1).on SLUICE.STATUS_STOPPED = true ∧
    (slBase.on SLUICE.STATUS_STOPPED = false ∧ slBase.sluice.fPending = false ∧ slBase.well.mainOff = false ∧
      (slBase.power = 0 ∧ slBase.sluice.injections = [] ∧ slBase.sluice.held.length < 64)) ∧
    slBase.fCounted.length < max 1 (slBase.rd SLUICE.CFG_FATAL_MAX) ∧
    (let d := withSluice (fun x => { x with fResets := [1, 2, 3, 4] }) slBase; max 1 (d.rd SLUICE.CFG_FATAL_MAX) ≤ d.fCounted.length) ∧
    (let d := (slBase.wr SLUICE.STATUS_FATAL 1).wr SLUICE.FATAL_INFO_KIND 15; d.on SLUICE.STATUS_FATAL = true ∧ d.rd SLUICE.FATAL_INFO_KIND = 15 ∧
      d.rd CORES.BOOT_STATE = 0) := by decide +kernel

/-! ### Wellspring and Clepsydra -/

/-- The power state `n`; every slot allParked or unserved. -/
def powerAt (n : Nat) (d : Dev) : Dev := d.wr WELL.STATUS_STATE n
def allParked : Dev := (List.range 12).foldl (fun d k => d.setSlotState k (if k = 8 then 3 else 6)) (powerAt 7 slBase)
def withWell (f : Well → Well) (d : Dev) : Dev := { d with well := f d.well }
def entering (t : Nat) (fired : BitVec 16) : Dev := withWell (fun w => { w with fired := fired, leaving := t }) (powerAt 5 allParked)
def wakingFrom (n : Nat) : Dev := (powerAt 6 allParked).wr WELL.WAKE_CAUSE_FROM n
/-- Ripple B listens for address 0x123456 by every path. -/
def ripple : Dev :=
  (((((slBase.wr RIPPLE.CTRL_EN_B 1).wr (RIPPLE.CFG_A0_EN 1) 1).wr (RIPPLE.ADDR0_ADDR 1) 0x123456).wr (RIPPLE.CFG_BC_EN 1) 1).wr (RIPPLE.CFG_PAT_EN 1) 1).wr
    (RIPPLE.CFG_ACT_EN 1) 1
/-- A call of address 0x123456 after `n` zeros, its CRC xored with `x`; and the activity pattern. -/
def callLine (n x : Nat) : List Bool := bitChips (List.replicate n false ++ bitsHigh 8 0xD3 ++ bitsHigh 24 0x123456 ++ bitsHigh 8 (crc8 0x123456 ^^^ x))
def patternLine : List Bool := bitChips (List.replicate 9 false ++ bitsHigh 31 0x5A3C96E1)
def gpPin : Dev := (slBase.wr WELL.GPWAKE_PIN0 9).wr WELL.GPWAKE_PIN1 8

theorem rf_quiet_all (d : Dev) (h : (∀ p, p < 2 → (d.rfp p).tx = ⟨[], none, none⟩ ∧ d.rd (RF.SYN_STATUS_STATE p) = 0) ∧ d.basin.decls = [] ∧ d.lathe.spans = [])
    (hn : ∀ n, n < 72 → (d.lane n).state.running = false) : d.rfQuiet :=
  ⟨fun p hp => ⟨(h.1 p hp).1, (h.1 p hp).2, rf_quiet d hn p⟩, h.2.1, h.2.2⟩

theorem witness_SleepAndWake :
    (slBase.blockOpen 1 = true ∧ (powerAt 5 slBase).power = 5 ∧ (powerAt 7 slBase).power = 7 ∧ ((powerAt 6 slBase).wr WELL.MODE_HELD_V 1).on WELL.MODE_HELD_V = true) ∧
    ((allParked.power = 7 ∧ (∀ k, k < 12 → k ≠ 8 → allParked.slotState k = 3 ∨ allParked.slotState k = 4 ∨ allParked.slotState k = 6) ∧
      allParked.rd WELL.PEND_SOURCES &&& allParked.rd WELL.WAKE_EN_SOURCES = 0 ∧ (allParked.wr WELL.MODE_TARGET 4).rd WELL.MODE_TARGET = 4 ∧ allParked.cist.op = none ∧
      allParked.qsp.frames = [] ∧ ∀ p, p < 2 → allParked.rd (AQUA.LINK_STATE p) = 0) ∧ allParked.rfQuiet) ∧
    (let d := (allParked.wr WELL.PEND_SOURCES 4).wr WELL.WAKE_EN_SOURCES 4; d.rd WELL.PEND_SOURCES &&& d.rd WELL.WAKE_EN_SOURCES ≠ 0) ∧
    ((allParked.wr WELL.CFG_ENTRY_LIMIT 5000).rd WELL.CFG_ENTRY_LIMIT ≠ 0 ∧ allParked.well.waitFrom + (allParked.wr WELL.CFG_ENTRY_LIMIT 5000).rd WELL.CFG_ENTRY_LIMIT ≤ allParked.tick ∧
      allParked.tick < allParked.well.waitFrom + (allParked.wr WELL.CFG_ENTRY_LIMIT 5001).rd WELL.CFG_ENTRY_LIMIT) ∧
    (∀ t, 1 ≤ t → t ≤ 4 → (entering t 0#16).power = 5 ∧ (entering t 0#16).well.leaving = t ∧ (entering t 0#16).well.levels = 0#16 ∧ (entering t 0#16).well.fired = 0#16 ∧
      (entering t 0#16).cist.op = none ∧ (entering t 0#16).repair.bankCopy = none) ∧
    (let d := (entering 1 4#16).wr WELL.WAKE_EN_SOURCES 4; d.well.fired = BitVec.ofNat 16 (2 ^ 2) ∧ d.levelSources.testBit 2 = false ∧
      (d.rd WELL.WAKE_EN_SOURCES).testBit 2 = true ∧ (wakesFrom 2).testBit 1 = true ∧ (d.wr WELL.CFG_REPLAY 1).on WELL.CFG_REPLAY = true ∧
      d.on WELL.CFG_REPLAY = false) ∧
    (∀ n, 1 ≤ n → n ≤ 4 → (wakingFrom n).power = 6 ∧ (wakingFrom n).rd WELL.WAKE_CAUSE_FROM = n ∧ (wakingFrom n).on SLUICE.STATUS_STOPPED = false ∧
      (wakingFrom n).on WELL.STATUS_VMAIN_LOW = false ∧ (wakingFrom n).well.signatures = [] ∧
      (∀ p, p < 2 → (wakingFrom n).on (RF.SYN_CTRL_EN p) = false) ∧ (wakingFrom n).lathe.due = []) ∧
    (ripple.on (rippleEnFld 1) = true ∧ ripple.fencedAqRip 11 1 = false ∧ ripple.power = 0 ∧ (powerAt 4 ripple).power = 4 ∧ slBase.on (rippleEnFld 1) = false ∧
      ripple.on (RIPPLE.CFG_A0_EN 1) = true ∧ (0x123456#24).toNat = ripple.rd (RIPPLE.ADDR0_ADDR 1) ∧
      ripple.on (RIPPLE.CFG_BC_EN 1) = true ∧ ripple.on (RIPPLE.CFG_PAT_EN 1) = true ∧ ripple.on (RIPPLE.CFG_ACT_EN 1) = true ∧
      100000 * max 4100 (min 9600 (ripple.rd (RIPPLE.CFG_FREQ 1))) ≤ (868300000#30).toNat + 1000000 ∧
      (868300000#30).toNat ≤ 100000 * max 4100 (min 9600 (ripple.rd (RIPPLE.CFG_FREQ 1))) + 1000000 ∧ ripple.on (RIPPLE.CFG_RATE 1) = false ∧ 95 * 1000 ≤ 100 * 950 ∧ 100 * 1050 ≤ 105 * 1000) ∧
    (∀ n, n ∈ [7, 8] → ∀ x, x ∈ [0, 1] → chipBits (callLine n x) =
      List.replicate n false ++ bitsHigh 8 0xD3 ++ bitsHigh 24 (0x123456#24).toNat ++ bitsHigh 8 (BitVec.ofNat 8 (crc8 0x123456 ^^^ x)).toNat ++ []) ∧
    (crc8 (0x123456#24).toNat = (BitVec.ofNat 8 (crc8 0x123456 ^^^ 0)).toNat ∧ crc8 (0x123456#24).toNat ≠ (BitVec.ofNat 8 (crc8 0x123456 ^^^ 1)).toNat ∧
      chipBits patternLine = List.replicate 9 false ++ bitsHigh 31 0x5A3C96E1 ++ [] ∧
      max 1 (ripple.rd (RIPPLE.FB_ACT_MS 1)) ≤ (List.replicate 64 (-40 : Int)).length + 192 ∧ max (-82) (min (-40) (ripple.rdS (RIPPLE.FB_ACT_THR 1))) < -39) ∧
    (let d := (powerAt 2 ripple).wr WELL.WAKE_EN_SOURCES 0x20; (d.rd WELL.WAKE_EN_SOURCES).testBit 5 = true ∧ (wakesFrom 5).testBit 2 = true ∧ d.well.mainOff = false ∧
      d.well.levels = 0#16) ∧
    (gpPin.rd WELL.GPWAKE_PIN0 = 9 ∧ gpPin.rd WELL.GPWAKE_PIN1 ≠ 9 ∧ (gpPin.reg GPIO.OE_at).getLsbD 9 = false ∧ gpPin.pins.getLsbD 9 ≠ true ∧ gpPin.power = 0 ∧
      (gpPin.wr WELL.GPWAKE_LVL0 1).on WELL.GPWAKE_LVL0 = true) :=
  ⟨by decide +kernel, ⟨by decide +kernel, rf_quiet_all _ (by decide +kernel) (by decide +kernel)⟩, by decide +kernel, by decide +kernel,
    fun t h1 h4 => by
      obtain rfl | rfl | rfl | rfl : t = 1 ∨ t = 2 ∨ t = 3 ∨ t = 4 := by omega
      all_goals decide +kernel,
    by decide +kernel,
    fun t h1 h4 => by
      obtain rfl | rfl | rfl | rfl : t = 1 ∨ t = 2 ∨ t = 3 ∨ t = 4 := by omega
      all_goals decide +kernel,
    by decide +kernel, by decide +kernel, by decide +kernel, by decide +kernel, by decide +kernel⟩

theorem witness_SuppliesAndResets :
    (slBase.on WELL.STATUS_VMAIN_LOW = false ∧ slBase.cist.op = none ∧ slBase.rfQuiet) ∧ (slBase.wr WELL.STATUS_VMAIN_LOW 1).on WELL.STATUS_VMAIN_LOW = true ∧
    (let d := (powerAt 3 slBase).wr WELL.WAKE_EN_SOURCES 0x8000; d.power = 3 ∧ (d.rd WELL.WAKE_EN_SOURCES).testBit 15 = true ∧ (wakesFrom 15).testBit 3 = true ∧
      (wakesFrom 15).testBit 4 = true ∧ d.well.mainOff = false ∧ d.well.levels = 0#16) ∧
    (slBase.power ≠ 3 ∧ slBase.power ≠ 4 ∧ slBase.well.coreOff = false ∧ slBase.well.mainOff = false) ∧
    (let d := withWell (fun w => { w with mainOff := true, coreOff := true, startWhy := 3 }) Dev.reset;
      d.well.mainOff = true ∧ d.well.coreOff = true ∧ d.on SLUICE.STATUS_STOPPED = false ∧ d.well.startWhy < 8 ∧ d.flumes = [] ∧ d.cores = Cores.reset) ∧
    (let d := withWell (fun w => { w with mainOff := true, held := 4#16 }) ((powerAt 4 slBase).wr WELL.WAKE_EN_SOURCES 4);
      d.well.mainOff = true ∧ d.well.coreOff = false ∧ d.well.held = BitVec.ofNat 16 (2 ^ 2) ∧ d.well.levels = 0#16 ∧ d.power = 4) ∧
    (wakesFrom 2).testBit 3 = true ∧ (199 < 200 ∧ 200 ≤ 999 ∧ 1000 ≤ 1000) ∧ slBase.power = 0 ∧
    (slBase.on WELL.STATUS_SRC = false ∧ (slBase.wr WELL.STATUS_SRC 1).on WELL.STATUS_SRC = true) ∧
    ((18 : Fin 19).val ∉ [6, 7, 8, 10, 11, 12, 13, 14, 15, 16, 17] ∧ slBase.chisel.jobs = [] ∧ slBase.cist.susp = none ∧
      slBase.cist.op = none ∧ slBase.lathe.spans = [] ∧ (∀ n, n < 64 → (slBase.flume n).stalled = []) ∧ (∀ n, n < 72 → (slBase.lane n).state ≠ .search) ∧
      ∀ q, q < 4 → slBase.on (CHISEL.QCFG_EN q) = false) :=
  ⟨⟨by decide +kernel, by decide +kernel, rf_quiet_all _ (by decide +kernel) (by decide +kernel)⟩, by decide +kernel⟩

/-- Timer 3 at 40 of 100, its match at 41; timer 4 at 2³² − 1; timer 5 at its period. -/
def timersSet : Dev :=
  ((((((slBase.wr (TIM.PERIOD_PERIOD 3) 100).wr (TIM.COUNT_COUNT 3) 40).wr (TIM.CMP_CMP 3) 41).wr (TIM.CFG_CMP_EN 3) 1).wr (TIM.COUNT_COUNT 4) 0xFFFFFFFF).wr
    (TIM.COUNT_COUNT 5) 77).wr (TIM.PERIOD_PERIOD 5) 77
def withClep (f : Clep → Clep) (d : Dev) : Dev := { d with clep := f d.clep }
def timerDueAt (n : Nat) (t : TimerDue) (d : Dev) : Dev := d.setTimerDue n t
def portActive : Dev := (((timersSet.wr (portEnFld 1) 1).wr (RF.SYN_STATUS_STATE 1) 3).wr (TIM.CFG_SRC 3) 1)
def armed40 : Dev := run (.dmonArm (.bowl 1) 40 5001#32) slBase

theorem witness_TickTimersAndDeadlines :
    (slBase.edgeQuiet ∧ ¬ 32000000 ≤ slBase.clep.acc + slBase.trim.natAbs) ∧
    (let d := (withClep (fun c => { c with acc := 31999999 }) slBase).wr CLEP.TRIM_VALUE 1; d.edgeQuiet ∧ 32000000 ≤ d.clep.acc + d.trim.natAbs ∧ 0 ≤ d.trim) ∧
    (let d := (withClep (fun c => { c with acc := 31999999 }) slBase).wr CLEP.TRIM_VALUE 65535; 32000000 ≤ d.clep.acc + d.trim.natAbs ∧ ¬ 0 ≤ d.trim) ∧
    (slBase.anyActive = false ∧ portActive.anyActive = true ∧ portActive.clep.timers = [] ∧ portActive.sluice.fPending = false ∧ portActive.spout.held = [] ∧
      portActive.rd (TIM.COUNT_COUNT 3) < portActive.rd (TIM.PERIOD_PERIOD 3)) ∧
    ((slBase.power = 0 ∧ slBase.sluice.injections = [] ∧ slBase.sluice.held = []) ∧ (5 : BitVec 48) ≠ 7 ∧ ∀ p, p < 2 → (slBase.rfp p).tx = ⟨[], none, none⟩) ∧
    ((timerDueAt 5 ⟨1, false⟩ timersSet).timerDue 5 = ⟨1, false⟩ ∧ timersSet.rd (TIM.COUNT_COUNT 5) = timersSet.rd (TIM.PERIOD_PERIOD 5) ∧
      timersSet.rd (TIM.COUNT_COUNT 4) = 0xFFFFFFFF ∧ (timerDueAt 3 ⟨0, true⟩ timersSet).timerDue 3 = ⟨0, true⟩ ∧ timersSet.timerDue 3 = ⟨0, false⟩) ∧
    (timersSet.blockOpen 2 = true ∧ 1 ≤ (41 + 2 ^ 32 - timersSet.rd (TIM.COUNT_COUNT 3)) % 2 ^ 32 ∧ (40 + 2 ^ 32 - timersSet.rd (TIM.COUNT_COUNT 3)) % 2 ^ 32 = 0 ∧
      timersSet.on (TIM.CFG_CATCHUP 3) = false ∧ (timersSet.wr (TIM.CFG_CATCHUP 3) 1).on (TIM.CFG_CATCHUP 3) = true) ∧
    (slBase.latheMon 40 = false ∧ (slBase.setReg LATHE.DMON_HI_at 256#32).latheMon 40 = true ∧ (slBase.mon 40).due = false ∧ (armed40.mon 40).armed = true ∧
      (slBase.mon 40).armed = false ∧ (slBase.mon 40).expired = false ∧ ((armed40.setMon 40 { armed40.mon 40 with due := true }).mon 40).due = true) :=
  ⟨⟨by unfold Dev.edgeQuiet; decide +kernel, by decide +kernel⟩, ⟨by unfold Dev.edgeQuiet; decide +kernel, by decide +kernel, by decide +kernel⟩, by decide +kernel⟩

/-- The calendar at a second boundary. -/
def calendar (h m x y mo dd : Nat) : Dev :=
  withClep (fun c => { c with secondDue := true })
    ((((((slBase.wr CAL.TIME_HOUR h).wr CAL.TIME_MIN m).wr CAL.TIME_SEC x).wr CAL.DATE_YEAR y).wr CAL.DATE_MONTH mo).wr CAL.DATE_DAY dd)
/-- A measurement of mains (or network) in progress. -/
def measuring (net started : Bool) (last edges : Nat) : Dev :=
  withClep (fun c => { c with meas := some ⟨net, 50, 16, started, 0, last, edges, 5, 9⟩ }) slBase

/-- R319, R327: leap years. -/
theorem test_leap_years : daysIn 2000 2 = 29 ∧ daysIn 1900 2 = 28 ∧ daysIn 2024 2 = 29 ∧ daysIn 2023 2 = 28 ∧ daysIn 0 4 = 30 := by decide

theorem witness_CalendarAndTrim :
    (slBase.clep.secondDue = false ∧ (calendar 23 59 59 9999 12 31).clep.secondDue = true ∧
      (calendar 23 59 59 9999 12 31).on CAL.ALARM_SEC_EN = false ∧ (calendar 23 59 59 9999 12 31).on CAL.ALARM_MIN_EN = false ∧
      (calendar 23 59 59 9999 12 31).on CAL.ALARM_HOUR_EN = false ∧ (calendar 23 59 59 9999 12 31).on CAL.ALARM_DAY_EN = false ∧
      59 ≤ (calendar 23 59 59 9999 12 31).rd CAL.TIME_SEC ∧ daysIn 9999 12 ≤ (calendar 23 59 59 9999 12 31).rd CAL.DATE_DAY) ∧
    (let d := (calendar 1 2 3 4 5 6).wr CAL.ALARM_SEC_EN 1; d.on CAL.ALARM_SEC_EN = true ∧ d.power = 0 ∧ d.rd CAL.TIME_SEC < 59 ∧
      (d.wr CAL.ALARM_SEC 4).rd CAL.ALARM_SEC = d.rd CAL.TIME_SEC + 1) ∧
    (slBase.blockOpen 2 = true ∧ (0x173B3B#32).toNat / 2 ^ 16 % 32 ≤ 23 ∧ 23 < (0x183B3B#32).toNat / 2 ^ 16 % 32 ∧ (7#32).toNat % 8 = 7) ∧
    (slBase.clep.meas = none ∧ (measuring false false 0 0).clep.meas = some ⟨false, 50, 16, false, 0, 0, 0, 5, 9⟩) ∧
    (let d := clk 1312 (measuring false true 0 0); 2 * 2 ^ 25 ≤ (d.tick * 1024 + 1023 - 0) * 50) ∧
    ((((slBase.atFrac 0#10).now - 5000 * 1024) * 50 * 10 < 4 * 2 ^ 25) ∧ 4 * 2 ^ 25 ≤ ((slBase.atFrac 0#10).now - 0) * 50 * 10 ∧ 799 + 1 = 16 * 50 ∧ 798 + 1 ≠ 16 * 50) ∧
    (let d := measuring true true 0 0; let net := (d.setReg CLEP.NET_TX_at 524293#32).reg CLEP.NET_TX_at;
      16 * 32768 ≤ (net.toNat + 2 ^ 32 - 5) % 2 ^ 32 ∧ (net.toNat + 2 ^ 32 - 5) % 2 ^ 32 < 2 ^ 31 ∧ 0 < signed 32 (524297 + 2 ^ 32 - 9) ∧ signed 32 (9 + 2 ^ 32 - 9) ≤ 0) ∧
    ((slBase.wr CLEP.MEAS_STATUS_STATE 2).rd CLEP.MEAS_STATUS_STATE = 2 ∧ slBase.rd CLEP.MEAS_STATUS_STATE ≠ 2) := by decide +kernel

/-! ### Spout, the serial ports and Amelaog -/

/-- A packet (R363): opcode, sequence, parameters, CRC. -/
def pkt (op seq : Nat) (ps : List Byte) : List Byte :=
  let o := [BitVec.ofNat 8 op, BitVec.ofNat 8 seq] ++ octetsLow 2 ps.length ++ ps
  o ++ octetsLow 2 (crc16 o)
def heldBy (src phase : Nat) (o : List Byte) : HeldCmd := ⟨src, o, phase, [], 0#32, 0, false⟩
def withHeld (l : List HeldCmd) (d : Dev) : Dev := { d with spout := { d.spout with held := l } }
def takenOp (op : Nat) (ps : List Byte) : HeldCmd := heldBy 0 1 (pkt op 7 ps)
/-- Words 0x100 (INT) and 0x104 (POISON) of memory, the command taken by the engine. -/
def engineOn (h : HeldCmd) : Dev := withHeld [h] ((slBase.putWord 0x100 ⟨0x11223344#32, .int⟩).putWord 0x104 ⟨0x55667788#32, .poison⟩)

theorem test_ping_packet : pkt 0 7 [] = [0#8, 7#8, 0#8, 0#8, 0x50#8, 1#8] := by decide +kernel

theorem witness_SpoutEngine :
    (slBase.engineUp = true ∧ slBase.taken = none ∧ (withHeld [heldBy 0 0 (pkt 0 7 [])] slBase).taken = none) ∧
    (let g := heldBy 0 0 (pkt 0 7 []); 4 ≤ g.octets.length ∧ g.len ≤ 1024 ∧ 6 + g.len ≤ g.octets.length ∧
      leAt g.octets (4 + g.len) 2 = crc16 (g.octets.take (4 + g.len)) ∧ hardListed g.opcode = true ∧ lengthGood g.opcode g.params = true) ∧
    (hardListed 9 = false ∧ lengthGood 2 [] = false ∧ 0x40 ≤ (heldBy 0 0 (pkt 0x40 7 [])).opcode ∧ ¬ 4 ≤ (heldBy 0 0 [1#8, 2#8]).octets.length) ∧
    (let d := fl 8 ((slBase.wr (SPOUT.AQBUF_ADDR 1) 0x500040).wr SPOUT.OTA_OUT_FLUME 8); d.rd (SPOUT.AQBUF_ADDR 1) ≠ 0 ∧ d.takesGroup 8 4) ∧
    (∀ op, op ∈ [0x00, 0x01, 0x3F, 0x02, 0x03, 0x04, 0x05, 0x06, 0x07, 0x08, 0x10, 0x11, 0x12, 0x13, 0x20, 0x30, 0x3E] →
      (engineOn (takenOp op [])).engaged (takenOp op []) op) ∧
    (let h := takenOp 2 [0#8, 1#8, 0#8, 0#8, 2#8, 0#8]; leAt h.params 0 4 = 0x100 ∧ leAt h.params 4 2 = 2 ∧ (engineOn h).cleanRun 0x100 2 ∧
      ((List.range 2).any fun i => ((engineOn h).word (0x100 + 4 * i)).tag == .poison) = true) ∧
    (let h := takenOp 5 ([0#8, 2#8, 0#8, 0#8, 3#8, 0#8] ++ List.replicate 8 1#8); leAt h.params 0 4 = 0x200 ∧ (h.params.length - 6) / 4 = 2 ∧ leAt h.params 4 1 < 16 ∧
      (writeWords h.params .int).getLast?.isSome = true ∧ ∀ i, i < 2 → (engineOn h).bankDead (0x200 + 4 * i) = false) ∧
    (let d := { slBase with well := { slBase.well with testmode := true } }; (takenOp 0x3E [0x7E#8, 0xE7#8]).params = [0x7E#8, 0xE7#8] ∧ d.well.testmode = true) ∧
    (slBase.cistFenced = false ∧ slBase.cist.op = none ∧ slBase.cist.susp = none ∧ slBase.on CIST.STATUS_AUTO = false ∧
      (withCist (fun c => { c with seqTick := 4968 }) slBase).tick ≤ 4968 + 32 ∧ slBase.cist.sector = 0 ∧ slBase.cist.journal0.length < 512 ∧
      leAt (takenOp 0x11 [0xFF#8, 1#8]).params 0 2 = 511) ∧
    (let h := { takenOp 0x10 ([0xA0#8, 0#8, 0x28#8, 8#8] ++ List.replicate 32 1#8) with phase := 5 };
      (leAt h.params 0 4 - 0x08000000) / 32 = aLine ∧ Store.get (shippedLine aLine) slBase.cist.lines aLine = none ∧ (engineOn h).taken = some h ∧
      0 + 3355 ≤ (engineOn h).tick * 1024) ∧
    (let d := fl 9 (((slBase.wr SPOUT.CFG_SOFT_EN 1).wr SPOUT.CFG_SOFT_FLUME 9).wr CORES.BOOT_STATE 1); d.rd CORES.BOOT_STATE = 1 ∧ d.on SLUICE.STATUS_STOPPED = false ∧
      d.on SPOUT.CFG_SOFT_EN = true ∧ d.flumeOn 9 = true ∧ d.takesGroup 9 2 ∧ slBase.rd CORES.BOOT_STATE ≠ 1) ∧
    (let h := heldBy 0 2 (pkt 0x41 7 []); let d := withHeld [h] (withDesc 9 [⟨Word.ofNat (7 * 2 ^ 16 + 0x41 * 256), .nat⟩, ⟨4#32, .nat⟩, ⟨5#32, .bytes⟩] (slBase.wr SPOUT.CFG_SOFT_REPLY 9));
      (d.spout.held.filter fun x => x.phase == 2).head? = some h ∧ h.seq = 7 ∧ h.opcode = 0x41 ∧ h.softAt + max 1 (d.rd SPOUT.SOFT_TMO_TICKS) ≤ (clk (2 ^ 32) d).tick) ∧
    (let ws : List TWord := [⟨Word.ofNat (7 * 2 ^ 16 + 0x41 * 256), .nat⟩, ⟨4#32, .nat⟩, ⟨5#32, .bytes⟩]; (withDesc 9 ws (fl 9 (slBase.wr SPOUT.CFG_SOFT_REPLY 9))).waits 9 ws []) := by
  refine ⟨by decide +kernel, by decide +kernel, by decide +kernel, ⟨by decide +kernel, by unfold Dev.takesGroup Dev.wakesNobody; decide +kernel⟩,
    by unfold Dev.engaged; decide +kernel, ⟨by decide +kernel, by decide +kernel, by unfold Dev.cleanRun Dev.cleanWord; decide +kernel, by decide +kernel⟩,
    by decide +kernel, by decide +kernel, by decide +kernel, by decide +kernel,
    ⟨by decide +kernel, by decide +kernel, by decide +kernel, by decide +kernel, by unfold Dev.takesGroup Dev.wakesNobody; decide +kernel, by decide +kernel⟩,
    by decide +kernel, by unfold Dev.waits; decide +kernel⟩

/-- The UART on, its packets to the engine; the slave on and selected; master 1 ready for a frame of 5 octets at 0x500100. -/
def uartOn : Dev := slBase.wr SPOUT.CFG_UART_EN 1
def slaveOn : Dev := withWell (fun w => { w with levels := 0x800#16 }) (slBase.wr QSP.CFG_S_EN 1)
def qspReady (len dir : Nat) : Dev :=
  ((((slBase.wr (QSP.CTRL_EN 1) 1).wr (QSP.BUF_ADDR 1) 0x500100).wr (QSP.LEN_OCTETS 1) len).wr (QSP.PHASE_DIR 1) dir).putWord 0x500100 ⟨0x44332211#32, .bytes⟩
def aFrame (isWrite : Bool) : QspFrame := ⟨isWrite, 5, 0x500100, [], [], true⟩
def mapOn : Dev := slBase.wr QSP.MAP_EN 1

theorem witness_SerialPorts :
    ((slBase.wr SPOUT.CFG_UART_EN 0).on SPOUT.CFG_UART_EN = false ∧ uartOn.on SPOUT.CFG_UART_EN = true ∧ uartOn.running = true ∧ uartOn.well.coreOff = false ∧ uartOn.unitFenced 12 0 = false) ∧
    (let d := (powerAt 2 uartOn).wr WELL.WAKE_EN_SOURCES 1024; d.power = 2 ∧ (d.rd WELL.WAKE_EN_SOURCES).testBit 10 = true ∧ (wakesFrom 10).testBit 2 = true ∧
      d.well.levels = 0#16) ∧
    (uartOn.spout.uartIgnore = false ∧ 6 ≤ (pkt 0 7 []).length ∧ (pkt 0 7 []).length = 6 + leAt (pkt 0 7 []) 2 2 ∧ (∀ x ∈ uartOn.spout.held, x.src ≠ 0) ∧
      (∃ x ∈ (withHeld [takenOp 0 []] uartOn).spout.held, x.src = 0) ∧ 1024 < (1025#16).toNat ∧ ¬ 1024 < (1024#16).toNat) ∧
    (let d := withDesc 9 [⟨5#32, .nat⟩, ⟨7#32, .bytes⟩] (fl 9 ((slBase.wr SPOUT.OTA_EN 1).wr SPOUT.OTA_IN_FLUME 9)); d.engineUp = true ∧ d.on SPOUT.OTA_EN = true ∧
      (∀ x ∈ d.spout.held, x.src ≠ 4) ∧ d.waits 9 (⟨5#32, .nat⟩ :: [⟨7#32, .bytes⟩]) [] ∧ slBase.on SPOUT.OTA_EN = false) ∧
    (let h := { heldBy 0 3 (pkt 0 7 []) with thenReset := true }; (withHeld [h] slBase).heldCmd 0 = some h ∧ slBase.power = 0 ∧ slBase.well.mainOff = false) ∧
    (slaveOn.slaveOpen ∧ slBase.on QSP.CFG_S_EN = false ∧ slBase.slaveServes = false ∧ (∀ x ∈ slaveOn.spout.held, x.src ≠ 1)) ∧
    (let h := heldBy 1 3 (pkt 0 7 []); (withHeld [h] slaveOn).heldCmd 1 = some h ∧ h.reply.length ≤ 0 + 4) ∧
    (let d := qspReady 4 1; d.blockOpen 16 = true ∧ d.on (QSP.CTRL_EN 1) = true ∧ d.unitFenced 13 1 = false ∧ d.qspFrame 1 = none ∧ d.rd (QSP.BUF_ADDR 1) % 4 = 0 ∧
      0x500000 ≤ d.rd (QSP.BUF_ADDR 1) ∧ d.on (QSP.PHASE_DIR 1) = true ∧ d.holdsFrame 0x500100 4 [0x11#8, 0x22#8, 0x33#8, 0x44#8] ∧ d.cleanRun 0x500100 2 ∧
      (d.word 0x500104).tag.bad = true ∧ ((d.putWord 0x500104 ⟨0#32, .int⟩).word 0x500104).tag ≠ .bytes) ∧
    ((qspReady 0 0).rd (QSP.LEN_OCTETS 1) = 0 ∧ (qspReady 0 0).on (QSP.PHASE_DIR 1) = false ∧ ¬ ((qspReady 4 0).wr (QSP.BUF_ADDR 1) 0x3FFFFE).rd (QSP.BUF_ADDR 1) % 4 = 0 ∧
      (mapOn.wr (QSP.CTRL_EN 0) 1).on QSP.MAP_EN = true ∧ (mapOn.wr (QSP.CTRL_EN 0) 1).qspFrame 0 = none) ∧
    (let d := { slBase with qsp := { slBase.qsp with frames := [(1, some (aFrame false))] } }; d.qspFrame 1 = some (aFrame false) ∧ (aFrame false).len ≤ 4096 ∧
      d.writable 0x500100 5) ∧
    (mapOn.on QSP.MAP_EN = true ∧ mapOn.unitFenced 13 0 = false ∧ (mapOn.qsp.lines.filter fun x => x.1 == 32) = [] ∧ (mapOn.wr QSP.MAP_PREFETCH 0).on QSP.MAP_PREFETCH = false ∧
      (mapOn.wr QSP.MAP_PREFETCH 1).on QSP.MAP_PREFETCH = true ∧ slBase.on QSP.MAP_EN = false) ∧
    (slBase.power = 0 ∧ slBase.well.coreOff = false ∧ slBase.sluice.injections = [] ∧ slBase.sluice.held.length < 64 ∧ slBase.blockOpen 16 = true ∧
      ({ uartOn with spout := { uartOn.spout with uartIgnore := true } }).on SPOUT.CFG_UART_EN = true ∧ (0x000403#24).toNat % 4 ≠ 0 ∧ (0x000400#24).toNat % 4 = 0) := by
  refine ⟨by decide +kernel, by decide +kernel, by decide +kernel, ⟨by decide +kernel, by decide +kernel, by decide +kernel, by unfold Dev.waits; decide +kernel, by decide +kernel⟩,
    by decide +kernel, ⟨by unfold Dev.slaveOpen; decide +kernel, by decide +kernel⟩, by decide +kernel,
    ⟨by decide +kernel, by decide +kernel, by decide +kernel, by decide +kernel, by decide +kernel, by decide +kernel, by decide +kernel,
      by unfold Dev.holdsFrame Dev.cleanWord; decide +kernel, by unfold Dev.cleanRun Dev.cleanWord; decide +kernel, by decide +kernel⟩,
    by decide +kernel, ⟨by decide +kernel, by decide, by unfold Dev.writable; decide +kernel⟩, by decide +kernel, by decide +kernel⟩

/-- Four zero words. -/
def zero4 : List Word := [0#32, 0#32, 0#32, 0#32]
/-- The words of an image's header (R382): type, LENGTH, KEYIDX 5, a requirement of type `r`, BODYMAC and HDRMAC. -/
def hdrWords (t len r : Nat) (bmac mac : List Word) : List Word :=
  [0x49505548#32, Word.ofNat (1 + t * 256), Word.ofNat (0x7740 + 2 ^ 24), 0x01020003#32, 0x00010001#32, Word.ofNat r] ++ List.replicate 7 0#32 ++
    [Word.ofNat len, Word.ofNat (512 + 5 * 65536), 0#32, 0#32, 0#32, 0x55667788#32, 0x11223344#32] ++ List.replicate 36 0#32 ++ bmac ++ mac

/-- Words in memory from `a` on. -/
def withWords (a : Nat) (ws : List Word) (d : Dev) : Dev := (List.range ws.length).foldl (fun d i => d.putWord (a + 4 * i) ⟨ws.getD i 0#32, .bytes⟩) d

/-- Amelaog set up: notices to Flume 6, Chisel queue 3, workspace 0x200000, key 5, no image in force. -/
def amBase : Dev :=
  let d := (((fl 6 (slBase.setReg SYS.ID_at 0x77400001#32)).wr (CHISEL.QCFG_EN 3) 1).wr SYS.AM_WORK_ADDR 0x200000).wr SYS.AM_CFG_NOTE_EN 1 |>.wr SYS.AM_CFG_NOTE_FLUME 6
  [1, 2, 3, 4, 5, 6].foldl (fun d t => d.wr (inforceFld t) 3)
    { d with chisel := { d.chisel with keys := [(5, ⟨0x0F0E0D0C0B0A09080706050403020100#256, 0, true⟩)] } }
def amAt (n : Nat) (d : Dev) : Dev := d.wr SYS.AM_STATUS_STATE n
def withAm (f : Am → Am) (d : Dev) : Dev := { d with am := f d.am }

/-- The image of type `t` with 8 octets of zeros in slot 0, STORED with CRC `crc`. -/
def storedWith (t r crc : Nat) (d : Dev) : Dev :=
  let ws := hdrWords t 8 r zero4 zero4 ++ [0#32, 0#32]
  let n := cistLineNo (regionAt t 0)
  withCist (fun c => { c with
    lines := (List.range 9).map (fun i => (n + i, some ⟨lineOf ((ws ++ List.replicate 6 0xFFFFFFFF#32).drop (8 * i) |>.take 8), 0#256, false⟩)) ++
      [(cistLineNo (regionEnd t 0 - 96), some ⟨markLine [1#32, Word.ofNat crc, 8#32], 0#256, false⟩)] }) d

def stored (t r : Nat) (d : Dev) : Dev := storedWith t r (if t = 6 then (if r = 0 then 1323070447 else 1762408403) else if t = 3 then 183197721 else 586662277) d

/-- Lines that are all sound read without an error. -/
theorem sound_lines (st : Store (Option CistLine)) (k : Nat) (x : Option CistLine) (hx : x = none)
    (h : ∀ y ∈ st, ∀ l, y.2 = some l → l.torn = false ∧ l.flip = 0#256) : ∀ l, Store.get x st k = some l → l.torn = false ∧ l.flip = 0#256 := by
  induction st with
  | nil => intro l e; rw [Store.get, hx] at e; cases e
  | cons y r ih =>
    intro l e
    rw [Store.get] at e
    by_cases g : k = y.1
    · rw [if_pos g] at e; exact h y (by simp) l e
    · rw [if_neg g] at e; exact ih (fun z hz => h z (by simp [hz])) l e

/-- A header of type 6 whose MACs are right for one chunk of 8 octets of zeros. -/
def wordsOf (o : List Nat) : List Word := (List.range 4).map fun i => wordOfOctets (((o.drop (4 * i)).take 4).map fun v => BitVec.ofNat 8 v)
def macOf (o : List Nat) : List Nat := amBase.mac16 5 o
def chunkBody : List Nat := [0, 0, 0, 0, 0x88, 0x77, 0x66, 0x55, 0x44, 0x33, 0x22, 0x11, 0, 0, 0, 0] ++ List.replicate 8 0
def zeroMac : List Nat := List.replicate 16 0
/-- An open reception of type 6 into slot 0. -/
def opened (n len : Nat) : Dev := withAm (fun m => { m with hdr := hdrWords 6 len 0 zero4 zero4, slot := 0, jobTick := 5000 }) (amAt n amBase)
/-- A chunk unit of index `i` at 0x300000. -/
def unitWords (i : Nat) : List Word := zero4 ++ [Word.ofNat i, 0x55667788#32, 0x11223344#32, 0#32] ++ [0#32, 0#32]

theorem witness_AmelaogReception :
    (amBase.blockOpen 0 = true ∧ (amAt 3 amBase).amState ≠ 0 ∧ amBase.amState = 0 ∧ amBase.amReady ∧ ¬ (amBase.wr SYS.AM_WORK_ADDR 0x200020).amReady) ∧
    (0x5FFF00 + 256 ≤ 0x600000 ∧ ¬ 0x5FFF04 + 256 ≤ 0x600000) ∧
    ((withWords 0x100000 (hdrWords 6 600 0 zero4 zero4) amBase).cleanRun 0x100000 64 ∧
      let d := withWords 0x100000 (hdrWords 6 600 0 zero4 zero4) amBase
      let h : Hdr := (List.range 64).map fun i => (d.word (0x100000 + 4 * i)).data
      (∀ i, i < 64 → (d.word (0x100000 + 4 * i)).tag.bad = false) ∧ h = hdrWords 6 600 0 zero4 zero4 ∧ h.w 0 = 0x49505548#32 ∧ bitsOf (h.w 1) 0 8 = 1 ∧ h.type = 6 ∧
        bitsOf (h.w 2) 0 16 = 0x7740 ∧ bitsOf (h.w 2) 16 8 ≤ d.rd SYS.ID_STEP ∧ d.rd SYS.ID_STEP ≤ bitsOf (h.w 2) 24 8 ∧ h.badLayout = false ∧
        (d.keyEntry h.key).valid = true ∧ Hdr.badLayout (hdrWords 6 65185 0 zero4 zero4) = true) ∧
    ((opened 3 600).amState = 3 ∧ (opened 3 600).am.chunk = none ∧ (withWords 0x300000 (unitWords 1) (opened 3 600)).cleanRun 0x300000 8 ∧
      let d := withWords 0x300000 (unitWords 0) (opened 3 8)
      Hdr.chunks d.am.hdr = 1 ∧ (d.word (0x300000 + 16)).data.toNat = 0 ∧ d.cleanRun (0x300000 + 32) 2 ∧ (∀ j, j < 10 → (d.word (0x300000 + 4 * j)).tag.bad = false) ∧
        ((d.word (0x300000 + 20)).data, (d.word (0x300000 + 24)).data) = Hdr.build d.am.hdr ∧ Store.get none d.am.stored 0 = (none : Option (List Nat))) ∧
    (opened 1 600).amState = 1 ∧
    ((opened 2 600).amState = 2 ∧ (opened 2 600).cistFree = true ∧ Hdr.type (opened 2 600).am.hdr = 6 ∧ (opened 2 600).am.slot < 2) ∧
    (let d := withAm (fun m => { m with chunk := some ⟨0, zeroMac, chunkBody⟩ }) (opened 3 8); d.am.chunk = some ⟨0, zeroMac, chunkBody⟩ ∧ d.cistFree = true ∧
      macOf chunkBody ≠ zeroMac ∧ (List.range (Hdr.chunks d.am.hdr)) = [0] ∧ 5000 + 32768 ≤ (clk 37768 d).tick ∧
      d.power = 0 ∧ d.sluice.injections = [] ∧ d.sluice.held.length < 64) := by
  refine ⟨by unfold Dev.amReady; decide +kernel, by decide, ⟨by unfold Dev.cleanRun Dev.cleanWord; decide +kernel, by decide +kernel⟩,
    ⟨by decide +kernel, by decide +kernel, by unfold Dev.cleanRun Dev.cleanWord; decide +kernel, by unfold Dev.cleanRun Dev.cleanWord; decide +kernel⟩,
    by decide +kernel, by decide +kernel, by decide +kernel⟩

/-- A header of type 6 for 8 octets, its words 60 to 63 the HDRMAC. -/
def rightMac : List Nat := [133, 95, 206, 57, 233, 110, 103, 6, 212, 253, 169, 76, 230, 115, 236, 127]
def rightHdr : Hdr := hdrWords 6 8 0 zero4 (wordsOf rightMac)
def chunkMac : List Nat := [210, 130, 25, 188, 7, 67, 61, 181, 220, 83, 65, 32, 90, 194, 148, 111]
def atCheck (h : Hdr) (d : Dev) : Dev := withAm (fun m => { m with hdr := h }) (amAt 1 d)

theorem witness_AmelaogMacs :
    (atCheck rightHdr amBase).mac16 (Hdr.key rightHdr) ((Hdr.octets rightHdr).take 240) = rightMac ∧ (Hdr.octets rightHdr).drop 240 = rightMac ∧
    (opened 3 8).mac16 5 chunkBody = chunkMac := by decide +kernel

/-- The CRC register with every step carried out. -/
def crcRun : Nat → List Byte → Nat
  | c, [] => c
  | 0, x :: l => crcRun (crc32Octet 0 x) l
  | c + 1, x :: l => crcRun (crc32Octet (c + 1) x) l

theorem crcRun_eq (l : List Byte) : ∀ c, l.foldl crc32Octet c = crcRun c l := by
  induction l with
  | nil => intro c; cases c <;> rfl
  | cons x l ih => intro c; cases c <;> exact ih _

/-- The same, 24 octets at a time. -/
def crcParts : Nat → Nat → List Byte → Nat
  | 0, c, l => crcRun c l
  | n + 1, c, l =>
    match crcRun c (l.take 24) with
    | 0 => crcParts n 0 (l.drop 24)
    | c + 1 => crcParts n (c + 1) (l.drop 24)

theorem crcParts_eq (n : Nat) : ∀ c l, List.foldl crc32Octet c l = crcParts n c l := by
  induction n with
  | zero => exact fun c l => crcRun_eq l c
  | succ n ih =>
    intro c l
    conv => lhs; rw [← List.take_append_drop 24 l, List.foldl_append, ih, crcRun_eq]
    rw [crcParts]
    split <;> rename_i h <;> rw [h]

theorem valid_of (d : Dev) (t k : Nat) (h : d.imageStored t k = true) (hl : 1 ≤ d.imageLen t k) (hr : d.imageReadable t k = true)
    (hc : crcParts 10 0xFFFFFFFF (d.imageOctets t k) ^^^ 0xFFFFFFFF = (d.imageWord (regionEnd t k - 96 + 4)).toNat) : d.imageValid t k = true := by
  have e : crc32 (d.imageOctets t k) = (d.imageWord (regionEnd t k - 96 + 4)).toNat := by rw [crc32, crcParts_eq 10]; exact hc
  simp only [Dev.imageValid, h, hl, hr, e, decide_true, Bool.true_and, beq_self_eq_true]

theorem stored_valid_60 : (stored 6 0 amBase).imageValid 6 0 = true :=
  valid_of _ _ _ (by decide +kernel) (by decide +kernel) (by decide +kernel) (by decide +kernel)

theorem stored_valid_61 : (stored 6 1 amBase).imageValid 6 0 = true :=
  valid_of _ _ _ (by decide +kernel) (by decide +kernel) (by decide +kernel) (by decide +kernel)

theorem stored_valid_10 : (stored 1 0 amBase).imageValid 1 0 = true :=
  valid_of _ _ _ (by decide +kernel) (by decide +kernel) (by decide +kernel) (by decide +kernel)

theorem checked_valid : (atCheck rightHdr (stored 6 0 amBase)).imageValid 6 0 = true :=
  valid_of _ _ _ (by decide +kernel) (by decide +kernel) (by decide +kernel) (by decide +kernel)

theorem stored_valid (t r : Nat) (h : (t, r) ∈ [(6, 0), (6, 1), (1, 0)]) : (stored t r amBase).imageValid t 0 = true := by
  simp only [List.mem_cons, Prod.mk.injEq, List.not_mem_nil, or_false] at h
  obtain ⟨rfl, rfl⟩ | ⟨rfl, rfl⟩ | ⟨rfl, rfl⟩ := h
  · exact stored_valid_60
  · exact stored_valid_61
  · exact stored_valid_10

theorem stored_waits (t r : Nat) (h : (t, r) ∈ [(6, 0), (6, 1), (1, 0)]) : (stored t r amBase).waitingSlot t = some 0 := by
  have v := stored_valid t r h
  simp only [Dev.waitingSlot, Dev.imageFresh, List.filter_cons, List.filter_nil, v]
  simp only [List.mem_cons, Prod.mk.injEq, List.not_mem_nil, or_false] at h
  obtain ⟨rfl, rfl⟩ | ⟨rfl, rfl⟩ | ⟨rfl, rfl⟩ := h <;> decide +kernel

/-- Whether the set of one type is compatible, by the slot that its image waits in. -/
theorem stored_compatible (t r : Nat) (h : (t, r) ∈ [(6, 0), (6, 1), (1, 0)]) : (stored t r amBase).setCompatible [t] = (r == 0) := by
  have w := stored_waits t r h
  have a : (stored t r amBase).afterSlot [t] = fun u => if [t].contains u then 0 else (stored t r amBase).inforce u := by
    funext u
    by_cases e : u = t
    · subst e; simp [Dev.afterSlot, w]
    · simp [Dev.afterSlot, e]
  simp only [Dev.setCompatible, Dev.afterReqs, a]
  simp only [List.mem_cons, Prod.mk.injEq, List.not_mem_nil, or_false] at h
  obtain ⟨rfl, rfl⟩ | ⟨rfl, rfl⟩ | ⟨rfl, rfl⟩ := h <;> decide +kernel

theorem witness_AmelaogAcceptance :
    (atCheck rightHdr amBase).amState = 1 ∧
    ((atCheck rightHdr (stored 6 0 amBase)).imageValid 6 0 = true ∧ (atCheck rightHdr (stored 6 0 amBase)).imageRevoked 6 0 = false ∧
      ((atCheck rightHdr (stored 6 0 amBase)).imageHdr 6 0 18, (atCheck rightHdr (stored 6 0 amBase)).imageHdr 6 0 19) = Hdr.build rightHdr) ∧
    (let d := (stored 6 0 amBase).wr (inforceFld 6) 0; d.inforce 6 ≠ 3 ∧ (Hdr.w rightHdr 3).toNat ≤ (d.imageVersion 6 (d.inforce 6)).toNat) ∧
    (amBase.hdrCompatible (hdrWords 6 8 1 zero4 zero4) = false ∧ amBase.hdrCompatible rightHdr = true) :=
  ⟨by decide +kernel, ⟨checked_valid, by decide +kernel⟩, by decide +kernel⟩

/-- Sets in slots: a stored image of type `t` waits. -/
theorem stored_clean (t : Nat) (n : Nat) (hn : n / 2048 < 501) :
    ∀ l, (stored t 0 amBase).cistLine n = some l → l.torn = false ∧ l.flip = 0#256 :=
  sound_lines _ _ _ (by simp [shippedLine, goldenType, hn]) (by
    intro y hy l hl
    simp only [stored, storedWith, withCist, List.mem_append, List.mem_map, List.mem_singleton] at hy
    obtain ⟨i, -, rfl⟩ | rfl := hy <;> cases hl <;> exact ⟨rfl, rfl⟩)

def setOf (n : Nat) (d : Dev) : Dev := d.wr SYS.AM_STATUS_SET n
/-- The activation of the Spindle image in slot 0, its group's slots `l` converted. -/
def converting (n : Nat) (l : List Nat) : Dev :=
  withAm (fun m => { m with order := [1], undo := [(1, l)], since := 5000, old := [(1, 3)], new := [(1, 0)] }) (amAt n (setOf 1 (stored 1 0 amBase)))
def lanesConverting (n : Nat) : Dev :=
  withAm (fun m => { m with order := [3], undo := [(3, [])], since := 5000, old := [(3, 3)], new := [(3, 0)] }) (amAt n (setOf 4 (stored 3 0 amBase)))
/-- All lanes but lane 7 converted. -/
def lastLane (n : Nat) : Dev :=
  (List.range 72).foldl (fun d m => if m = 7 then d else d.setLane m { Lane.blank with converted := true }) (lanesConverting n)

theorem witness_AmelaogActivation :
    ((stored 6 0 amBase).waitingSlot 6 = some 0 ∧ (stored 6 0 amBase).setCompatible [6] = true ∧ (stored 6 1 amBase).setCompatible [6] = false) ∧
    ((stored 6 0 amBase).amState = 0 ∧ (stored 6 0 amBase).waitingSlot 5 = none ∧ orderSet ((stored 6 0 amBase).typeDep [6]) 6 [6] ≠ none ∧ setKinds [6] = [] ∧
      (imageTypes.filter fun u => (0x20#6).getLsbD (u - 1)) = [6]) ∧
    (∀ n, n / 2048 < 501 → (stored 6 0 amBase).blockReadable (n / 2048) = true ∧
      ∀ l, (stored 6 0 amBase).cistLine n = some l → l.torn = false ∧ l.flip = 0#256) ∧
    ((stored 1 0 amBase).waitingSlot 1 = some 0 ∧ (stored 1 0 amBase).setCompatible [1] = true) ∧
    (let d := stored 1 0 amBase; orderSet (d.typeDep [1]) 6 [1] ≠ none ∧ setKinds [1] = [2] ∧
      d.rd (spareFld 2) ≠ 15 ∧ (d.wr (spareFld 2) 15).rd (spareFld 2) = 15 ∧ d.serving 2 ≠ []) ∧
    ((amAt 5 amBase).amState = 5 ∧ 0x4F4B2121#32 ≠ 0#32 ∧ (powerAt 7 amBase).amState = 0) ∧
    (let d := setOf 32 (withAm (fun m => { m with undo := [(6, [])], old := [(6, 3)], new := [(6, 0)] }) (amAt 5 (stored 6 0 amBase)));
      (∀ u ∈ d.am.undo, u.2 = [] ∧ u.1 = 6) ∧ d.amSet = [6] ∧ d.newSlot 6 < 2 ∧ d.oldSlot 6 = 3 ∧ (∃ x ∈ d.am.new, x.1 = 6) ∧
      d.cistLine (cistLineNo (regionEnd 6 (d.newSlot 6) - 32)) = none ∧ d.cistLine (cistLineNo (regionEnd 6 (d.newSlot 6) - 64)) = none ∧
      ticksFrom (d.reg SYS.AM_TRIAL_END_at).toNat d.tick32 < 2 ^ 31 ∧ ¬ ticksFrom ((d.setReg SYS.AM_TRIAL_END_at 5001#32).reg SYS.AM_TRIAL_END_at).toNat d.tick32 < 2 ^ 31) ∧
    (let d := converting 4 []; d.amState = 4 ∧ d.am.order.head? = some 1 ∧ d.am.undo = [(1, [])] ∧ 7 ∈ d.serving 2 ∧ (∀ y ∈ d.serving 2, ¬ 7 < y) ∧
      d.imageReadable 1 (d.newSlot 1) = true ∧ (d.setSlotState 7 3).slotState 7 = 3 ∧ (d.setSlotState 7 1).slotState 7 = 1 ∧ d.rd (spareFld 2) ≠ 15 ∧
      d.on CORES.PL_STATUS_BUSY = false ∧ d.running = true ∧ 5000 + max 1 (d.rd SYS.AM_CFG_QUIET) ≤ (clk (2 ^ 32) d).tick ∧
      (withCist (fun c => { c with incomplete := [cistBlock (regionAt 1 0)] }) d).imageReadable 1 0 = false) ∧
    (let d := converting 4 [1, 2, 3, 4, 5, 6, 7]; 0 ∈ d.serving 2 ∧ (∀ y ∈ d.serving 2, y ≠ 0 → y ∈ [1, 2, 3, 4, 5, 6, 7]) ∧ d.rd (assignFld 0) ≠ 15 ∧ d.newSlot 4 < 4) ∧
    (let d := converting 6 [6, 7]; d.amState = 6 ∧ d.am.undo = [(1, [6, 7])] ∧ 6 ∈ slotsOf 2 ∧ d.am.since + max 1 (d.rd SYS.AM_CFG_QUIET) ≤ (clk (2 ^ 32) d).tick) ∧
    (let d := lanesConverting 4; d.amState = 4 ∧ d.am.order.head? = some 3 ∧ (d.lane 7).converted = false ∧ d.laneTestable 7 = true ∧
      (d.lane 8).state ≠ .fenced ∧ (d.lane 8).converted = false) ∧
    (∀ m, m < 72 → m ≠ 7 → ((lastLane 6).lane m).converted = true) ∧ (lastLane 6).laneTestable 7 = true ∧ ((lastLane 6).lane 7).converted = false ∧
    (lastLane 4).am.order = [3] ∧ (lastLane 4).newSlot 3 < 4 ∧ (lastLane 6).am.undo = [(3, [])] ∧ (lastLane 6).oldSlot 3 < 4 :=
  ⟨⟨stored_waits 6 0 (by simp), stored_compatible 6 0 (by simp), stored_compatible 6 1 (by simp)⟩, by decide +kernel, fun n h => ⟨rfl, stored_clean 6 n h⟩,
    ⟨stored_waits 1 0 (by simp), stored_compatible 1 0 (by simp)⟩, by decide +kernel, by decide +kernel, by decide +kernel, by decide +kernel, by decide +kernel, by decide +kernel, by decide +kernel,
    by decide +kernel⟩

end Checks

end Sys2Proof.Tests
end

section
/-! PROOFS. Chapter 00: the state right after reset, and what a write over the bus does.  The facts about registers read through `regsBut`,
about the record of a CONTAINED fault, and about the level of VPA stand first: they serve every unit. -/

namespace Sys2Proof.Machine

/-! ### What reads alike in states whose registers agree -/

theorem Dev.rd_of_regsBut {d e : Dev} {l : List Nat} (h : regsBut d e l) (f : Fld) (hf : f.addr ∉ l) : e.rd f = d.rd f := by
  unfold Dev.rd; rw [h _ hf]

theorem Dev.on_of_regsBut {d e : Dev} {l : List Nat} (h : regsBut d e l) (f : Fld) (hf : f.addr ∉ l) : e.on f = d.on f := by
  unfold Dev.on; rw [Dev.rd_of_regsBut h f hf]

theorem Dev.on_wr_apart (d : Dev) (f g : Fld) (v : Nat) (h : f.lo + f.width ≤ 32) (hd : Fld.apart f g) : (d.wr f v).on g = d.on g := by
  unfold Dev.on; rw [Dev.rd_wr_apart d f g v h hd]

theorem Dev.on_wrB_same (d : Dev) (f : Fld) (b : Bool) (h : f.lo + f.width ≤ 32) (h1 : 1 ≤ f.width) : (d.wrB f b).on f = b := by
  unfold Dev.on; rw [Dev.rd_wrB_same d f b h h1]; cases b <;> rfl

theorem Dev.on_wrB_apart (d : Dev) (f g : Fld) (b : Bool) (h : f.lo + f.width ≤ 32) (hd : Fld.apart f g) : (d.wrB f b).on g = d.on g :=
  Dev.on_wr_apart d f g _ h hd

theorem Dev.on_wr_zero (d : Dev) (f : Fld) (h : f.lo + f.width ≤ 32) : (d.wr f 0).on f = false := by
  unfold Dev.on; rw [Dev.rd_wr_same d f 0 h, Nat.zero_mod]; rfl

theorem regsBut_setReg (d : Dev) (a : Nat) (w : Word) : regsBut d (d.setReg a w) [a] := fun b hb =>
  Dev.reg_setReg_other d a b w (by simpa using hb)

theorem regsBut_wr (d : Dev) (f : Fld) (v : Nat) : regsBut d (d.wr f v) [f.addr] := regsBut_setReg d _ _

/-- A register that takes the value it holds reads as before, and so do all others. -/
theorem Dev.reg_setReg_self (d : Dev) (a b : Nat) : (d.setReg a (d.reg a)).reg b = d.reg b := by
  by_cases h : b = a
  · rw [h, Dev.reg_setReg_same]
  · exact Dev.reg_setReg_other d a b _ h

/-! ### The record of a CONTAINED fault (R302, R333, R334) -/

theorem Dev.takeInjection_none (d : Dev) (f : FaultInfo) (h : d.sluice.injections = []) : d.takeInjection f = (f, d) := by
  simp [Dev.takeInjection, h]

/-- A fault that is not CORRECTED is coalesced with no record, and takes a free one. -/
theorem Dev.placeFault_free (d : Dev) (f : FaultInfo) (hc : faultClass f.code ≠ 1) (hl : d.sluice.held.length < 64) :
    d.placeFault f = { d with sluice := d.sluice.place (nextFree d.sluice.log 64 d.sluice.lastNo) (recOf d f) } := by
  have hn : ((newestOf d.sluice.held).filter fun e => coalesces f d.tick32 e.2) = none := by
    simp [Option.filter_eq_none_iff, coalesces, hc]
  simp [Dev.placeFault, hn, hl]

/-- In RUN a wake source only sets its PEND bit (R297). -/
theorem Dev.fireWake_run (d : Dev) (n : Nat) (h : d.power = 0) :
    d.fireWake n = d.wr WELL.PEND_SOURCES (d.rd WELL.PEND_SOURCES ||| 2 ^ n) := by
  simp [Dev.fireWake, h]

/-- In RUN Sluice's wake source touches its level and its PEND bit alone. -/
theorem Dev.sluiceWake_run (d : Dev) (h : d.power = 0) :
    regsBut d d.sluiceWake [WELL.PEND_at] ∧
      d.sluiceWake = { d with regs := d.sluiceWake.regs, well := { d.well with levels := d.sluiceWake.well.levels } } := by
  unfold Dev.sluiceWake
  split
  · exact ⟨fun _ _ => rfl, rfl⟩
  · have hset : d.setLevel 14 true = _ := Dev.fireWake_run { d with well := { d.well with levels := _ } } 14 h
    rw [hset]
    exact ⟨regsBut_wr { d with well := _ } WELL.PEND_SOURCES _, rfl⟩

/-- Counting a CONTAINED fault changes its counter and its event flag alone. -/
theorem Dev.countFault_contained (d : Dev) :
    regsBut d (d.countFault 2) [SLUICE.CONT_COUNT_at, SLUICE.EVENTS_at] ∧
      (d.countFault 2).rd SLUICE.CONT_COUNT_COUNT = min (d.rd SLUICE.CONT_COUNT_COUNT + 1) (2 ^ SLUICE.CONT_COUNT_COUNT.width - 1) ∧
      (d.countFault 2).on SLUICE.EVENTS_CONT = true ∧ d.countFault 2 = { d with regs := (d.countFault 2).regs } := by
  refine ⟨?_, ?_, ?_, rfl⟩
  · exact regsBut_trans (regsBut_wr d SLUICE.CONT_COUNT_COUNT _) (regsBut_wr _ SLUICE.EVENTS_CONT _)
  · exact (Dev.rd_setF_apart _ SLUICE.EVENTS_CONT SLUICE.CONT_COUNT_COUNT (by decide) (by unfold Fld.apart; decide)).trans
      (Dev.rd_inc_same d _ (by decide))
  · have h := Dev.rd_setF_same (d.inc SLUICE.CONT_COUNT_COUNT) SLUICE.EVENTS_CONT (by decide)
    exact beq_iff_eq.2 h

/-- A port's activity (R38) does not depend on Sluice's counters. -/
theorem Dev.portActive_of_sluice {d e : Dev} (h : regsBut d e [SLUICE.CONT_COUNT_at, SLUICE.EVENTS_at]) (p : Nat) (hp : p < 2) :
    e.portActive p = d.portActive p := by
  have hm : e.reg (REPAIR.MAP_at 10) = d.reg (REPAIR.MAP_at 10) := h _ (by decide)
  have hs : e.power = d.power := Dev.rd_of_regsBut h WELL.STATUS_STATE (by decide)
  have hr : e.on (portEnFld p) = d.on (portEnFld p) ∧ e.rd (RF.SYN_STATUS_STATE p) = d.rd (RF.SYN_STATUS_STATE p) := by
    obtain rfl | rfl : p = 0 ∨ p = 1 := by omega
    · exact ⟨Dev.on_of_regsBut h _ (by decide), Dev.rd_of_regsBut h _ (by decide)⟩
    · exact ⟨Dev.on_of_regsBut h _ (by decide), Dev.rd_of_regsBut h _ (by decide)⟩
  obtain ⟨he, hy⟩ := hr
  simp only [Dev.portActive, Dev.running, Dev.fencedPort, he, hs, hm, hy]

/-- The record of a fault is the same before and after the fault is counted. -/
theorem recOf_countFault (d : Dev) (f : FaultInfo) : recOf (d.countFault 2) f = recOf d f := by
  obtain ⟨hb, -, -, he⟩ := d.countFault_contained
  have hc : (d.countFault 2).clep = d.clep := by rw [he]
  have ha : (d.countFault 2).anyActive = d.anyActive := by
    simp only [Dev.anyActive, Dev.portActive_of_sluice hb 0 (by omega), Dev.portActive_of_sluice hb 1 (by omega)]
  simp only [recOf, Dev.frac, Dev.tick32, Dev.tick, hc, ha]

theorem Sluice.get_place (s : Sluice) (i : Nat) (r : LogRec) :
    Store.get none (s.place i r).log (s.place i r).lastNo = some { r with seq := s.seq + 1 } :=
  Store.get_put_same none s.log i (some { r with seq := s.seq + 1 })

/-- A CONTAINED fault raised in RUN, with no injection armed and a free record, is recorded, counted and signalled, and nothing else happens. -/
theorem Dev.faulted_fault (d : Dev) (f : FaultInfo) (h : d.canLog) (hc : faultClass f.code = 2) : d.faulted (d.fault f) f := by
  obtain ⟨hrun, hinj, hlen⟩ := h
  obtain ⟨hb, hcount, hev, hframe⟩ := d.countFault_contained
  have hsl : (d.countFault 2).sluice = d.sluice := by rw [hframe]
  have hplace := Dev.placeFault_free (d.countFault 2) f (by omega) (by rwa [hsl])
  rw [recOf_countFault, hsl] at hplace
  have hfault : d.fault f = ((d.countFault 2).placeFault f).sluiceWake := by
    simp only [Dev.fault, Dev.takeInjection_none d f hinj, hc]
  have hreg : ∀ a, ((d.countFault 2).placeFault f).reg a = (d.countFault 2).reg a := by rw [hplace]; exact fun _ => rfl
  have hpow : ((d.countFault 2).placeFault f).power = 0 := by
    rw [Dev.power, Dev.rd, hreg, hb _ (by decide)]; exact hrun
  obtain ⟨hw, hwframe⟩ := Dev.sluiceWake_run _ hpow
  have hw' : regsBut (d.countFault 2) (d.fault f) [WELL.PEND_at] := fun a ha => by rw [hfault, hw a ha, hreg]
  have hs : (d.fault f).sluice = d.sluice.place (nextFree d.sluice.log 64 d.sluice.lastNo) (recOf d f) := by
    rw [hfault, hwframe, hplace]
  refine ⟨?_, by rw [hs]; rfl, ?_, ?_, ?_, ?_⟩
  · rw [Dev.newest, hs]; exact Sluice.get_place _ _ _
  · rw [Dev.rd_of_regsBut hw' _ (by decide), hcount]
  · rw [Dev.on_of_regsBut hw' _ (by decide), hev]
  · exact regsBut_trans hb hw'
  · rw [hfault, hwframe, hplace, hframe]

/-- A discarded access (R5, R31) is recorded with its master, address and value. -/
theorem Dev.faulted_busFault (d : Dev) (m : Master) (a v : Nat) (h : d.canLog) :
    d.faulted (d.busFault m a v) ⟨0x06, 21, m.inst, a, v, 0, m.agent, m.agentNo, false⟩ :=
  d.faulted_fault (mkMasterFault m 0x06 21 m.inst a v) h (by simp only [mkMasterFault]; decide)

/-! ### The level of VPA (R123, R133, R136) -/

theorem Dev.supplyDip_idle (d : Dev) (p : Nat) (h : (d.rfp p).tx.now = none) : d.supplyDip p = d := by simp [Dev.supplyDip, h]

theorem Dev.vpaWarn_of_supply {d e : Dev} (h : e.reg WEIR.SUPPLY_at = d.reg WEIR.SUPPLY_at) : e.vpaWarn = d.vpaWarn := by
  simp only [Dev.vpaWarn, Dev.rd, WEIR.SUPPLY_VPA_WARN, h]

/-- From `d` to `e` the level `mv` of VPA has been compared with VPA_WARN on port `p`: VPA_LOW shows whether it is low, SUPPLY_OK is kept only
while it is not, and beside the port's level and the start of its 1 ms nothing has changed. -/
def Dev.vpaCompared (d e : Dev) (p mv : Nat) : Prop :=
  (e.on (vpaLowFld p) = decide (mv < d.vpaWarn) ∧ e.on (supplyOkFld p) = (d.on (supplyOkFld p) && !decide (mv < d.vpaWarn)) ∧ e.vpa p = mv) ∧
  (e.on (vpaLowFld (1 - p)) = d.on (vpaLowFld (1 - p)) ∧ e.on (supplyOkFld (1 - p)) = d.on (supplyOkFld (1 - p)) ∧ e.vpa (1 - p) = d.vpa (1 - p)) ∧
  regsBut d e [WEIR.STATUS_at] ∧
  e = { d with regs := e.regs, weir := { d.weir with vpa := e.weir.vpa, supplyFrom := e.weir.supplyFrom } }

/-- The four flags of WEIR.STATUS that show VPA lie apart. -/
theorem vpaFlags_apart (p : Nat) (h : p < 2) :
    Fld.apart (vpaLowFld p) (supplyOkFld p) ∧ Fld.apart (supplyOkFld p) (vpaLowFld p) ∧ Fld.apart (vpaLowFld p) (vpaLowFld (1 - p)) ∧
      Fld.apart (vpaLowFld p) (supplyOkFld (1 - p)) ∧ Fld.apart (supplyOkFld p) (vpaLowFld (1 - p)) ∧
      Fld.apart (supplyOkFld p) (supplyOkFld (1 - p)) := by
  obtain rfl | rfl : p = 0 ∨ p = 1 := by omega
  · unfold Fld.apart; decide
  · unfold Fld.apart; decide

theorem vpaFlags_fit (p : Nat) :
    ((vpaLowFld p).addr = WEIR.STATUS_at ∧ (vpaLowFld p).lo + (vpaLowFld p).width ≤ 32 ∧ 1 ≤ (vpaLowFld p).width) ∧
      ((supplyOkFld p).addr = WEIR.STATUS_at ∧ (supplyOkFld p).lo + (supplyOkFld p).width ≤ 32 ∧ (supplyOkFld p).width = 1) := by
  unfold vpaLowFld supplyOkFld
  split <;> decide

/-- The level stands and VPA_LOW shows it; every other flag and level is as it was. -/
theorem Dev.vpaStands_spec (d : Dev) (p mv : Nat) :
    (d.vpaStands p mv).on (vpaLowFld p) = decide (mv < d.vpaWarn) ∧ (∀ g, Fld.apart (vpaLowFld p) g → (d.vpaStands p mv).on g = d.on g) ∧
      (d.vpaStands p mv).vpa p = mv ∧ (∀ q, q ≠ p → (d.vpaStands p mv).vpa q = d.vpa q) ∧
      regsBut d (d.vpaStands p mv) [WEIR.STATUS_at] ∧
      d.vpaStands p mv = { d with regs := (d.vpaStands p mv).regs, weir := { d.weir with vpa := (d.vpaStands p mv).weir.vpa } } := by
  obtain ⟨⟨haddr, hfit, hwidth⟩, -⟩ := vpaFlags_fit p
  refine ⟨Dev.on_wrB_same _ _ _ hfit hwidth, fun g hg => Dev.on_wrB_apart _ _ g _ hfit hg, ?_, fun q hq => ?_, ?_, rfl⟩
  · exact Store.get_put_same 3600 d.weir.vpa p mv
  · exact Store.get_put_other 3600 3600 d.weir.vpa p q mv hq
  · rw [← haddr]; exact regsBut_wr { d with weir := _ } (vpaLowFld p) _

/-- On a port that transmits nothing, a level of VPA is compared with VPA_WARN. -/
theorem Dev.vpaLevel_compared (d : Dev) (p mv : Nat) (hp : p < 2) (h : (d.rfp p).tx.now = none) : d.vpaCompared (d.vpaLevel p mv) p mv := by
  obtain ⟨hlo, hon, hv, hvo, hb, hf⟩ := d.vpaStands_spec p mv
  obtain ⟨-, haddr, hfit, -⟩ := vpaFlags_fit p
  obtain ⟨hlk, hkl, hll, hlok, hkol, hkk⟩ := vpaFlags_apart p hp
  have hwarn : (d.vpaStands p mv).vpaWarn = d.vpaWarn := Dev.vpaWarn_of_supply (hb _ (by decide))
  have hq : 1 - p ≠ p := by omega
  have heq : d.vpaLevel p mv =
      if mv < d.vpaWarn then ((d.vpaStands p mv).supplyRestartPort p).wr (supplyOkFld p) 0 else d.vpaStands p mv := by
    simp only [Dev.vpaLevel, hwarn]
    rw [Dev.supplyDip_idle _ p]
    rw [hf]; exact h
  rw [heq]
  split
  · next hlow =>
    have hother : ∀ g, Fld.apart (supplyOkFld p) g →
        (((d.vpaStands p mv).supplyRestartPort p).wr (supplyOkFld p) 0).on g = (d.vpaStands p mv).on g :=
      fun g hg => Dev.on_wr_apart _ _ g _ hfit hg
    refine ⟨⟨?_, ?_, hv⟩, ⟨?_, ?_, hvo _ hq⟩, ?_, ?_⟩
    · rw [hother _ hkl, hlo]
    · rw [Dev.on_wr_zero _ _ hfit]; simp [hlow]
    · rw [hother _ hkol, hon _ hll]
    · rw [hother _ hkk, hon _ hlok]
    · intro a ha
      rw [Dev.reg_wr_other _ _ _ _ (by rw [haddr]; simpa using ha)]
      exact hb a ha
    · rw [hf]; rfl
  · next hlow =>
    refine ⟨⟨hlo, ?_, hv⟩, ⟨hon _ hll, hon _ hlok, hvo _ hq⟩, hb, ?_⟩
    · rw [hon _ hlk]; simp [hlow]
    · rw [hf]

/-- On two ports that transmit nothing, the levels that stand are compared with VPA_WARN. -/
theorem Dev.vpaLevels_compared (d : Dev) (h : ∀ p, p < 2 → (d.rfp p).tx.now = none) :
    let e := (d.vpaLevel 0 (d.vpa 0)).vpaLevel 1 (d.vpa 1)
    (∀ p, p < 2 → e.on (vpaLowFld p) = decide (d.vpa p < d.vpaWarn) ∧
      e.on (supplyOkFld p) = (d.on (supplyOkFld p) && !decide (d.vpa p < d.vpaWarn)) ∧ e.vpa p = d.vpa p) ∧
    regsBut d e [WEIR.STATUS_at] ∧
    e = { d with regs := e.regs, weir := { d.weir with vpa := e.weir.vpa, supplyFrom := e.weir.supplyFrom } } := by
  intro e
  obtain ⟨⟨hlow, hok, hv⟩, ⟨hlow', hok', hv'⟩, hb, hf⟩ := d.vpaLevel_compared 0 (d.vpa 0) (by omega) (h 0 (by omega))
  have hidle : ((d.vpaLevel 0 (d.vpa 0)).rfp 1).tx.now = none := by rw [hf]; exact h 1 (by omega)
  obtain ⟨⟨klow, kok, kv⟩, ⟨klow', kok', kv'⟩, kb, kf⟩ := Dev.vpaLevel_compared _ 1 (d.vpa 1) (by omega) hidle
  rw [Dev.vpaWarn_of_supply (hb _ (by decide))] at klow kok
  refine ⟨fun p hp => ?_, regsBut_mono (regsBut_trans hb kb) (by simp), ?_⟩
  · obtain rfl | rfl : p = 0 ∨ p = 1 := by omega
    · exact ⟨klow'.trans hlow, kok'.trans hok, kv'.trans hv⟩
    · exact ⟨klow, by rw [kok, hok'], kv⟩
  · simp only [e]; rw [kf, hf]

/-! ### Writes of registers by their access codes (R6, R8) -/

theorem Dev.setReg_setReg (d : Dev) (a : Nat) (v w : Word) : (d.setReg a v).setReg a w = d.setReg a w := by simp [Dev.setReg]

/-- A register without RW and W1C fields keeps its value. -/
theorem Dev.plainWrite_kept (d : Dev) (a : Nat) (v : Word) (hrw : accMask a (· == .rw) = 0#32) (hw : accMask a (· == .w1c) = 0#32) :
    d.plainWrite a v = d.setReg a (d.reg a) := by
  simp only [Dev.plainWrite, hrw, hw, BitVec.and_zero, BitVec.or_zero, BitVec.not_zero, BitVec.and_allOnes]

/-- The RW fields of a register without W1C fields take the value. -/
theorem Dev.plainWrite_rw (d : Dev) (a : Nat) (v : Word) (hw : accMask a (· == .w1c) = 0#32) :
    d.plainWrite a v = d.setReg a ((d.reg a &&& ~~~accMask a (· == .rw)) ||| (v &&& accMask a (· == .rw))) := by
  simp only [Dev.plainWrite, hw, BitVec.and_zero, BitVec.not_zero, BitVec.and_allOnes]

/-- The W1C bits of a register without RW fields are cleared where the value has a 1. -/
theorem Dev.plainWrite_w1c (d : Dev) (a : Nat) (v : Word) (hrw : accMask a (· == .rw) = 0#32) :
    d.plainWrite a v = d.setReg a (d.reg a &&& ~~~(v &&& accMask a (· == .w1c))) := by
  simp only [Dev.plainWrite, hrw, BitVec.and_zero, BitVec.or_zero, BitVec.not_zero, BitVec.and_allOnes]

theorem Dev.blockOpen_of_mastersUp (d : Dev) (u : Nat) (hu : blockHeld u = false) (h : d.mastersUp = true) : d.blockOpen u = true := by
  simp [Dev.blockOpen, hu, h]

theorem Dev.regWrite_unlisted (c : Cells) (d : Dev) (m : Master) (a : Nat) (v : Word) (h : regFields a = []) : d.regWrite c m a v = d := by
  simp [Dev.regWrite, h]

theorem Dev.regWrite_closed (c : Cells) (d : Dev) (m : Master) (a : Nat) (v : Word) (h : d.blockOpen (unitOf a) = false) :
    d.regWrite c m a v = d := by
  simp [Dev.regWrite, h]

section OpenBlock
variable (c : Cells) (d : Dev) (m : Master) (a : Nat) (v : Word) (hf : regFields a ≠ [])
include hf

theorem Dev.regWrite_sys (hu : unitOf a = 0) (ho : d.blockOpen 0 = true) : d.regWrite c m a v = d.writeSys a (a % 0x10000) v := by
  simp [Dev.regWrite, hf, hu, ho]

theorem Dev.regWrite_well (hu : unitOf a = 1) (ho : d.blockOpen 1 = true) : d.regWrite c m a v = d.writeWell a (a % 0x10000) v := by
  simp [Dev.regWrite, hf, hu, ho]

theorem Dev.regWrite_weir (hu : unitOf a = 5) (ho : d.blockOpen 5 = true) : d.regWrite c m a v = d.writeWeir c a (a % 0x10000) v := by
  simp [Dev.regWrite, hf, hu, ho]

theorem Dev.regWrite_flume (hu : unitOf a = 12) (ho : d.blockOpen 12 = true) :
    d.regWrite c m a v = d.writeFlume a (a % 0x10000) v := by
  simp [Dev.regWrite, hf, hu, ho]

end OpenBlock

section WeirLimit
variable (c : Cells) (d : Dev) (a off : Nat) (v : Word) (hrw : accMask a (· == .rw) = 0#32) (hw : accMask a (· == .w1c) = 0#32)
include hrw hw

/-- A limit register of the Weir whose lock is set keeps its value (R127). -/
theorem Dev.writeWeir_locked (hl : c.weirLocked off = true) : Dev.writeWeir c d a off v = d.setReg a (d.reg a) := by
  simp [Dev.writeWeir, hl, Dev.plainWrite_kept d a v hrw hw]

/-- VPA_WARN, not locked, takes the value, and the levels of VPA are compared with it. -/
theorem Dev.writeWeir_supply (hl : c.weirLocked 0xC = false) (hm : accMask a (· == .rwl) ≠ 0#32) :
    let d' := d.setReg a ((d.reg a &&& ~~~accMask a (· == .rwl)) ||| (v &&& accMask a (· == .rwl)))
    Dev.writeWeir c d a 0xC v = (d'.vpaLevel 0 (d'.vpa 0)).vpaLevel 1 (d'.vpa 1) := by
  simp [Dev.writeWeir, hl, hm, Dev.plainWrite_kept d a v hrw hw, Dev.setReg_setReg]

/-- A field of a record, not locked, takes the value. -/
theorem Dev.writeWeir_record (hl : c.weirLocked off = false) (hm : accMask a (· == .rwl) ≠ 0#32) (ho : 0x100 ≤ off) :
    Dev.writeWeir c d a off v = d.setReg a ((d.reg a &&& ~~~accMask a (· == .rwl)) ||| (v &&& accMask a (· == .rwl))) := by
  have h8 : off ≠ 8 := by omega
  have hC : off ≠ 0xC := by omega
  simp [Dev.writeWeir, hl, hm, h8, hC, Dev.plainWrite_kept d a v hrw hw, Dev.setReg_setReg]

end WeirLimit

/-- A record's low-frequency register is one RWL field of 30 bits in the Weir's block (R136). -/
theorem recordLo_listed : ∀ b, b < 8 → isRegAddr (WEIR.LO_at b) = true ∧ unitOf (WEIR.LO_at b) = 5 ∧ WEIR.LO_at b % 4 = 0 ∧
    regFields (WEIR.LO_at b) = [⟨0, 30, .rwl, 0, 0x1c0⟩] := by decide

/-- The lock that governs the first register of record `b`. -/
theorem weirLocked_record (c : Cells) (b : Nat) : c.weirLocked (0x100 + 0x20 * b) = c.bandLocked b := by
  have h8 : 0x100 + 0x20 * b ≠ 8 := by omega
  have hC : 0x100 + 0x20 * b ≠ 0xC := by omega
  simp [Cells.weirLocked, h8, hC]

/-- What VPA_WARN is (R123) after a write of its register. -/
theorem Dev.vpaWarn_setReg (d : Dev) (v : Word) :
    (d.setReg WEIR.SUPPLY_at v).vpaWarn = 2000 + 10 * max 80 (min 200 (v.toNat % 256)) := by
  simp [Dev.vpaWarn, Dev.rd, WEIR.SUPPLY_VPA_WARN, bitsOf, clampN]

/-- A word whose low octet has been replaced has the low octet of the other. -/
theorem low_octet_merged (x w : Word) : ((x &&& ~~~0xFF#32) ||| (w &&& 0xFF#32)).toNat % 256 = w.toNat % 256 := by
  have hlow : ∀ y : Word, y.toNat % 256 = (y.setWidth 8).toNat := fun y => (BitVec.toNat_setWidth 8 y).symm
  have h : ((x &&& ~~~0xFF#32) ||| (w &&& 0xFF#32)).setWidth 8 = (x.setWidth 8 &&& 0#8) ||| (w.setWidth 8 &&& BitVec.allOnes 8) := by
    rw [BitVec.setWidth_or, BitVec.setWidth_and, BitVec.setWidth_and]; rfl
  rw [hlow, hlow, h, BitVec.and_zero, BitVec.and_allOnes, BitVec.zero_or]

theorem Dev.busWrite_unmapped (c : Cells) (d : Dev) (m : Master) (a : Nat) (w : TWord)
    (h : (0x600000 ≤ a ∧ a < 0x08000000) ∨ (0x20130000 ≤ a ∧ a < 0x40000000)) : d.busWrite c m a w = d.busFault m a w.data.toNat := by
  have hs : ¬ a < 0x600000 := by omega
  have hr : ¬ (0x20000000 ≤ a ∧ a ≤ 0x2012FFFF) := by omega
  have hc : ¬ (0x08000000 ≤ a ∧ a ≤ 0x09FFFFFF) := by omega
  have ho : ¬ (0x0A000000 ≤ a ∧ a ≤ 0x0A00FFFF) := by omega
  have hm : ¬ (0x0C000000 ≤ a ∧ a ≤ 0x0CFFFFFF) := by omega
  have ht : ¬ (0x40000000 ≤ a ∧ a ≤ 0x405FFFFF) := by omega
  simp only [Dev.busWrite, isSram, isRegAddr, isCist, isOpt, isMap, isAlias, ← Bool.decide_and, hs, hr, hc, ho, hm, ht, decide_false,
    Bool.false_eq_true, if_false]

/-! ### The command REGISTER_WRITE (R5, R30, R31) -/

theorem exec_registerWrite (s : State) (m : Master) (addr : BitVec 32) (whole : Bool) (w : Word) :
    exec (.registerWrite m addr whole w) s = onDevC s fun c d =>
      if !d.mastersUp then d
      else if whole && addr.toNat % 4 == 0 then d.busWrite c m addr.toNat ⟨w, .raw⟩ else d.busFault m addr.toNat w.toNat := rfl

section RegisterWrite
variable {s : State} {m : Master} {addr : BitVec 32} {w : Word} {P : Dev → Prop} (hm : s.dev.mastersUp = true)
include hm

/-- One aligned word reaches the bus. -/
theorem gives_registerWrite (h4 : addr.toNat % 4 = 0) (hp : P (s.dev.busWrite s.cells m addr.toNat ⟨w, .raw⟩)) :
    Gives (.registerWrite m addr true w) s P :=
  gives_onDevC (exec_registerWrite s m addr true w) (by simpa [hm, h4] using hp)

/-- An access that is not one aligned word is discarded. -/
theorem gives_registerWrite_unaligned {whole : Bool} (h : whole = false ∨ addr.toNat % 4 ≠ 0)
    (hp : P (s.dev.busFault m addr.toNat w.toNat)) : Gives (.registerWrite m addr whole w) s P :=
  gives_onDevC (exec_registerWrite s m addr whole w) (by rcases h with h | h <;> simpa [hm, h] using hp)

/-- A word for a register reaches it. -/
theorem gives_registerWrite_reg (a : Nat) (ha : addr.toNat = a) (h4 : a % 4 = 0) (hr : isRegAddr a = true)
    (hp : P (s.dev.regWrite s.cells m a w)) : Gives (.registerWrite m addr true w) s P := by
  subst ha
  have hs : isSram addr.toNat = false := by
    simp only [isRegAddr, Bool.and_eq_true, decide_eq_true_eq] at hr
    simp only [isSram, decide_eq_false_iff_not]
    omega
  exact gives_registerWrite hm h4 (by simpa [Dev.busWrite, hs, hr] using hp)

/-- A word stored to SRAM, its bank in service, replaces data, tag and code of that word (R269). -/
theorem registerWrite_sram (h4 : addr.toNat % 4 = 0) (hs : addr.toNat < 0x600000) (hb : s.dev.bankDead addr.toNat = false) :
    Gives (.registerWrite m addr true w) s fun e =>
      e.word addr.toNat = ⟨w, .raw, 0#43⟩ ∧ (∀ x, x / 4 ≠ addr.toNat / 4 → e.word x = s.dev.word x) ∧ e = { s.dev with sram := e.sram } := by
  refine gives_registerWrite hm h4 ?_
  have he : s.dev.busWrite s.cells m addr.toNat ⟨w, .raw⟩ = s.dev.putWord addr.toNat ⟨w, .raw⟩ := by
    simp [Dev.busWrite, isSram, hs, Dev.sramWrite, hb]
  rw [he]
  exact ⟨Dev.word_putWord_same _ _ _, fun x hx => Dev.word_putWord_other _ _ x _ hx, rfl⟩

/-- A register of RW fields alone (WELL.WAKE_EN) takes the value. -/
theorem registerWrite_wakeEn (ha : addr.toNat = WELL.WAKE_EN_at) :
    Gives (.registerWrite m addr true w) s fun e =>
      e = s.dev.setReg addr.toNat ((s.dev.reg addr.toNat &&& 0xFFFF0000#32) ||| (w &&& 0xFFFF#32)) := by
  refine gives_registerWrite_reg hm _ ha (by decide) (by decide) ?_
  have hrw : accMask WELL.WAKE_EN_at (· == .rw) = 0xFFFF#32 := by decide
  rw [Dev.regWrite_well _ _ _ _ _ (by decide) (by decide) (Dev.blockOpen_of_mastersUp _ _ (by decide) hm), ha]
  exact (Dev.plainWrite_rw _ _ _ (by decide)).trans (by rw [hrw]; rfl)

/-- A register of W1C fields alone (FLUME.EVENTS) loses the bits written 1. -/
theorem registerWrite_flumeEvents (ha : addr.toNat = FLUME.EVENTS_at) (ho : s.dev.blockOpen 12 = true) :
    Gives (.registerWrite m addr true w) s fun e => e = s.dev.setReg addr.toNat (s.dev.reg addr.toNat &&& ~~~(w &&& 0x1F#32)) := by
  refine gives_registerWrite_reg hm _ ha (by decide) (by decide) ?_
  have hw1c : accMask FLUME.EVENTS_at (· == .w1c) = 0x1F#32 := by decide
  rw [Dev.regWrite_flume _ _ _ _ _ (by decide) (by decide) ho, ha]
  exact (Dev.plainWrite_w1c _ _ _ (by decide)).trans (by rw [hw1c])

/-- A register of RO fields alone (SYS.ID) keeps its value, whether its block is open or not. -/
theorem registerWrite_sysId (ha : addr.toNat = SYS.ID_at) :
    Gives (.registerWrite m addr true w) s fun e => (∀ x, e.reg x = s.dev.reg x) ∧ e = { s.dev with regs := e.regs } := by
  refine gives_registerWrite_reg hm _ ha (by decide) (by decide) ?_
  cases ho : s.dev.blockOpen 0 with
  | false => rw [Dev.regWrite_closed _ _ _ _ _ ho]; exact ⟨fun _ => rfl, rfl⟩
  | true =>
    have he : s.dev.writeSys SYS.ID_at (SYS.ID_at % 0x10000) w = s.dev.setReg SYS.ID_at (s.dev.reg SYS.ID_at) :=
      Dev.plainWrite_kept _ _ _ (by decide) (by decide)
    rw [Dev.regWrite_sys _ _ _ _ _ (by decide) (by decide) ho, he]
    exact ⟨fun x => Dev.reg_setReg_self _ _ x, rfl⟩

/-- A register offset that no table lists ignores the write (R6). -/
theorem registerWrite_unlisted (h4 : addr.toNat % 4 = 0) (hr : isRegAddr addr.toNat = true) (hf : regFields addr.toNat = []) :
    Gives (.registerWrite m addr true w) s fun e => e = s.dev :=
  gives_registerWrite_reg hm _ rfl h4 hr (Dev.regWrite_unlisted _ _ _ _ _ hf)

/-- An access that is not one aligned word, or to an address between the mapped ranges, is discarded with its fault (R5, R31). -/
theorem registerWrite_discarded {whole : Bool} (hl : s.dev.canLog)
    (h : whole = false ∨ addr.toNat % 4 ≠ 0 ∨ (0x600000 ≤ addr.toNat ∧ addr.toNat < 0x08000000) ∨
      (0x20130000 ≤ addr.toNat ∧ addr.toNat < 0x40000000)) :
    Gives (.registerWrite m addr whole w) s fun e =>
      s.dev.faulted e ⟨0x06, 21, m.inst, addr.toNat, w.toNat, 0, m.agent, m.agentNo, false⟩ := by
  have hf := s.dev.faulted_busFault m addr.toNat w.toNat hl
  by_cases hu : whole = false ∨ addr.toNat % 4 ≠ 0
  · exact gives_registerWrite_unaligned hm hu hf
  · obtain ⟨hwh, h4⟩ : whole = true ∧ addr.toNat % 4 = 0 := by simpa using hu
    subst hwh
    refine gives_registerWrite hm h4 ?_
    rwa [Dev.busWrite_unmapped _ _ _ _ _ (by simpa [h4] using h)]

/-- While L_SUPPLY is set, VPA_WARN keeps its value (R125, R127). -/
theorem registerWrite_supply_locked (ho : s.dev.blockOpen 5 = true) (hl : s.cells.locked 9 = true) :
    Gives (.registerWrite m (BitVec.ofNat 32 WEIR.SUPPLY_at) true w) s fun e =>
      (∀ x, e.reg x = s.dev.reg x) ∧ e = { s.dev with regs := e.regs } := by
  refine gives_registerWrite_reg hm WEIR.SUPPLY_at (by decide) (by decide) (by decide) ?_
  rw [Dev.regWrite_weir _ _ _ _ _ (by decide) (by decide) ho,
    Dev.writeWeir_locked _ _ _ _ _ (by decide) (by decide) (show s.cells.weirLocked (WEIR.SUPPLY_at % 0x10000) = true from hl)]
  exact ⟨fun x => Dev.reg_setReg_self _ _ x, rfl⟩

/-- While L_SUPPLY is clear and no port transmits, VPA_WARN takes the value and both levels of VPA are compared with it. -/
theorem registerWrite_supply_open (ho : s.dev.blockOpen 5 = true) (hl : s.cells.locked 9 = false)
    (hi : ∀ p, p < 2 → (s.dev.rfp p).tx.now = none) :
    let d := s.dev
    let low (p : Nat) : Bool := decide (d.vpa p < 2000 + 10 * max 80 (min 200 (w.toNat % 256)))
    Gives (.registerWrite m (BitVec.ofNat 32 WEIR.SUPPLY_at) true w) s fun e =>
      e.reg WEIR.SUPPLY_at = (d.reg WEIR.SUPPLY_at &&& ~~~0xFF#32) ||| (w &&& 0xFF#32) ∧
      (∀ p, p < 2 → e.on (vpaLowFld p) = low p ∧ e.on (supplyOkFld p) = (d.on (supplyOkFld p) && !low p) ∧ e.vpa p = d.vpa p) ∧
      regsBut d e [WEIR.SUPPLY_at, WEIR.STATUS_at] ∧
      e = { d with regs := e.regs, weir := { d.weir with vpa := e.weir.vpa, supplyFrom := e.weir.supplyFrom } } := by
  intro d low
  refine gives_registerWrite_reg hm WEIR.SUPPLY_at (by decide) (by decide) (by decide) ?_
  have hmask : accMask WEIR.SUPPLY_at (· == .rwl) = 0xFF#32 := by decide
  rw [Dev.regWrite_weir _ _ _ _ _ (by decide) (by decide) ho]
  have hwr := Dev.writeWeir_supply s.cells d WEIR.SUPPLY_at w (by decide) (by decide) hl (by decide)
  rw [hmask] at hwr
  rw [show WEIR.SUPPLY_at % 0x10000 = 0xC from rfl, hwr]
  generalize hv : (d.reg WEIR.SUPPLY_at &&& ~~~0xFF#32) ||| (w &&& 0xFF#32) = v
  obtain ⟨hp, hb, hf⟩ := (d.setReg WEIR.SUPPLY_at v).vpaLevels_compared hi
  have hwarn : (d.setReg WEIR.SUPPLY_at v).vpaWarn = 2000 + 10 * max 80 (min 200 (w.toNat % 256)) := by
    rw [Dev.vpaWarn_setReg, ← hv, low_octet_merged]
  have hok : ∀ p, (d.setReg WEIR.SUPPLY_at v).on (supplyOkFld p) = d.on (supplyOkFld p) := fun p =>
    Dev.on_of_regsBut (regsBut_setReg d WEIR.SUPPLY_at v) _ (by rw [(vpaFlags_fit p).2.1]; decide)
  rw [hwarn] at hp
  refine ⟨?_, fun p h2 => ?_, regsBut_trans (regsBut_setReg d _ v) hb, hf⟩
  · rw [hb _ (by decide), Dev.reg_setReg_same]
  · obtain ⟨hlow, hsup, hvpa⟩ := hp p h2
    rw [hok] at hsup
    exact ⟨hlow, hsup, hvpa⟩

/-- A record's low frequency takes the value while neither the record's lock nor L_TABLE is set. -/
theorem registerWrite_recordLo (ho : s.dev.blockOpen 5 = true) (b : Nat) (h8 : b < 8) :
    let d := s.dev
    Gives (.registerWrite m (BitVec.ofNat 32 (WEIR.LO_at b)) true w) s fun e =>
      e.reg (WEIR.LO_at b) = (if s.cells.bandLocked b then d.reg (WEIR.LO_at b) else
        (d.reg (WEIR.LO_at b) &&& ~~~0x3FFFFFFF#32) ||| (w &&& 0x3FFFFFFF#32)) ∧
      regsBut d e [WEIR.LO_at b] ∧ e = { d with regs := e.regs } := by
  intro d
  have hoff : WEIR.LO_at b % 0x10000 = 0x100 + 0x20 * b := by unfold WEIR.LO_at; omega
  obtain ⟨hreg, hunit, h4, hfld⟩ := recordLo_listed b h8
  have hmask : accMask (WEIR.LO_at b) (· == .rwl) = 0x3FFFFFFF#32 := by simp [accMask, hfld]
  have hrw : accMask (WEIR.LO_at b) (· == .rw) = 0#32 := by simp [accMask, hfld]
  have hw1c : accMask (WEIR.LO_at b) (· == .w1c) = 0#32 := by simp [accMask, hfld]
  have hlock : s.cells.weirLocked (0x100 + 0x20 * b) = s.cells.bandLocked b := weirLocked_record s.cells b
  refine gives_registerWrite_reg hm (WEIR.LO_at b) (by simp [WEIR.LO_at]; omega) h4 hreg ?_
  rw [Dev.regWrite_weir _ _ _ _ _ (by simp [hfld]) hunit ho, hoff]
  cases hl : s.cells.bandLocked b with
  | true =>
    rw [Dev.writeWeir_locked _ _ _ _ _ hrw hw1c (hlock.trans hl)]
    exact ⟨Dev.reg_setReg_same _ _ _, regsBut_setReg _ _ _, rfl⟩
  | false =>
    rw [Dev.writeWeir_record _ _ _ _ _ hrw hw1c (hlock.trans hl) (by rw [hmask]; decide) (by omega), hmask]
    exact ⟨Dev.reg_setReg_same _ _ _, regsBut_setReg _ _ _, rfl⟩

end RegisterWrite

/-! ### The command TAG_ALIAS_WRITE (R32, R269) -/

theorem exec_tagAliasWrite (s : State) (m : Master) (offset : BitVec 32) (w : Word) :
    exec (.tagAliasWrite m offset w) s = onDev s fun d =>
      if !d.mastersUp then d
      else if offset.toNat % 4 == 0 && isSram offset.toNat then d.tagWrite m offset.toNat w
      else d.busFault m ((0x40000000 + offset.toNat) % 2 ^ 32) w.toNat := rfl

/-- On a word without an error a tag is set over the data as they stand. -/
theorem Dev.setTag_clean (d : Dev) (a : Nat) (t : Tag) (who : Nat × Nat) (h : d.cleanWord a) :
    d.setTag a t who = d.putWord a ⟨(d.word a).data, t⟩ := by
  obtain ⟨-, hb, hf⟩ := h
  simp [Dev.setTag, Dev.sramReadBy, hb, hf, Dev.sramWrite]

section TagAliasWrite
variable {s : State} {m : Master} {offset : BitVec 32} {w : Word} (hm : s.dev.mastersUp = true)
include hm

/-- A tag code written to a word without an error replaces its tag. -/
theorem tagAliasWrite_set (h4 : offset.toNat % 4 = 0) (hc : s.dev.cleanWord offset.toNat) (hw : w.toNat < 16) :
    Gives (.tagAliasWrite m offset w) s fun e =>
      e.word offset.toNat = ⟨(s.dev.word offset.toNat).data, Tag.ofCode w.toNat, 0#43⟩ ∧
      (∀ x, x / 4 ≠ offset.toNat / 4 → e.word x = s.dev.word x) ∧ e = { s.dev with sram := e.sram } := by
  refine gives_onDev (exec_tagAliasWrite s m offset w) ?_
  have hs : isSram offset.toNat = true := decide_eq_true hc.1
  simp only [hm, h4, hs, hw, Dev.tagWrite, Dev.setTag_clean _ _ _ _ hc, Bool.not_true, Bool.false_eq_true, beq_self_eq_true, Bool.and_self, if_true,
    if_false]
  exact ⟨Dev.word_putWord_same _ _ _, fun x hx => Dev.word_putWord_other _ _ x _ hx, rfl⟩

/-- Outside SRAM, misaligned, or with a value that is no tag code, the write is discarded with its fault. -/
theorem tagAliasWrite_discarded (hl : s.dev.canLog) (h : offset.toNat % 4 ≠ 0 ∨ 0x600000 ≤ offset.toNat ∨ 16 ≤ w.toNat) :
    Gives (.tagAliasWrite m offset w) s fun e =>
      s.dev.faulted e ⟨0x06, 21, m.inst, (0x40000000 + offset.toNat) % 2 ^ 32, w.toNat, 0, m.agent, m.agentNo, false⟩ := by
  refine gives_onDev (exec_tagAliasWrite s m offset w) ?_
  have hf := s.dev.faulted_busFault m ((0x40000000 + offset.toNat) % 2 ^ 32) w.toNat hl
  simp only [hm, Bool.not_true, Bool.false_eq_true, if_false]
  split
  · next hin =>
    obtain ⟨h4, hs⟩ : offset.toNat % 4 = 0 ∧ offset.toNat < 0x600000 := by simpa [isSram] using hin
    rw [Nat.mod_eq_of_lt (by omega)] at hf ⊢
    rwa [Dev.tagWrite, if_neg (by omega)]
  · exact hf

end TagAliasWrite

end Sys2Proof.Machine

open Sys2Proof Sys2Proof.Machine

/-- Settles O5: each clause is one of the lemmas above, on a store to SRAM, on a register by its access codes, on a discarded access, on
a limit register of the Weir, or on a tag written by itself. -/
theorem busWrites : Obligations.BusWrites := by
  unfold Obligations.BusWrites
  refine ⟨fun s m addr whole w hm => ?_, fun s m w hm ho => ?_, fun s m offset w hm => ?_⟩
  · exact ⟨registerWrite_sram hm, registerWrite_wakeEn hm, registerWrite_flumeEvents hm, registerWrite_sysId hm, registerWrite_unlisted hm,
      registerWrite_discarded hm⟩
  · exact ⟨registerWrite_supply_locked hm ho, registerWrite_supply_open hm ho, registerWrite_recordLo hm ho⟩
  · exact ⟨tagAliasWrite_set hm, tagAliasWrite_discarded hm⟩

/-! ### The state right after reset (R9) -/

/-- At reset every register reads the value that its table's Reset column gives. -/
theorem reset_reg (a : Nat) : State.reset.dev.reg a = resetWord a := rfl

/-- The 64 Flumes of R177 are disabled at reset. -/
theorem reset_flumeOn (n : Nat) (h : n < 64) : State.reset.dev.flumeOn n = false := by
  have hrow : ∀ n, n < 64 → bitsOf (resetWord (FLUME.CFG_at n)) 31 1 = 0 := by decide +kernel
  simp [Dev.flumeOn, Dev.on, Dev.rd, FLUME.CFG_EN, reset_reg, hrow n h]

/-- What O4 says of the reset state holds with its Flumes limited to the 64 that the part has. -/
theorem resetState_of_flume_lt :
    State.reset.pending = [] ∧ State.reset.cells = ⟨0#11, false⟩ ∧
    (∀ a, State.reset.dev.reg a = resetWord a) ∧ (∀ a, State.reset.dev.word a = ⟨0#32, .void, 0#43⟩) ∧
    (∀ k, State.reset.dev.slot k = Slot.reset) ∧
    (∀ n, n < 64 → State.reset.dev.flume n = Flume.empty ∧ State.reset.dev.flumeOn n = false) ∧
    State.reset.dev.sramWf = true ∧ State.reset.dev.regsWf = true :=
  ⟨rfl, rfl, reset_reg, fun _ => rfl, fun _ => rfl, fun n h => ⟨rfl, reset_flumeOn n h⟩, reset_sramWf, rfl⟩

/-- `FLUME.CFG_at` goes on past Flume 63 into the blocks behind: number 0x7FC9 names the NONE bit of CIST.INCOMPLETE, which resets to 1 (R294). -/
theorem reset_flumeOn_cistIncomplete : State.reset.dev.flumeOn 0x7FC9 = true := by
  have hfld : FLUME.CFG_EN 0x7FC9 = CIST.INCOMPLETE_NONE := by decide
  have hbit : bitsOf (resetWord CIST.INCOMPLETE_at) 31 1 = 1 := by decide
  simp [Dev.flumeOn, hfld, Dev.on, Dev.rd, CIST.INCOMPLETE_NONE, reset_reg, hbit]

/-- Refutes O4: its clause on Flumes is said of every number, and "Flume" 0x7FC9, which the part does not have, reads as enabled, since its
EN bit would stand where CIST.INCOMPLETE.NONE does.  For the Flumes 0 to 63 the whole statement holds (`resetState_of_flume_lt`). -/
theorem not_resetState : ¬ Obligations.ResetState := by
  unfold Obligations.ResetState
  rintro ⟨-, -, -, -, -, hflume, -, -⟩
  have hoff : State.reset.dev.flumeOn 0x7FC9 = false := (hflume 0x7FC9).2
  exact absurd (hoff.symm.trans reset_flumeOn_cistIncomplete) Bool.false_ne_true
end
